-- ==== Sys2Proof/Word.lean ====
section
/-! DEFINITION. The word types of the register file and the sparse-map type the state uses. -/

namespace Sys2Proof

/-- A 32-bit register, descriptor word or Runner word (16 R374). -/
abbrev Word := BitVec 32

/-- One byte of the internal address space (01 R21). -/
abbrev Byte := BitVec 8

/-- A sparse table by number. Canonical form: keys strictly rising, no entry equal to the table's default value. -/
abbrev Table (V : Type) := List (Nat × V)

/-- The field of `width` bits of `w` that begins at bit `lo`, as a number (00 R10). -/
def field (w : Word) (lo width : Nat) : Nat := (w.toNat / 2 ^ lo) % 2 ^ width

/-- One bit of a register (00 R10). -/
def bit (w : Word) (i : Nat) : Bool := w.getLsbD i

/-- The signed value of `width` low bits of `n` in two's complement (06 R136). -/
def signed (width n : Nat) : Int :=
  let v := n % 2 ^ width
  if 2 * v < 2 ^ width then (v : Int) else (v : Int) - (2 ^ width : Nat)

end Sys2Proof
end

