-- ==== Sys2Proof/Machine/Types.lean ====
section
/-! DEFINITION. The types of the machine's state and of the commands' operands: plain data, one structure per unit the
spec gives a lane, each field with its width, the rule of spec/ that names it and its reset value. -/

namespace Sys2Proof

/-- The three lanes of the module (00 R1, 01 R16). -/
inductive LaneId where
  | a | b | c
  deriving DecidableEq, Repr

/-- The number of a lane: 0 A, 1 B, 2 C (16 Table 16.4). -/
def LaneId.num : LaneId → Nat
  | .a => 0
  | .b => 1
  | .c => 2

/-- The two requesters of a lane's registers (16, introduction). -/
inductive Requester where
  | host | internal
  deriving DecidableEq, Repr

/-- The requester is the host. -/
def Requester.isHost : Requester → Bool
  | .host => true
  | .internal => false

/-- What every command carries: the lane it concerns, and the CLK cycles of 4 ns that have passed in that lane since
the lane's previous command (log 2, log 3). -/
structure Hdr where
  lane : LaneId
  dt : Nat
  deriving DecidableEq, Repr

/-- A register write: who writes, the value, and the byte enables (14 R323, 16 R374). -/
structure Wr where
  req : Requester
  val : Word
  be : BitVec 4
  deriving DecidableEq, Repr

namespace Machine

/-- The read token and flags of one status register (16 R380, R381). -/
structure StatusReg where
  /-- SEQ, bits [31:24]. 8 bits, 16 R380, reset 0. -/
  seq : BitVec 8
  /-- The SQ flags, at their bit numbers. 32 bits, 16 R380, reset 0. -/
  flags : Word
  /-- The host's token: the recorded SEQ while FRESH, none while STALE. 16 R381, reset STALE. -/
  hostTok : Option (BitVec 8)
  /-- The internal requester's token, as hostTok. 16 R381, reset STALE. -/
  intTok : Option (BitVec 8)
  /-- The cycle of the last event, so that SEQ counts once in a cycle. 16 R380, reset none. -/
  cyc : Option Nat
  /-- The flags that the events of that cycle set. 32 bits, 16 R383, reset 0. -/
  fresh : Word
  /-- The host's token as it stood before the events of that cycle. 16 R383, reset STALE. -/
  hostWas : Option (BitVec 8)
  /-- The internal requester's token as it stood before the events of that cycle. 16 R383, reset STALE. -/
  intWas : Option (BitVec 8)
  deriving DecidableEq, Repr

/-- What the last register read returned (16 R376). -/
structure ReadData where
  /-- The requester that read. 16 R376. -/
  host : Bool
  /-- The offset read. 16 R376. -/
  off : Nat
  /-- The value returned. 32 bits, 16 R376. -/
  value : Word
  deriving DecidableEq, Repr

/-- Keys, refusal capture and latched cycle count (16). -/
structure Sys where
  /-- HOST_ARMED: the host's key is armed. 1 bit, 16 R384, reset 0. -/
  keyHost : Bool
  /-- INT_ARMED: the internal requester's key is armed. 1 bit, 16 R384, reset 0. -/
  keyInt : Bool
  /-- BADKEYS of SYS_KEYSTAT. 8 bits saturating, 16 Table 16.11, reset 0. -/
  badKeys : Nat
  /-- CLKHI as latched for the host. 32 bits, 16 R376 Table 16.8, reset 0. -/
  clkHiHost : Word
  /-- CLKHI as latched for the internal requester. 32 bits, 16 R376 Table 16.8, reset 0. -/
  clkHiInt : Word
  /-- REASON of SYS_REFUSED. 4 bits, 16 R387, reset 0. -/
  refReason : Nat
  /-- SRC of SYS_REFUSED: the internal requester made the refused write. 1 bit, 16 Table 16.13, reset 0. -/
  refInternal : Bool
  /-- OFFSET of SYS_REFUSED. 16 bits, 16 Table 16.13, reset 0. -/
  refOff : Nat
  /-- REFUSED of SYS_REFCNT. 16 bits saturating, 16 R387, reset 0. -/
  refused : Nat
  /-- STALE of SYS_REFCNT. 16 bits saturating, 16 R382, reset 0. -/
  stale : Nat
  /-- The value the last read command returned: the model's own field for the read completion. 16 R376, reset none. -/
  lastRead : Option ReadData
  deriving DecidableEq, Repr

/-- One Pattern timebase (02 R42, R44). -/
structure Pt where
  /-- PT_VALID. 1 bit, 02 R43, reset 0. -/
  valid : Bool
  /-- HELD. 1 bit, 02 R44, reset 0. -/
  held : Bool
  /-- The timebase value PT. 32 bits, 02 R42, reset 0. -/
  angle : Word
  /-- REV, the signed revolution counter. 16 bits, 02 R42, reset 0. -/
  rev : BitVec 16
  /-- RATE in Pattern units per CLK with 8 fraction bits. 32 bits signed, 02 R44, reset 0. -/
  rate : Int
  /-- `run`: Pattern units moved since the snap. 32 bits, 02 R44, reset 0. -/
  run : Nat
  /-- `acc`: the 8 fraction bits below the unit. 8 bits, 02 R44, reset 0. -/
  acc : Nat
  /-- ts, the last snap cycle. 02 R55, reset 0. -/
  snapAt : Nat
  /-- The place of the last snap: REV and the snapped angle. 48 bits, 02 R55, reset 0. -/
  snapPos : BitVec 48
  deriving DecidableEq, Repr

/-- The prediction of an entry's next occurrence (02 R55). -/
structure Pred where
  /-- The place of the occurrence: the revolution and the angle. 48 bits, 02 R55. -/
  occ : BitVec 48
  /-- The direction of travel of the prediction: forward. 02 R55. -/
  fwd : Bool
  /-- P in sixteenths of a cycle. 02 R55. -/
  p : Nat
  /-- Δ, Pattern units from the snapped angle. 02 R55. -/
  delta : Nat
  /-- ts, the cycle of the snap it was made from. 02 R55. -/
  snap : Nat
  deriving DecidableEq, Repr

/-- What an EDGE entry has fixed at its commit (02 R58). -/
structure Commit where
  /-- The timestamp in cycles. 02 R58. -/
  ts : Nat
  /-- The fine-delay tap. 4 bits, 02 R58. -/
  tap : Nat
  /-- The place of the occurrence committed. 48 bits, 02 R58. -/
  occ : BitVec 48
  /-- The direction of travel at the commit. 02 R58. -/
  fwd : Bool
  /-- P at the commit, for TL_PERR. 02 R58. -/
  p : Nat
  deriving DecidableEq, Repr

/-- One entry of the event table with the TLE's own record of it (02 R52, R55). -/
structure Entry where
  /-- W0. 32 bits, 02 Table 2.3, reset 0. -/
  w0 : Word
  /-- W1. 32 bits, 02 Table 2.3, reset 0. -/
  w1 : Word
  /-- W2. 32 bits, 02 Table 2.3, reset 0. -/
  w2 : Word
  /-- W3. 32 bits, 02 Table 2.3, reset 0. -/
  w3 : Word
  /-- W4. 32 bits, 02 Table 2.3, reset 0. -/
  w4 : Word
  /-- W5. 32 bits, 02 Table 2.3, reset 0. -/
  w5 : Word
  /-- A one-shot WCLK-bound entry has fired. 02 R54, reset 0. -/
  done : Bool
  /-- The cycle of the COMMIT: the entry acts from the next one. 02 R54, R62, reset 0. -/
  commitAt : Nat
  /-- The places of occurrences that fired and that the timebase has not yet moved HYST beyond. 48 bits each, 02 R57, reset
  none. -/
  spent : List (BitVec 48)
  /-- The prediction held. 02 R55, reset none. -/
  pred : Option Pred
  /-- The cycle in which the re-prediction after a snap completes. 02 R56, reset none. -/
  dirtyAt : Option Nat
  /-- An OFFSET write came last before the owed re-prediction: the next occurrence is the one ahead of the timebase as it stands.
  02 R45, reset 0. -/
  fromNow : Bool
  /-- The occurrences that unprocessed snaps carried the timebase past, in the order passed, with the direction. 02 R55, reset
  none. -/
  missed : List (BitVec 48 × Bool)
  /-- The EDGE commit of the present occurrence. 02 R58, reset none. -/
  edge : Option Commit
  /-- The error of a committed occurrence that a snap passed, recorded with the re-prediction. 02 R58, reset none. -/
  edgeErr : Option Nat
  /-- The target in ns that a WCLK-bound EDGE entry committed last. 02 R62, reset none. -/
  sent : Option Nat
  /-- The present EDGE occurrence has been delayed by its port already. 02 R59, reset 0. -/
  deferred : Bool
  deriving DecidableEq, Repr

/-- An EDGE that has reached its base instant and is not committed: its DELAY is longer than LEAD, or it fired on a snap
(02 R58). -/
structure EdgeDue where
  /-- The timestamp and the tap; none for a firing on a snap. 02 R58. -/
  stamp : Option (Nat × Nat)
  /-- DELAY of a firing on a snap. 16 bits, 02 R58. -/
  delay : Nat
  /-- The angle of the occurrence. 32 bits, 02 R55. -/
  angle : Word
  /-- The direction of travel: forward. 02 R55. -/
  fwd : Bool
  deriving DecidableEq, Repr

/-- An action that waits for its DELAY or its port (02 R58, R59). -/
structure Due where
  /-- The entry, 0–255. 02 R59. -/
  entry : Nat
  /-- ACTION, Table 2.4. 02 R58. -/
  action : Nat
  /-- ARG. 24 bits, 02 Table 2.3. -/
  arg : Nat
  /-- The cycle it falls in. 02 R58, R59. -/
  cyc : Nat
  /-- It has been delayed by its port already. 02 R59. -/
  deferred : Bool
  /-- What an EDGE action commits. 02 R58. -/
  edge : Option EdgeDue
  deriving DecidableEq, Repr

/-- The previous accepted reference event (02 R48). -/
structure RefEvent where
  /-- The error e in ns. 02 R48. -/
  e : Int
  /-- The capture cycle. 02 R48. -/
  cycle : Nat
  /-- What slew and steps had added to WCLK by then, in 2^-32 ns. 02 R48. -/
  added : Int
  deriving DecidableEq, Repr

/-- The timeline engine, the Pattern timebases and WCLK (02). -/
structure Timeline where
  /-- PT0–PT7. 02 R42, reset unsynchronised. -/
  pt : Vector Pt 8
  /-- The event table by entry, 256 entries of six words. 02 R52, reset all zero. -/
  entries : Table Entry
  /-- Actions waiting for their DELAY or their port. 02 R58, R59, reset none. -/
  due : List Due
  /-- The last cycle each port dispatched in: ADC, LOOP, RUNNER, SERVICE. 02 R59, reset none. -/
  portAt : Vector (Option Nat) 4
  /-- PASSED of TL_COUNT. 16 bits saturating, 02 Table 2.12, reset 0. -/
  passed : Nat
  /-- DEFERRED of TL_COUNT. 16 bits saturating, 02 Table 2.12, reset 0. -/
  deferred : Nat
  /-- MAX of TL_PERR. 24 bits, 02 Table 2.13, reset 0. -/
  perrMax : Nat
  /-- ENTRY of TL_PERR. 8 bits, 02 Table 2.13, reset 0. -/
  perrEntry : Nat
  /-- WCLK in units of 2^-32 ns: seconds, ns and 32 hidden fraction bits. 110 bits, 02 R46, reset 0. -/
  wclk : Nat
  /-- The slew term in 2^-32 ns per CLK. 02 R46, R48, reset 0. -/
  slew : Int
  /-- The cycle in which the slew term ends. 02 R48, reset 0. -/
  slewEnd : Nat
  /-- What the slew term and steps have added to WCLK, in 2^-32 ns. 02 R48, reset 0. -/
  added : Int
  /-- SEC_HI as latched by a read of TL_WSEC_LO. 16 bits, 02 Table 2.20, reset 0. -/
  latchHi : Nat
  /-- NS as latched by a read of TL_WSEC_LO. 30 bits, 02 Table 2.20, reset 0. -/
  latchNs : Nat
  /-- PHASE_VALID. 1 bit, 02 R46, reset 0. -/
  phaseValid : Bool
  /-- SEC_VALID. 1 bit, 02 R46, reset 0. -/
  secValid : Bool
  /-- SLEWING. 1 bit, 02 R49, reset 0. -/
  slewing : Bool
  /-- STEP_ARMED. 1 bit, 02 R49, reset 0. -/
  stepArmed : Bool
  /-- REFUSAL_PENDING. 1 bit, 02 R48, reset 0. -/
  refusal : Bool
  /-- TL_PEND_STEP in ns. 32 bits signed, 02 R48, reset 0. -/
  pendStep : Int
  /-- TL_PPS_ERR in ns. 32 bits signed, 02 Table 2.24, reset 0. -/
  ppsErr : Int
  /-- The previous accepted reference event. 02 R48, reset none. -/
  prevRef : Option RefEvent
  /-- The cycle of the last accepted PPS edge. 02 R47, reset none. -/
  ppsLast : Option Nat
  /-- No PPS_MISSING until the next accepted edge: it has been set, or SRC has changed. 02 R47, reset 0. -/
  ppsMissed : Bool
  /-- TL_CAPSn as full stamps in ns. 78 bits each, 02 R61, reset 0. -/
  capS : Vector Nat 6
  /-- TL_CAPLn as full stamps in ns. 78 bits each, 02 R61, reset 0. -/
  capL : Vector Nat 6
  deriving DecidableEq, Repr
/-- The ONCE arming states (03 Table 3.3). -/
inductive ArmState where
  | disarmed | armed | fired
  deriving DecidableEq, Repr

/-- The state of the speed estimator (03 R80). -/
inductive EstState where
  | standstill | firstEdge | reversal | deHold | run
  deriving DecidableEq, Repr

/-- The counter of a feedback unit in quadrature mode, and its index (03 R66–R71). -/
structure Counter where
  /-- RAW. 32 bits signed, 03 R66, reset 0. -/
  raw : Word
  /-- POS; for a toothed counter the tooth position. 32 bits signed, 03 R68, reset 0. -/
  pos : Word
  /-- DIR: reverse. 1 bit, 03 R68, reset forward. -/
  rev : Bool
  /-- PENDING: a count against DIR is absorbed. 1 bit, 03 R68, reset 0. -/
  pending : Bool
  /-- DE_TOTAL. 16 bits saturating, 03 R67, reset 0. -/
  deTotal : Nat
  /-- Double edges in the window. 03 R67, reset 0. -/
  winDe : Nat
  /-- Counts of travel in the double-edge window. 16 bits, 03 R67, reset 0. -/
  winTravel : Nat
  /-- IDXPOS. 32 bits signed, 03 R69, reset 0. -/
  idxPos : Word
  /-- IDXSTATE. 2 bits, 03 R70, reset DISARMED. -/
  arm : ArmState
  /-- The arming state before the ARM or DISARM commands of a cycle, with that cycle. 03 R70, reset none. -/
  armWas : Option (Nat × ArmState)
  /-- IDXVAL before the writes of a cycle, with that cycle. 03 Table 3.7, reset none. -/
  idxValWas : Option (Nat × Word)
  /-- The gated index condition held when the lines were last presented. 1 bit, 03 R69, reset 0. -/
  idxHeld : Bool
  deriving DecidableEq, Repr

/-- The toothed-wheel counter (03 R72–R74). -/
structure Tooth where
  /-- t_last, none before the first tooth. 03 R72, reset none. -/
  tLast : Option Nat
  /-- The previous interval. 03 R72, reset 0. -/
  iv : Nat
  /-- Intervals measured so far, up to 2. 03 R72, reset 0. -/
  ivs : Nat
  /-- The threshold loaded, with 8 fraction bits. 03 R72, reset none. -/
  thresh : Option Nat
  /-- The tooth whose THRESH_LOAD is owed. 03 R72, reset none. -/
  owed : Option Nat
  /-- teeth, counted since the last reference, to NTOOTH + 1 at most. 9 bits, 03 R73, reset 0. -/
  teeth : Nat
  /-- TEETH: teeth counted between the last two references. 8 bits, 03 Table 3.26, reset 0. -/
  teethLast : Nat
  /-- SYNC. 1 bit, 03 R73, reset 0. -/
  sync : Bool
  /-- MISRUN. 2 bits, 03 R73, reset 0. -/
  misRun : Nat
  /-- MM_TOTAL. 8 bits saturating, 03 R73, reset 0. -/
  mmTotal : Nat
  /-- The direction of the last tooth: reverse. 03 R74, reset forward. -/
  rev : Bool
  /-- An extra tooth has been merged: the next pulse is tooth position 0. 03 R72, reset 0. -/
  extra : Bool
  deriving DecidableEq, Repr

/-- The Hall decoder (03 R76). -/
structure Hall where
  /-- The committed index 0–5, 7 unknown (HALLIDX). 3 bits, 03 R76, reset 7. -/
  idx : Nat
  /-- The index last seen, which differs from the committed one by a pending count. 3 bits, 03 R76, reset 7. -/
  seen : Nat
  /-- Its own direction: reverse. 1 bit, 03 R76, reset forward. -/
  rev : Bool
  /-- A pending count. 1 bit, 03 R76, reset 0. -/
  pending : Bool
  /-- A direction has been established by a transition. 1 bit, 03 Table 3.6, reset 0. -/
  hasDir : Bool
  /-- The invalid and skip events of the last six valid transitions: for each, the transitions since. 03 R76, reset none. -/
  events : List Nat
  /-- The cycle since which the state has been invalid. 03 R76, reset none. -/
  invalidAt : Option Nat
  deriving DecidableEq, Repr

/-- The SENT receiver (03 R77–R79, Table 3.27). -/
structure Sent where
  /-- ANGLE. 12 bits, 03 R78, reset 0. -/
  angle : Nat
  /-- AUX. 12 bits, 03 Table 3.27, reset 0. -/
  aux : Nat
  /-- STATUS. 4 bits, 03 Table 3.27, reset 0. -/
  status : Nat
  /-- C of the serial message. 1 bit, 03 Table 3.27, reset 0. -/
  serC : Bool
  /-- NEW. 1 bit, 03 Table 3.27, reset 0. -/
  serNew : Bool
  /-- ID of the serial message. 8 bits, 03 Table 3.27, reset 0. -/
  serId : Nat
  /-- DATA of the serial message. 16 bits, 03 Table 3.27, reset 0. -/
  serData : Nat
  /-- SER. 8 bits saturating, 03 R78, reset 0. -/
  errSer : Nat
  /-- CRC. 8 bits saturating, 03 R78, reset 0. -/
  errCrc : Nat
  /-- TICK. 8 bits saturating, 03 R78, reset 0. -/
  errTick : Nat
  /-- NIB. 8 bits saturating, 03 R78, reset 0. -/
  errNib : Nat
  /-- The previous sync interval. 03 R78, reset none. -/
  prevSync : Option Nat
  /-- Consecutive accepted frames, up to 2. 03 R79, reset 0. -/
  accRun : Nat
  /-- SENT_VALID. 1 bit, 03 R79, reset 0. -/
  valid : Bool
  /-- The cycle of the last accepted frame, or of the restart. 03 R79, reset the reset cycle. -/
  lastAt : Nat
  /-- SENT_LOST has been raised since the last accepted frame. 03 R79, reset 0. -/
  lost : Bool
  /-- The sign of the last angle difference: reverse. 03 R80, reset none. -/
  rev : Option Bool
  /-- Bits 3 and 2 of the status nibbles of the last accepted frames in a row, newest first, up to 18. 03 R78, reset none. -/
  serial : List (Bool × Bool)
  deriving DecidableEq, Repr

/-- The speed estimator of a unit (03 R80, R81). -/
structure Estimator where
  /-- STANDSTILL, FIRST_EDGE, REVERSAL, DE_HOLD or RUN. 03 R80, reset STANDSTILL. -/
  state : EstState
  /-- SPEED in counts/s with 8 fraction bits. 32 bits signed, 03 R80, reset 0. -/
  speed : Int
  /-- t_prev. 03 R80, reset 0. -/
  tPrev : Nat
  /-- de_first. 1 bit, 03 R80, reset 0. -/
  deFirst : Bool
  /-- WINMODE. 1 bit, 03 R81, reset 0. -/
  winMode : Bool
  /-- t_ref. 03 R81, reset 0. -/
  tRef : Nat
  /-- t_last. 03 R81, reset 0. -/
  tLast : Nat
  /-- N. 03 R81, reset 0. -/
  n : Nat
  /-- The sign of the counts in the window: reverse. 03 R81, reset forward. -/
  rev : Bool
  /-- The cycle of the last committed update, from which TSS runs. 03 R80, reset 0. -/
  lastUpd : Nat
  /-- The grid window end taken last. 03 R81, reset none. -/
  winEnd : Option Nat
  deriving DecidableEq, Repr

/-- The cross-checks of a unit (03 R84). -/
structure CrossCheck where
  /-- XOFF. 16 bits, 03 R84, reset unset. -/
  xoff : Option Nat
  /-- SOFF. 12 bits, 03 R84, reset unset. -/
  soff : Option Nat
  /-- HDIFF. 16 bits signed, 03 R84, reset 0. -/
  hdiff : Int
  /-- SDIFF. 16 bits signed, 03 R84, reset 0. -/
  sdiff : Int
  /-- Consecutive failures of the Hall check. 03 R84, reset 0. -/
  hRun : Nat
  /-- Consecutive failures of the SENT check. 03 R84, reset 0. -/
  sRun : Nat
  deriving DecidableEq, Repr

/-- One feedback unit (03 R64). -/
structure Unit where
  /-- The counter and its index. 03 R66, reset as Table 3.6. -/
  cnt : Counter
  /-- The toothed wheel. 03 R72, reset as Table 3.6. -/
  tooth : Tooth
  /-- The Hall decoder. 03 R76, reset as Table 3.6. -/
  hall : Hall
  /-- The SENT receiver. 03 R77, reset as Table 3.6. -/
  sent : Sent
  /-- The speed estimator. 03 R80, reset as Table 3.6. -/
  est : Estimator
  /-- The cross-checks. 03 R84, reset as Table 3.6. -/
  xchk : CrossCheck
  /-- CNT_FAULT. 1 bit, 03 R85, reset 0. -/
  cntFault : Bool
  /-- HALL_FAULT. 1 bit, 03 R85, reset 0. -/
  hallFault : Bool
  /-- SENT_FAULT. 1 bit, 03 R85, reset 0. -/
  sentFault : Bool
  deriving DecidableEq, Repr
/-- A SENT frame as the receiver measures it (03 R78): intervals in CLK cycles, and the verdict of the CRC that
SAE J2716 defines (03 Table 3.5; log 20). -/
structure SentFrame where
  /-- The sync interval. 03 R78. -/
  sync : Nat
  /-- The nibble intervals: status, data nibbles, CRC. 03 R78. -/
  nibbles : List Nat
  /-- The pause interval, where a pause pulse came. 03 Table 3.5. -/
  pause : Option Nat
  deriving DecidableEq, Repr
/-- Correction coefficients of a slice (04 R101). -/
structure Coef where
  /-- OFF in 1/16 LSB. 16 bits signed, 04 R101, reset from OTP (R103). -/
  off : Int
  /-- GAIN as unsigned 1.15. 16 bits, 04 R101, reset from OTP (R103). -/
  gain : Nat
  /-- SKEW in 0.5 ps. 8 bits signed, 04 R101, reset from OTP (R103). -/
  skew : Int
  deriving DecidableEq, Repr

/-- One SAR slice (04 R90). -/
structure Slice where
  /-- USABLE bit. 1 bit, 04 R108, reset 1. -/
  usable : Bool
  /-- The coefficients in service. 04 R101, reset from OTP. -/
  coef : Coef
  /-- Coefficients that the slice takes when it next enters a position. 04 R105, reset none. -/
  next : Option Coef
  /-- TURNS. 8 bits saturating, 04 Table 4.16, reset 0. -/
  turns : Nat
  deriving DecidableEq, Repr

/-- One converter (04 R90, R104). -/
structure Converter where
  /-- The five slices. 04 R90. -/
  slice : Vector Slice 5
  /-- POSMAP: the slice in each position, none for empty. 04 R90, reset 0, 1, 2, 3. -/
  pos : Vector (Option Nat) 4
  /-- SPARE. 04 R90, reset 4. -/
  spare : Option Nat
  /-- TRAINED. 1 bit, 04 R107, reset 0. -/
  trained : Bool
  /-- The position the next turn's spare takes. 2 bits, 04 R104, reset 0. -/
  turnPos : Nat
  /-- The cycle the present turn began in. 04 R104, 11 R273, reset the release; the entry into RUN begins a turn. -/
  turnAt : Nat
  /-- EFF of the present turn in µs: a shortened value applies from the next turn. 16 bits, 04 R104, 11 R265, reset 1,000. -/
  eff : Nat
  /-- A turn has ended accepted and its swap is owed. 04 R104, reset 0. -/
  swapOwed : Bool
  /-- The position that took the last monitor hold. 04 R96, reset 3, so that P0 is first. -/
  lastPos : Nat
  /-- The cycle the present interval of in-service checks began in. 04 R110, reset the release. -/
  insvcAt : Nat
  /-- The positions checked in the present interval, as a mask. 4 bits, 04 R110, reset 0. -/
  insvcDone : Nat
  deriving DecidableEq, Repr

/-- A conversion in a slice (04 R91). -/
structure Flight where
  /-- The converter. 04 R91. -/
  m : Nat
  /-- The slice. 04 R91. -/
  slice : Nat
  /-- The entry, or none for an inserted in-service conversion. 04 R102, R110. -/
  entry : Option Nat
  /-- The channel code held. 04 Table 4.1. -/
  ch : Nat
  /-- The ZERO to subtract. 04 R101. -/
  zero : Nat
  /-- The hold cycle. 04 R91. -/
  cyc : Nat
  /-- The CONTROL sequence, none for MONITOR. 04 R98. -/
  seq : Option Nat
  /-- jit of the sequence. 04 R98. -/
  jit : Nat
  deriving DecidableEq, Repr

/-- A request of a CONTROL sequence (04 R95). -/
structure SeqReq where
  /-- The sequence. 4 bits, 04 R95. -/
  k : Nat
  /-- tn, the nominal instant. 04 R95. -/
  tn : Nat
  /-- The nominal instant has come. 04 R97. -/
  arrived : Bool
  deriving DecidableEq, Repr

/-- The CONTROL sequence that runs (04 R97). -/
structure SeqRun where
  /-- The sequence. 04 R97. -/
  k : Nat
  /-- t0. 04 R97. -/
  t0 : Nat
  /-- S as it was at t0. 04 R109. -/
  s : Nat
  /-- jit. 04 R97. -/
  jit : Nat
  /-- The next entry number j to hold. 04 R97. -/
  j : Nat
  /-- The slices in the occupied positions of each converter at t0, in order, with their positions. 04 R94, R109. -/
  occ : Vector (List (Nat × Nat)) 4
  deriving DecidableEq, Repr

/-- The conversion block (04). -/
structure Conversion where
  /-- CV0–CV3. 04 R90. -/
  cv : Vector Converter 4
  /-- Conversions in slices. 04 R91, reset none. -/
  flights : List Flight
  /-- Requests pending. 04 R95, reset none. -/
  reqs : List SeqReq
  /-- The sequence that runs. 04 R97, reset none. -/
  run : Option SeqRun
  /-- ENTRY: the next monitor entry, counted from FIRST of its descriptor. 5 bits, 04 R96, reset 0. -/
  monEntry : Nat
  /-- DESC: the descriptor of the next monitor entry. 4 bits, 04 R96, reset 0. -/
  monDesc : Nat
  /-- ROUNDS. 16 bits wrapping, 04 R96, reset 0. -/
  rounds : Nat
  /-- SUSPENDED. 1 bit, 04 R97, reset 0. -/
  suspended : Bool
  /-- The cycle of the last monitor hold. 04 R96, reset none. -/
  monAt : Option Nat
  /-- The cycle from which a resumed monitor may hold. 04 R97, reset 0. -/
  resumeAt : Nat
  /-- CV_RESm_j at 32 m + j. 04 R102, reset all zero. -/
  res : Table Word
  /-- The cycle in which CV_RESm_j was written, at 32 m + j. 04 R102, reset 0. -/
  resAt : Table Nat
  /-- TRIG_LOST of CV_COUNT. 16 bits saturating, 04 Table 4.9, reset 0. -/
  trigLost : Nat
  /-- OVERRUN of CV_COUNT. 16 bits saturating, 04 Table 4.9, reset 0. -/
  overrun : Nat
  /-- MAX of CV_JIT. 16 bits, 04 Table 4.10, reset 0. -/
  jitMax : Nat
  /-- SEQNO of CV_JIT. 4 bits, 04 Table 4.10, reset 0. -/
  jitSeq : Nat
  /-- EFF of CV_ROT in µs: that of the turn begun last. 16 bits, 04 R104, reset 1,000. -/
  eff : Nat
  deriving DecidableEq, Repr

/-- What a spare turn measures (04 R105, 11 Table 11.3): sums of raw codes and the readings of the internal channels. -/
structure TurnMeas where
  /-- The sum of the 64 REFLO conversions. 04 R105. -/
  lo : Nat
  /-- The sum of the 64 REFHI conversions. 04 R105. -/
  hi : Nat
  /-- The sum of the 64 RAMP conversions. 04 R105. -/
  ramp : Nat
  /-- The sum of the 64 REFMID conversions. 11 Table 11.3. -/
  mid : Nat
  /-- The sum of the 64 conversions of the shorted input. 11 Table 11.3. -/
  short : Nat
  /-- The sum of the 16 conversions of REFHI on reference B. 11 Table 11.3. -/
  hiB : Nat
  /-- Code 0x25: TJ in 0.1 °C. 11 R266. -/
  tj : Int
  /-- Code 0x26 in mV. 11 R269. -/
  vcore : Nat
  /-- Code 0x27: VDRV in mV. 11 R266. -/
  vdrv : Nat
  deriving DecidableEq, Repr
/-- One PWM period of an axis whose start the commutator has fixed (05 R119). -/
structure Period where
  /-- T_p, the period start in cycles. 05 R119. -/
  start : Nat
  /-- Its commands have been formed. 05 R119. -/
  formed : Bool
  /-- The duty it was formed with. 16 bits signed, 05 R114. -/
  duty : Int
  /-- The sign its pattern was formed with: torque in the reverse direction. 05 R115, R119. -/
  rev : Bool
  /-- The DMIN it was formed with. 16 bits, 05 R132. -/
  dmin : Nat
  /-- The driven pattern in force at its start, none with every gate off. 05 R115. -/
  ds : Option Nat
  /-- Its cut-off has been taken. 05 R122. -/
  cut : Bool
  /-- The hold instant and the value of its CV0 shunt result. 05 R128, none before it. -/
  shunt : Option (Nat × Int)
  /-- The missing-phase test has looked at it. 05 R128. -/
  judged : Bool
  deriving DecidableEq, Repr

/-- A sector boundary that has committed (05 R120). -/
structure Boundary where
  /-- Tb in sixteenths of a cycle. 05 R120. -/
  tb : Nat
  /-- The sector entered. 05 R118. -/
  rs : Nat
  /-- The sector left. 05 R120. -/
  old : Nat
  /-- Its words wait for the forming of the period that contains it. 05 R120. -/
  waits : Bool
  deriving DecidableEq, Repr

/-- The back-EMF tracking of an axis (05 R123, R124). -/
structure Bemf where
  /-- t_prev and x_prev of the last sample used. 05 R123, reset none. -/
  prev : Option (Nat × Int)
  /-- The last boundary, in sixteenths of a cycle. 05 R123, R124, reset 0. -/
  lastB : Nat
  /-- t_zc_last in sixteenths of a cycle. 05 R123, reset none. -/
  tzc : Option Nat
  /-- Tzz in sixteenths of a cycle. 05 R123, reset 0. -/
  tzz : Nat
  /-- Consecutive accepted crossings within ±25 %, up to 6. 05 R124, reset 0. -/
  good : Nat
  /-- Consecutive misses. 05 R124, reset 0. -/
  miss : Nat
  deriving DecidableEq, Repr

/-- One commutator channel (05). -/
structure CmAxis where
  /-- DRIVE. 1 bit, 05 R129, reset 0 (IDLE). -/
  drive : Bool
  /-- LOCKED. 1 bit, 05 R124, reset 0. -/
  locked : Bool
  /-- FALLBACK. 1 bit, 05 R125, reset 0. -/
  fallback : Bool
  /-- LIMITED. 1 bit, 05 R127, reset 0. -/
  limited : Bool
  /-- LIMKIND: bit 0 voltage, bit 1 speed. 2 bits, 05 R127, reset 0. -/
  limKind : Nat
  /-- RS after the boundaries committed so far, none for unknown. 3 bits, 05 R112, reset 7. -/
  rs : Option Nat
  /-- DS of the period last formed, none for none. 3 bits, 05 R115, reset 7. -/
  ds : Option Nat
  /-- REASON. 3 bits, 05 Table 5.12, reset 0. -/
  reason : Nat
  /-- PM_U, PM_V, PM_W: the miss counters. 4 bits each, 05 R128, reset 0. -/
  pm : Vector Nat 3
  /-- The test sectors of each phase that had a counting period in this revolution, as a mask of two. 05 R128, reset 0. -/
  pmSeen : Vector Nat 3
  /-- The largest current of a counting period of each phase in this revolution, in quarter LSB. 05 R128, reset 0. -/
  pmMax : Vector Nat 3
  /-- The miss counter of each phase stands at PM_REV or above. 05 R128, reset 0. -/
  pmOver : Vector Bool 3
  /-- Boundaries into sector 0 that have committed and lie ahead: the ends of revolutions, in sixteenths. 05 R128, reset none. -/
  revs : List Nat
  /-- REF in counts/s with 8 fraction bits. 32 bits signed, 05 R126, reset 0. -/
  ref : Int
  /-- BSPD in counts/s with 8 fraction bits. 32 bits signed, 05 R123, reset 0. -/
  bspd : Int
  /-- DUTY_DEFERRED of CM_COUNTn. 16 bits saturating, 05 Table 5.14, reset 0. -/
  deferred : Nat
  /-- SECT_LATE of CM_COUNTn. 8 bits saturating, 05 Table 5.14, reset 0. -/
  late : Nat
  /-- SECT_RESYNC of CM_COUNTn. 8 bits saturating, 05 Table 5.14, reset 0. -/
  resync : Nat
  /-- The last duty the commutator holds. 16 bits signed, 05 R119, reset 0. -/
  duty : Int
  /-- A duty has arrived from a pass run after the last preset. 05 R130, reset 0. -/
  fresh : Bool
  /-- Period starts fixed and not yet past, earliest first. 05 R119, 04 R95, reset none. -/
  periods : List Period
  /-- Boundaries committed and not yet past, earliest first. 05 R120, reset none. -/
  bounds : List Boundary
  /-- The sector that the last cut-off read where it differed from the one held. 05 R122, reset none. -/
  differed : Option Nat
  /-- STARTs that await their cut-off: the CMD index of the pending operation, or none. 05 R129, reset none. -/
  starts : List (Option Nat)
  /-- The period start at which a STOP takes effect. 05 R129, reset none. -/
  stopAt : Option Nat
  /-- The sector source is lost. 05 R125, reset 0. -/
  sectLost : Bool
  /-- The period start from which a lost source holds every gate off. 05 R125, reset 0. -/
  lostAt : Nat
  /-- The cycle of a START that came in DRIVE, which a STOP of that cycle precedes. 05 R129, reset none. -/
  startSeen : Option Nat
  /-- The cycle of the last STOP taken, which a START of that cycle follows. 05 R129, reset none. -/
  stopSeen : Option Nat
  /-- The on words sent for an old off edge as a period was formed again: gate and sixteenths. 05 R119, reset none. -/
  relit : List (Nat × Nat)
  /-- The back-EMF tracking. 05 R123. -/
  bemf : Bemf
  deriving DecidableEq, Repr
/-- The stage states and results of a loop engine (06 R136, R140, R151). -/
structure Stages where
  /-- Mantissa of I at E4. 24 bits signed, 06 R140, reset 0. -/
  i : Int
  /-- Mantissa of IO at E0. 24 bits signed, 06 R140, reset 0. -/
  io : Int
  /-- Mantissas of N1.S1, N1.S2, N2.S1, N2.S2 at E5. 24 bits signed, 06 R140, reset 0. -/
  notch : Vector Int 4
  /-- E0–E7. 6 bits signed, 06 Table 6.17, reset −32. -/
  e : Vector Int 8
  /-- SATDIR: −1, 0 or 1. 2 bits, 06 R140, reset 0. -/
  satDir : Int
  /-- OSATDIR: −1, 0 or 1. 06 R140, reset 0. -/
  osatDir : Int
  /-- DPREV. 16 bits signed, 06 R140, reset 0. -/
  dprev : Int
  /-- D of the last pass. 16 bits signed, 06 Table 6.16, reset 0. -/
  duty : Int
  /-- CURLIM. 1 bit, 06 Table 6.16, reset 0. -/
  curLim : Bool
  deriving DecidableEq, Repr

/-- What a pass has formed by its end (06 R140, 05 R126, R127), for its registers, its telemetry and the commutator. -/
structure PassOut where
  /-- The stage states it leaves. 06 R140. -/
  st : Stages
  /-- TGT used. 06 Table 6.15. -/
  tgt : Int
  /-- PSP used. 06 Table 6.15. -/
  psp : Int
  /-- SPD latched. 06 Table 6.1. -/
  spd : Int
  /-- APOS latched. 06 Table 6.1. -/
  apos : Word
  /-- REF after the ramp. 05 R126. -/
  ref : Int
  /-- LIMITED after stage 1. 05 R127. -/
  limited : Bool
  /-- LIMKIND after stage 1. 05 R127. -/
  limKind : Nat
  /-- |V| × 32,768 above DMAX: the voltage-limit test. 06 R145. -/
  volt : Bool
  /-- The LE_STATUSn flags it sets, by bit. 06 Table 6.19. -/
  flags : Nat
  /-- Blocks that overflowed. 06 R138. -/
  ovf : Nat
  /-- JIT of the CENT result. 14 Table 14.9. -/
  jit : Nat
  /-- The sample instant, WCLK in ns. 02 R61. -/
  capS : Nat
  /-- The loop start, WCLK in ns. 02 R61. -/
  capL : Nat
  /-- The lane was not ACTIVE at the pass. 14 R341. -/
  shadow : Bool
  deriving DecidableEq, Repr

/-- One loop engine (06). -/
structure LoopAxis where
  /-- The speed setpoint to be latched. 32 bits signed, 06 R151, reset 0. -/
  tgt : Int
  /-- The position setpoint to be latched. 32 bits signed, 06 R151, reset 0. -/
  psp : Int
  /-- The envelope stamp of TGT: seconds [1:0] and ns. 32 bits, 08 R207, reset none. -/
  tgtStamp : Option Word
  /-- The envelope stamp of PSP. 32 bits, 08 R207, reset none. -/
  pspStamp : Option Word
  /-- PSP has been received since reset. 1 bit, 06 R151, reset 0. -/
  pspSeen : Bool
  /-- A speed setpoint this lane accepted while not ACTIVE, with its stamp. 08 R207, reset none. -/
  heldTgt : Option (Int × Word)
  /-- A position setpoint this lane accepted while not ACTIVE, with its stamp. 08 R207, reset none. -/
  heldPsp : Option (Int × Word)
  /-- The stage states. 06 R151. -/
  st : Stages
  /-- The TGT that the last pass used. 32 bits signed, 06 Table 6.15, reset 0. -/
  usedTgt : Int
  /-- The PSP that the last pass used. 32 bits signed, 06 Table 6.15, reset 0. -/
  usedPsp : Int
  /-- ACTIVE: the bank of the last pass. 1 bit, 06 Table 6.12, reset 0. -/
  bank : Nat
  /-- A ZERO waits for the next pass start. 1 bit, 06 R153, reset 0. -/
  zero : Bool
  /-- A LOOP_START waits for its results. 1 bit, 01 R34, reset 0. -/
  waiting : Bool
  /-- RAMP governs the pass armed last: it was in force at its LOOP_START. 1 bit, 09 R226, reset 0. -/
  ramping : Bool
  /-- The speed setpoint of a pass armed before RAMP was taken, which RAMP does not affect. 09 R226, reset none. -/
  spared : Option Int
  /-- REF and TGT stay 0 after a RESUME of RAMP until a new setpoint arrives. 1 bit, 09 R229, reset 0. -/
  rest : Bool
  /-- The cycle of the previous pass start. 06 R133, reset none. -/
  passAt : Option Nat
  /-- The pass that runs. 06 R134, reset none. -/
  flight : Option PassOut
  /-- The last pass completed. 14 R341, reset none. -/
  last : Option PassOut
  /-- The pass count, modulo 65,536. 16 bits, 14 Table 14.9, reset 0. -/
  passes : Nat
  /-- The EVT record of BANK_EMPTY has been written since the axis entered DRIVE. 06 R149, reset 0. -/
  emptyTold : Bool
  /-- SKIPPED. 16 bits saturating, 06 Table 6.20, reset 0. -/
  skipped : Nat
  /-- OVF. 8 bits saturating, 06 Table 6.20, reset 0. -/
  ovf : Nat
  /-- SATPASS. 8 bits saturating, 06 Table 6.20, reset 0. -/
  satPass : Nat
  deriving DecidableEq, Repr

/-- The loop engines and their coefficient banks (06). -/
structure Loops where
  /-- LE0–LE5. 06 R133. -/
  axis : Vector LoopAxis 6
  /-- The coefficient words by axis * 512 + bank * 256 + word. 06 R147, reset all zero (log 9). -/
  banks : Table Word
  /-- EMPTY, bit 2 * axis + bank. 12 bits, 06 R149, reset all set. -/
  empty : BitVec 12
  deriving DecidableEq, Repr
/-- A word waiting in the Runner port (07 R163). -/
structure PortWord where
  /-- The 32 bits. 07 R161. -/
  word : Word
  /-- The timestamp as a full cycle, for command words and TOKEN raises. 07 R163. -/
  ts : Option Nat
  deriving DecidableEq, Repr

/-- The lane-die side of the Runner link (07 R157–R163, R183, R184). -/
structure Port where
  /-- Class 1: TOKEN drop, SAFE, ISOLATE and CHOPFLT words. 07 R163, reset none. -/
  c1 : List PortWord
  /-- Class 2: urgent words. 07 R163, reset none. -/
  c2 : List PortWord
  /-- Class 3: ordinary words. 07 R163, reset none. -/
  c3 : List PortWord
  /-- Class 4: CFG words. 07 R163, R184, reset none. -/
  c4 : List PortWord
  /-- An ALIGN word is owed. 07 R160, reset 1. -/
  alignOwed : Bool
  /-- Blocks sent since the last ALIGN word. 07 R160, reset 0. -/
  sinceAlign : Nat
  /-- The cycle the last block began in. 07 R157, reset none. -/
  blockAt : Option Nat
  /-- The payload words of the block in progress that have left so far; empty between blocks. 07 R157, R163, reset empty. -/
  part : List Word
  /-- The last block sent: three payload words and the check word. 07 R157, reset none. -/
  lastBlock : List Word
  /-- The cycle of the last verified return block. 07 R159, reset none. -/
  lastReturn : Option Nat
  /-- GD_LOST has been raised since the last verified return block. 07 R159, reset 0. -/
  gdLost : Bool
  /-- BASE of the failed blocks reported so far, newest first, at most 4. 07 R159, reset none. -/
  failed : List Nat
  /-- Consecutive CFGCRC mismatches. 07 R184, reset 0. -/
  cfgBad : Nat
  /-- The last LEVELS word. 32 bits, 07 R183, reset 0. -/
  levels : Word
  /-- A LEVELS word has arrived. 07 R183, reset 0. -/
  levelsSeen : Bool
  /-- The cycle since which LEVELS words have shown VDRV good clear. 07 R175, reset none. -/
  vdrvLow : Option Nat
  /-- A LEVELS word has shown VDRV good since reset: VDRV_x can have fallen only from there. 07 R175, reset 0. -/
  vdrvSeen : Bool
  /-- Trigger 0x05 has been raised for the present VDRV_UV. 07 R175, reset 0. -/
  vdrvRaised : Bool
  /-- LATE of GD_COUNT. 16 bits saturating, 07 Table 7.21, reset 0. -/
  late : Nat
  /-- RUN_LOST of GD_COUNT. 8 bits saturating, 07 Table 7.21, reset 0. -/
  runLost : Nat
  /-- QFULL of GD_COUNT. 8 bits saturating, 07 Table 7.21, reset 0. -/
  qfull : Nat
  /-- LOCKED of GD_DT. 1 bit, 07 R167, reset 0. -/
  dtLocked : Bool
  /-- The cycle of a chopper turn-on that the lane die is judging. 07 R178, reset none. -/
  chopAt : Option Nat
  /-- A chopper-current result of that turn-on has come, and whether one has reached CHOP_IMIN. 07 R178, reset none. -/
  chopRes : Option Bool
  deriving DecidableEq, Repr

/-- A command word or TOKEN raise in the gate-drive die's queue (07 R163). -/
structure QWord where
  /-- GATE 0–42, or 62 for a TOKEN raise. 07 Table 7.3. -/
  gate : Nat
  /-- LVL. 07 Table 7.2. -/
  on : Bool
  /-- The instant in sixteenths of a cycle. 07 R161. -/
  t : Nat
  deriving DecidableEq, Repr

/-- The state of one switch of the gate-drive die, gates 0–35 (07). -/
structure Switch where
  /-- Shadow level. 1 bit, 07 R164, reset off. -/
  shadow : Bool
  /-- Output level (OUT of GD_AXSTATn). 1 bit, 07 R180, reset off. -/
  out : Bool
  /-- The instant of the last turn-off of the output, in sixteenths. 07 R166, reset none. -/
  offAt : Option Nat
  /-- The instant of the last turn-on of the output, in sixteenths. 07 R171, reset none. -/
  onAt : Option Nat
  /-- DSBLANK as it stood at that turn-on, in cycles. 07 R171, R186, reset 0. -/
  dsBlank : Nat
  /-- OCBLANK as it stood at that turn-on, in cycles. 07 R172, R186, reset 0. -/
  ocBlank : Nat
  /-- A turn-on waits out the dead time. 1 bit, 07 R166, reset 0. -/
  waiting : Bool
  /-- Off by BOOT_UV (BOOTUV of GD_AXSTATn, high sides). 1 bit, 07 R168, reset 0. -/
  bootUv : Bool
  /-- On words since the BOOT_UV trip. 07 R169, reset 0. -/
  bootWords : Nat
  /-- The cycle of the BOOT_UV trip. 07 R169, reset 0. -/
  bootAt : Nat
  /-- The end of the RETRY hold, none when no trip holds (HOLD of GD_AXSTATn). 07 R173, reset none. -/
  hold : Option Nat
  /-- The persistent-fault counter. 07 R174, reset 0. -/
  pf : Nat
  /-- The cycle of its last count-up or count-down. 07 R174, reset 0. -/
  pfAt : Nat
  /-- Latched off by a persistent fault (PERSIST of GD_AXSTATn). 1 bit, 07 R174, reset 0. -/
  latched : Bool
  deriving DecidableEq, Repr

/-- A return word that waits for a slot (07 R183). -/
structure RetWord where
  /-- The 32 bits. 07 Table 7.9. -/
  word : Word
  /-- Blocks it has waited. 07 R183. -/
  waited : Nat
  deriving DecidableEq, Repr

/-- The gate-drive die (07). -/
structure Die where
  /-- The link is aligned. 1 bit, 07 R160, reset 0. -/
  aligned : Bool
  /-- The die's count less the lane's CLK count. 20 bits, 07 R160, reset 0. -/
  off : Nat
  /-- The cycle of the last verified forward block, none while the heartbeat timer does not run. 07 R159, R185, reset none. -/
  hbAt : Option Nat
  /-- Heartbeat loss is in force. 1 bit, 07 R159, reset 0. -/
  hbLost : Bool
  /-- LOSS_SAFE has elapsed. 1 bit, 07 R181, reset 0. -/
  lossSafe : Bool
  /-- The queue, at most 256 words, in order of arrival. 07 R163, reset empty. -/
  queue : List QWord
  /-- The 36 switches. 07 R113, reset off. -/
  sw : Vector Switch 36
  /-- The shadow level of gate 36, the chopper. 1 bit, 07 R179, reset off. -/
  chopShadow : Bool
  /-- BRKG_x is on. 1 bit, 07 R177, reset off. -/
  chopOut : Bool
  /-- The shadow levels of BRL0–BRL5. 1 bit each, 07 R164, reset low. -/
  brlShadow : Vector Bool 6
  /-- The BRL outputs. 1 bit each, 07 R180, reset low. -/
  brlOut : Vector Bool 6
  /-- The token is held. 1 bit, 07 R164, reset 0. -/
  token : Bool
  /-- Isolated. 1 bit, 07 R162, reset 0. -/
  isolated : Bool
  /-- The SAFE mask. 6 bits, 07 R162, reset 0. -/
  safe : Nat
  /-- VDRV_UV is in force, or VDRV_x is not yet good. 1 bit, 07 R175, reset 1 until the regulator is good. -/
  vdrvUv : Bool
  /-- The cycle since which VDRV_x has been below release. 07 R175, reset none. -/
  vdrvAt : Option Nat
  /-- OV1 is in force. 1 bit, 07 R177, reset 0. -/
  ov1 : Bool
  /-- GEN_LIMIT is in force. 1 bit, 07 R177, reset 0. -/
  genLimit : Bool
  /-- OV3 is in force. 1 bit, 07 R177, reset 0. -/
  ov3 : Bool
  /-- The cycle OV3 was entered in. 07 R177, reset 0. -/
  ov3At : Nat
  /-- CHOP_FAULT. 1 bit, 07 R178, reset 0. -/
  chopFault : Bool
  /-- The cycle of the chopper turn-on under test. 07 R178, reset none. -/
  chopTest : Option Nat
  /-- The configuration shadow by INDEX. 07 R184, reset the reset values of the GD_ registers. -/
  cfg : Table Word
  /-- The half of a shadow word that has arrived: INDEX, HALF and DATA. 07 R184, reset none. -/
  half : Option (Nat × Bool × Nat)
  /-- EVENT and FBLK words waiting, oldest first. 07 R183, reset none. -/
  events : List RetWord
  /-- A CFGCRC word is due. 1 bit, 07 R183, reset 0. -/
  crcDue : Bool
  /-- OVF_EVT for the next LEVELS word. 1 bit, 07 R183, reset 0. -/
  ovfEvt : Bool
  /-- Return blocks sent. 07 R183, reset 0. -/
  blocks : Nat
  /-- The cycle the last return block began in. 07 R183, reset none. -/
  blockAt : Option Nat
  /-- The last return block sent. 07 R183, reset none. -/
  lastBlock : List Word
  deriving DecidableEq, Repr
/-- The lane roles (08 Table 8.1). -/
inductive Role where
  | offline | spare | standby | active | withdrawn
  deriving DecidableEq, Repr

/-- The token-line states (08 R192); silent where no valid code is received. -/
inductive Line where
  | idle | claim | hold | silent
  deriving DecidableEq, Repr

/-- The mirrored items of one axis (08 Table 8.9, AXIS record). -/
structure AxisRec where
  /-- TGT with 8 fraction bits. 32 bits signed, 08 Table 8.9. -/
  tgt : Int
  /-- PSP. 32 bits signed, 08 Table 8.9. -/
  psp : Int
  /-- The envelope WCLK stamp of TGT: seconds [1:0] and ns. 08 Table 8.9. -/
  tgtStamp : Option Word
  /-- The envelope WCLK stamp of PSP. 08 Table 8.9. -/
  pspStamp : Option Word
  /-- REF with 8 fraction bits. 08 Table 8.9. -/
  ref : Int
  /-- LIMITED. 08 Table 8.9. -/
  limited : Bool
  /-- LIMKIND. 08 Table 8.9. -/
  limKind : Nat
  /-- I, its mantissa at E4. 08 Table 8.9. -/
  i : Int
  /-- E4. 08 Table 8.9. -/
  e4 : Int
  /-- IO, its mantissa at E0. 08 Table 8.9. -/
  io : Int
  /-- E0. 08 Table 8.9. -/
  e0 : Int
  /-- The four notch states at E5. 08 Table 8.9. -/
  notch : Vector Int 4
  /-- E5. 08 Table 8.9. -/
  e5 : Int
  /-- DRIVE. 08 Table 8.9. -/
  drive : Bool
  /-- REASON of the last START. 08 Table 8.9. -/
  reason : Nat
  /-- AOFF. 08 Table 8.9. -/
  aoff : Word
  /-- The ONCE arming state. 08 Table 8.9. -/
  arm : ArmState
  /-- OFFSET of the axis's timebase. 08 Table 8.9. -/
  offset : Word
  deriving DecidableEq, Repr

/-- The safety state of one axis as mirrored (08 Table 8.9, 09 R230). -/
structure SafeRec where
  /-- The functions in CLAMP, as a mask. 09 R230. -/
  clampBy : Nat
  /-- Positive duties are formed as 0. 09 R225, R230. -/
  blockPos : Bool
  /-- Negative duties are formed as 0. 09 R225, R230. -/
  blockNeg : Bool
  /-- RAMP is latched. 09 R230. -/
  ramp : Bool
  /-- RT of the function that took RAMP. 09 R226, R230. -/
  rampRt : Nat
  /-- SAFE is latched. 09 R230. -/
  safe : Bool
  /-- STOPPED. 09 R230. -/
  stopped : Bool
  /-- The violation counters of SLS, SLP and SDI. 09 R230. -/
  cnt : Vector Nat 3
  /-- The stop counter. 09 R230. -/
  stopCnt : Nat
  /-- M, none while unset. 09 R230. -/
  m : Option Int
  /-- E. 09 R230. -/
  e : Int
  /-- PREF, none while unset. 09 R230. -/
  pref : Option Int
  /-- The brake state. 09 R230. -/
  brk : Nat
  /-- T_rel as WCLK in ns. 09 R228, R230. -/
  tRel : Option Nat
  /-- T_a as WCLK in ns. 09 R228, R230. -/
  tA : Option Nat
  /-- BPER. 09 R228, R230. -/
  bper : Nat
  /-- BRAMP. 09 R228, R230. -/
  bramp : Nat
  deriving DecidableEq, Repr

/-- The mirrored items of the lane (08 Table 8.9, LANE record). -/
structure LaneRec where
  /-- OFFSET of PT6. 08 Table 8.9. -/
  off6 : Word
  /-- OFFSET of PT7. 08 Table 8.9. -/
  off7 : Word
  /-- WCLK carried, in ns. 08 R205. -/
  wclk : Nat
  /-- The safety state of the six axes. 08 Table 8.9. -/
  safe : Vector SafeRec 6
  /-- PROF selected. 09 R218, R230. -/
  prof : Nat
  /-- PROF in force. 09 R230. -/
  profAct : Nat
  /-- LIMP forcing. 09 R230. -/
  limp : Bool
  /-- The schedule mode of Sprue A. 08 Table 8.9. -/
  modeA : Nat
  /-- The schedule mode of Sprue B. 08 Table 8.9. -/
  modeB : Nat
  /-- The module condition. 08 Table 8.9. -/
  cond : Nat
  deriving DecidableEq, Repr

/-- One peer lane as this lane hears it (08 Table 8.25). -/
structure Peer where
  /-- ROLE. 3 bits, 08 Table 8.25, reset 0. -/
  role : Nat
  /-- HEALTH. 2 bits, 08 Table 8.25, reset 0. -/
  health : Nat
  /-- HEARD. 3 bits, 08 Table 8.25, reset 0. -/
  heard : Nat
  /-- COND. 2 bits, 08 Table 8.25, reset 0. -/
  cond : Nat
  /-- Consecutive heartbeats that reported a lower condition, and the condition. 08 R190, reset none. -/
  lower : Nat × Nat
  /-- HOLDER as the peer sees it. 2 bits, 08 Table 8.6, reset 3. -/
  holder : Nat
  /-- PATHS of the peer. 3 bits, 08 Table 8.6, reset 0. -/
  paths : Nat
  /-- ITEM of the peer. 8 bits, 08 Table 8.6, reset 0. -/
  item : Nat
  /-- The axis-configuration word heard, zero for none. 18 bits, 01 R31, reset 0. -/
  axcfg : Nat
  /-- LINE. 2 bits, 08 Table 8.25, reset silent. -/
  line : Line
  /-- BADFRAME. 2 bits saturating, 08 Table 8.25, reset 0. -/
  bad : Nat
  /-- The cycle of the last verified frame, from which AGE runs. 08 Table 8.25, reset none. -/
  lastAt : Option Nat
  /-- The cycle of the last verified heartbeat, whose health field counts. 08 R190, reset none. -/
  beatAt : Option Nat
  /-- The cycle since which it has been heard as SPARE or STANDBY and HEALTHY without a break. 08 R190, reset none. -/
  readySince : Option Nat
  /-- The cycle since which frames have been verified again on a lost link. 08 R195, reset none. -/
  backSince : Option Nat
  /-- RISER_LOST has been reported for the link. 08 R194, R195, reset 0. -/
  lost : Bool
  /-- The loss of the link has been charged to one of its ends. 08 R195, reset 0. -/
  judged : Bool
  /-- The lane has been declared silent-released or counted FAILED by its silence. 08 R190, R194, reset 0. -/
  silent : Bool
  /-- The item of the peer for which this lane, as the holder, has raised a request since the peer was last HEALTHY; zero for
  none. 8 bits, 08 R191, reset 0. -/
  asked : Nat
  deriving DecidableEq, Repr

/-- A controlled handover as the holder runs it (08 R197). -/
structure Handover where
  /-- The cause's code. 08 Table 8.4. -/
  code : Nat
  /-- T_h in this lane's cycles. 08 R197. -/
  th : Nat
  /-- A CLAIM of the STANDBY has been seen. 08 R197. -/
  claimed : Bool
  deriving DecidableEq, Repr

/-- A frame this lane has sent on its Riser ports (08 R193, R197, R204). -/
inductive RiserTx where
  /-- A heartbeat, five words, on the ports of a mask. 08 Table 8.6. -/
  | heartbeat (ports : Nat) (words : List Word)
  /-- A HANDOVER frame with T_h as WCLK in ns, on the ports of a mask. 08 R197. -/
  | handover (ports : Nat) (th : Nat)
  /-- An AXIS record to the peer of a port, with its sequence there, at full rate or not. 08 R204. -/
  | axis (port seq n : Nat) (full : Bool) (r : AxisRec)
  /-- A LANE record to the peer of a port. 08 R204. -/
  | lane (port seq : Nat) (full : Bool) (r : LaneRec)
  /-- An ENV record to the peer of a port: connection and its expectation. 13 R314. -/
  | env (port seq : Nat) (k : Nat) (exp : Nat)
  deriving DecidableEq, Repr

/-- Role, health, token and mirror of a lane (08). -/
structure LaneCtl where
  /-- ROLE as the management view has it. 3 bits, 08 R188, reset OFFLINE. -/
  role : Role
  /-- The IMPAIRED causes in force, bit i for code 0x10 + i. 8 bits, 08 R189, reset 0. -/
  impaired : BitVec 8
  /-- FAILED is latched. 1 bit, 08 R189, reset 0. -/
  failed : Bool
  /-- This lane's token line. 2 bits, 08 R192, reset IDLE. -/
  line : Line
  /-- CODE of LN_CAUSE. 8 bits, 08 Table 8.21, reset 0. -/
  code : Nat
  /-- CLASS of LN_CAUSE. 8 bits, 08 Table 8.21, reset 0. -/
  cls : Nat
  /-- DETAIL of LN_CAUSE. 8 bits, 08 Table 8.21, reset 0. -/
  detail : Nat
  /-- The latest cause as an ITEM for heartbeats. 8 bits, 08 Table 8.6, reset 0. -/
  item : Nat
  /-- LEVEL of LN_REPLACE. 2 bits, 08 Table 8.22, reset 0. -/
  level : Nat
  /-- ITEM1 of LN_REPLACE. 8 bits, 08 Table 8.22, reset 0. -/
  item1 : Nat
  /-- ITEM2 of LN_REPLACE. 8 bits, 08 Table 8.22, reset 0. -/
  item2 : Nat
  /-- The cycle of the last trigger: of several in one cycle LN_CAUSE takes the lowest code. 10 Table 10.8, reset none. -/
  trigAt : Option Nat
  /-- COND: 0 FULL, 1 REDUCED, 2 LAST, 3 QUENCH. 2 bits, 08 R190, reset 3. -/
  cond : Nat
  /-- HOLDER: 0 A, 1 B, 2 C, 3 none. 2 bits, 08 Table 8.19, reset 3. -/
  holder : Nat
  /-- tc, the cycle of the CLAIM. 08 R199, reset 0. -/
  claimAt : Nat
  /-- The cycle in which the release was seen or declared. 08 R199, Table 8.24, reset none. -/
  releaseAt : Option Nat
  /-- The cycle in which the last CLAIM or HOLD of another lane was seen to end. 08 R199, reset none. -/
  quietAt : Option Nat
  /-- The claim answers a HANDOVER frame. 08 R199, reset 0. -/
  forHandover : Bool
  /-- The claim was won on a silent release. 08 R203, reset 0. -/
  silentWin : Bool
  /-- HOLD_SINCE as WCLK in ns, 0 while not holding. 08 R199, reset 0. -/
  holdSince : Nat
  /-- T_r of the raise sent. 08 R201, reset none. -/
  tr : Option Nat
  /-- Raises resent for one takeover. 08 Table 8.11, reset 0. -/
  resent : Nat
  /-- The token counts as held: a LEVELS word has confirmed it. 08 R196, R201, reset 0. -/
  held : Bool
  /-- The handover this lane runs as the holder. 08 R197, reset none. -/
  handover : Option Handover
  /-- A deferred cause that waits for a HEALTHY STANDBY or the next attempt. 08 R197, reset none. -/
  deferred : Option Nat
  /-- The period start at which an abandoned handover is tried again. 08 R197, reset 0. -/
  retryAt : Nat
  /-- The cycle another HOLD was first seen in while holding. 08 R200, reset none. -/
  splitAt : Option Nat
  /-- SILENT_HOLD. 1 bit, 08 R203, reset 0. -/
  silentHold : Bool
  /-- The lane whose silence released the token last, 3 for none. 2 bits, 08 R203, reset 3. -/
  silentOf : Nat
  /-- LIMP forcing adopted from the mirror. 1 bit, 09 R230, reset 0. -/
  limpMir : Bool
  /-- The peers, lower-lettered first. 08 Table 8.25. -/
  peer : Vector Peer 2
  /-- MAX of LN_TKO. 16 bits, 08 Table 8.24, reset 0. -/
  tkoMax : Nat
  /-- LAST of LN_TKO. 16 bits, 08 Table 8.24, reset 0. -/
  tkoLast : Nat
  /-- TAKEOVERS. 8 bits saturating, 08 Table 8.25, reset 0. -/
  takeovers : Nat
  /-- YIELDS. 8 bits saturating, 08 Table 8.25, reset 0. -/
  yields : Nat
  /-- CANCELLED. 8 bits saturating, 08 Table 8.25, reset 0. -/
  cancelled : Nat
  /-- VIEWS. 8 bits saturating, 08 Table 8.25, reset 0. -/
  views : Nat
  /-- The frame sequence of heartbeats. 16 bits wrapping, 08 Table 8.6, reset 0. -/
  hbSeq : Nat
  /-- The cycle of the last heartbeat sent. 08 R193, reset none. -/
  hbAt : Option Nat
  /-- A word equal to its own has been heard. 01 R31, reset 0. -/
  agreed : Bool
  /-- The paths judged lost: Sprue A, Sprue B, host. 3 bits, 08 R211, reset 0. -/
  pathLost : Nat
  /-- The lost paths charged to this lane. 3 bits, 08 R211, reset 0. -/
  charged : Nat
  /-- The start of the confirmation window of each path. 08 R211, reset none. -/
  pathAt : Vector (Option Nat) 3
  /-- The bus-off or expiry state of each path as this lane sees it: alive. 3 bits, 08 Table 8.18, reset 0. -/
  alive : Nat
  /-- The last sequence of each record kind received: AXIS 0–5, LANE 6, ENV 7. 08 R204, reset none. -/
  mirSeq : Vector (Option Nat) 8
  /-- Consecutive records of each kind that failed their check. 08 R204, reset 0. -/
  mirMiss : Vector Nat 8
  /-- The next sequence of each record kind on each port, at 8 × port + kind. 16 bits wrapping, 08 R204, reset 0. -/
  seqOut : Vector Nat 16
  /-- The latest verified AXIS record of each axis, as the mirror region holds it. 08 R205, reset none. -/
  keptAxis : Vector (Option AxisRec) 6
  /-- The latest verified LANE record. 08 R205, reset none. -/
  keptLane : Option LaneRec
  /-- The latest verified ENV records, by identity and path: the holder's expectation. 08 R205, 13 R314, reset none. -/
  keptEnv : List ((Word × Nat) × Nat)
  /-- The latest AXIS record of each axis that has not been adopted. 08 R204, reset none. -/
  axisRec : Vector (Option AxisRec) 6
  /-- The axes of which a full-rate AXIS record has arrived since promotion began. 6 bits, 08 R204, reset 0. -/
  axisGot : Nat
  /-- A full-rate LANE record has arrived since promotion began. 08 R204, reset 0. -/
  laneGot : Bool
  /-- As the holder: the peer being promoted. 08 R204, reset none. -/
  promoting : Option Nat
  /-- Passes of each axis since the last record to a SPARE. 08 R204, reset 0. -/
  axisPass : Vector Nat 6
  /-- LANE records sent at the STANDBY rate since the last one to a SPARE. 08 R204, reset 0. -/
  laneCount : Nat
  /-- The cycle of the last LANE record sent. 08 R204, reset none. -/
  laneRecAt : Option Nat
  /-- The cycle since which the views have differed. 08 R209, reset none. -/
  viewAt : Option Nat
  /-- SAFE with ENTER on every enabled axis has been sent for QUENCH. 08 R210, reset 0. -/
  quenched : Bool
  /-- LEAVE of every axis is owed at T_r. 08 R210, reset 0. -/
  leaveOwed : Bool
  /-- What the lane has sent on its Riser ports, oldest first. 08 R193, reset none. -/
  sent : List RiserTx
  deriving DecidableEq, Repr
/-- What the SFE latches at a LOOP_START for one evaluation (09 R216), with the SF_ words that it works with (09 Table 9.5). -/
structure EvalLatch where
  /-- The LOOP_START cycle. 09 R216. -/
  start : Nat
  /-- SPD, or CM_BSPDn on a BEMF axis. 32 bits signed, 09 R216. -/
  spd : Int
  /-- APOS. 32 bits, 09 R216. -/
  apos : Word
  /-- DIR: reverse. 1 bit, 09 R216. -/
  rev : Bool
  /-- The speed source holds a latched fault, or the sector source is lost. 1 bit, 09 R216, R223. -/
  spdLost : Bool
  /-- The counter holds a latched fault. 1 bit, 09 R216, R223. -/
  cntLost : Bool
  /-- The source of SPD reports STANDSTILL. 1 bit, 09 R226. -/
  still : Bool
  /-- The profile in force. 2 bits, 09 R219. -/
  prof : Nat
  /-- SF_CFGn to SF_PGDn as they stand. 10 words, 09 Tables 9.10 to 9.13. -/
  words : Vector Word 10
  /-- The deadline of 240 cycles has been reported. 1 bit, 09 R231. -/
  missed : Bool
  deriving DecidableEq, Repr

/-- The safety functions of one axis (09). Speeds M, E are in 1/64,000,000 counts/s, exact for every rate (log 10). -/
structure SafeAxis where
  /-- The functions that have taken CLAMP: bit 0 SLS, 1 SLP, 2 SDI. 3 bits, 09 R225, reset 0. -/
  clampBy : Nat
  /-- A positive duty is formed as 0 under CLAMP. 1 bit, 09 R225, reset 0. -/
  blockPos : Bool
  /-- A negative duty is formed as 0 under CLAMP. 1 bit, 09 R225, reset 0. -/
  blockNeg : Bool
  /-- RAMP is latched. 1 bit, 09 R226, reset 0. -/
  ramp : Bool
  /-- RT of the function that took RAMP. 4 bits, 09 R226, reset 1. -/
  rampRt : Nat
  /-- SAFE is latched. 1 bit, 09 R227, reset 0. -/
  safe : Bool
  /-- STOPPED. 1 bit, 09 R226, reset 0. -/
  stopped : Bool
  /-- BRK: 0 APPLIED, 1 RELEASED, 2 APPLYING. 2 bits, 09 R228, reset 0. -/
  brk : Nat
  /-- The evaluation in progress. 09 R216, reset none. -/
  pend : Option EvalLatch
  /-- The functions that stand at RT and have had their reaction, bit 0 SLS, 1 SLP, 2 SDI. 3 bits, 09 R224, reset 0. -/
  told : Nat
  /-- The functions whose CLAMP or RAMP is recorded on the IDLE axis. 3 bits, 09 Table 9.5, reset 0. -/
  recBy : Nat
  /-- The violation counters of SLS, SLP and SDI. 4 bits each, 09 R224, reset 0. -/
  cnt : Vector Nat 3
  /-- The stop counter. 4 bits, 09 R226, reset 0. -/
  stopCnt : Nat
  /-- VIOL: the last evaluation violating, bit 0 SLS, 1 SLP, 2 SDI. 3 bits, 09 Table 9.15, reset 0. -/
  viol : Nat
  /-- An input was lost at the last evaluation. 1 bit, 09 R229, reset 0. -/
  inLost : Bool
  /-- M, unset before the first evaluation. 09 R219, reset none. -/
  m : Option Int
  /-- E, the stop envelope. 09 R226, reset 0. -/
  e : Int
  /-- PREF, unset after reset, enable, RESUME or fault clear. 32 bits signed, 09 R222, reset none. -/
  pref : Option Int
  /-- SPD latched at the last evaluation. 32 bits signed, 09 R219, reset 0. -/
  spdLast : Int
  /-- The cycle in which the last evaluation completed. 09 R231, reset none. -/
  evalAt : Option Nat
  /-- T_rel as WCLK in ns. 09 R228, reset none. -/
  tRel : Option Nat
  /-- T_rel in this lane's cycles. 09 R228, reset none. -/
  relAt : Option Nat
  /-- T_a as WCLK in ns. 09 R228, reset none. -/
  tA : Option Nat
  /-- T_a in this lane's cycles. 09 R227, reset none. -/
  taAt : Option Nat
  /-- The cycle in which RAMP was taken. 09 R226, reset 0. -/
  rampAt : Nat
  /-- The BRL low word that ends the apply ramp has been formed; the ramp ends at its period start. 1 bit, 09 R228, reset 0. -/
  rampLow : Bool
  /-- The next ramp period k. 09 R228, reset 0. -/
  rampK : Nat
  /-- BPER of the ramp in force, in µs. 16 bits, 09 R228, reset 0. -/
  bper : Nat
  /-- BRAMP of the ramp in force, in ms. 16 bits, 09 R228, reset 0. -/
  bramp : Nat
  /-- The ramp runs for the QUENCH of 08 R210, not for a reaction. 1 bit, 09 R227, reset 0. -/
  forQuench : Bool
  /-- A RESUME waits for the next evaluation. 1 bit, 09 R229, reset 0. -/
  resume : Bool
  /-- The first driven period start after a START is awaited. 1 bit, 09 R228, reset 0. -/
  awaitDrive : Bool
  deriving DecidableEq, Repr

/-- The safety-function engine (09). -/
structure SafetyEngine where
  /-- The axes. 09 R216. -/
  axis : Vector SafeAxis 6
  /-- PROF_ACT: the profile in force. 2 bits, 09 R218, reset 0. -/
  prof : Nat
  /-- LIMP_FORCED as the setpoints were last limited by it. 1 bit, 09 R217, R218, reset 0. -/
  limp : Bool
  /-- Evaluations of the lane, modulo 256. 8 bits, 09 R231, reset 0. -/
  evals : Nat
  /-- KATS. 8 bits wrapping, 09 Table 9.9, reset 0. -/
  kats : Nat
  /-- MAXCYC. 8 bits saturating, 09 Table 9.9, reset 0. -/
  maxCyc : Nat
  deriving DecidableEq, Repr
/-- The source codes of Table 10.3, 0x00–0x0F (10 R248). -/
abbrev SrcCode := Nat

/-- What an access to a line meets in error, beside what its code words hold (10 Table 10.1): of a read, the bits that arrive
wrong; of a write of a whole line, the bits that are stored wrong. -/
structure LineErr where
  /-- The data bits of words 0–3 in error. 64 bits each, 10 R236. -/
  data : Vector (BitVec 64) 4
  /-- The inner check bits of words 0–3 in error. 8 bits each, 10 R236. -/
  chk : Vector (BitVec 8) 4
  /-- The outer check bits in error. 16 bits, 10 R236. -/
  outer : BitVec 16
  /-- An address in the line that the address decoder selects in place of the one accessed. 10 Table 10.1. -/
  other : Option Nat
  deriving DecidableEq, Repr

/-- The check bits of a line in the array (10 R236, R242). -/
structure LineCode where
  /-- The inner check bits of words 0–3. 8 bits each, 10 R236. -/
  inner : Vector (BitVec 8) 4
  /-- The outer check. 16 bits, 10 R237. -/
  outer : BitVec 16
  /-- The bits of the line that a faulty write left wrong in the array. 10 Table 10.1. -/
  flaw : LineErr
  deriving DecidableEq, Repr

/-- A corrected word that waits to be written back (10 R239). -/
structure WriteBack where
  /-- The word's internal address. 10 R239. -/
  addr : Nat
  /-- The corrected word. 64 bits, 10 R239. -/
  word : BitVec 64
  deriving DecidableEq, Repr

/-- A written line whose check bits are to be read again (10 R242). -/
structure Verify where
  /-- The line's internal address. 10 R242. -/
  line : Nat
  /-- The requester. 10 Table 10.3. -/
  src : SrcCode
  /-- The cycle of the write. 10 R242. -/
  cyc : Nat
  /-- The inner check bits that were written. 8 bits each, 10 R242. -/
  inner : Vector (BitVec 8) 4
  /-- The outer check that was written. 16 bits, 10 R242. -/
  outer : BitVec 16
  /-- The write was lost by an injection. 10 R255. -/
  inj : Bool
  deriving DecidableEq, Repr

/-- The instructions of the TAP (10 Table 10.5). -/
inductive TapIr where
  | bypass | idcode | sample | intest | runbist | usercode | extest | clamp | highz | dbgAccess
  deriving DecidableEq, Repr

/-- The captured fatal memory error (10 Tables 10.14, 10.15), held in Chill RAM. -/
structure Capture where
  /-- VALID. 1 bit, 10 Table 10.15, reset 0 at power-on. -/
  valid : Bool
  /-- KIND. 4 bits, 10 Table 10.15, reset 0 at power-on. -/
  kind : Nat
  /-- INJ. 1 bit, 10 Table 10.15, reset 0 at power-on. -/
  inj : Bool
  /-- PARK. 1 bit, 10 Table 10.15, reset 0 at power-on. -/
  park : Bool
  /-- SYNDROME. 8 bits, 10 Table 10.15, reset 0 at power-on. -/
  syn : Nat
  /-- SOURCE. 8 bits, 10 Table 10.15, reset 0 at power-on. -/
  src : Nat
  /-- ADDR. 32 bits, 10 Table 10.14, reset 0 at power-on. -/
  addr : Nat
  deriving DecidableEq, Repr

/-- An attaching instruction (10 Table 10.5). -/
def TapIr.attaching : TapIr → Bool
  | .extest | .clamp | .highz | .dbgAccess => true
  | .bypass | .idcode | .sample | .intest | .runbist | .usercode => false

/-- An instruction that drives the pads (10 R250). -/
def TapIr.drives : TapIr → Bool
  | .extest | .clamp | .highz => true
  | .bypass | .idcode | .sample | .intest | .runbist | .usercode | .dbgAccess => false

/-- An outer check that is not yet complete (10 R238, R241, R242). -/
structure LineCheck where
  /-- The line's internal address. 10 R238. -/
  line : Nat
  /-- The requester. 10 Table 10.3. -/
  src : SrcCode
  /-- The cycle of the delivery. 10 R238. -/
  cyc : Nat
  /-- The bytes of a write of less than a line, with the corrected line, which wait for the check. 10 R242. -/
  merge : Option (Nat × List Byte)
  /-- The access met an injection. 10 R255. -/
  inj : Bool
  /-- The stored outer check, exclusive-or the one computed over the corrected line. 16 bits, 10 R237, Table 10.15. -/
  diff : BitVec 16
  /-- The inner code found an uncorrectable error in the line. 10 Table 10.8. -/
  ue : Bool
  deriving DecidableEq, Repr

/-- Memory codes, lock-step, parity, debug access and injection (10). -/
structure Integrity where
  /-- The bytes written to SHM and Chill RAM, by internal address; an address not listed holds its fresh byte (SHM, log 5), zero
  (Chill RAM) or its ROM byte (log 6). 01 R21, reset none listed. -/
  mem : List Host.Cell
  /-- The check bits of the lines written, by internal address; a line not listed holds the codes of its bytes. 10 R236, R242,
  reset none listed. -/
  codes : Table (Option LineCode)
  /-- SHM of IG_CECOUNT. 16 bits saturating, 10 Table 10.11, reset 0. -/
  ceShm : Nat
  /-- ROM of IG_CECOUNT. 8 bits saturating, 10 Table 10.11, reset 0. -/
  ceRom : Nat
  /-- CHILL of IG_CECOUNT. 8 bits saturating, 10 Table 10.11, reset 0. -/
  ceChill : Nat
  /-- ADDR of IG_CEADDR. 32 bits, 10 Table 10.12, reset 0. -/
  ceAddr : Nat
  /-- SYNDROME of IG_CEINFO. 8 bits, 10 Table 10.13, reset 0. -/
  ceSyn : Nat
  /-- SOURCE of IG_CEINFO. 8 bits, 10 Table 10.13, reset 0. -/
  ceSrc : Nat
  /-- INJ of IG_CEINFO. 1 bit, 10 Table 10.13, reset 0. -/
  ceInj : Bool
  /-- HARD of IG_CEINFO. 1 bit, 10 Table 10.13, reset 0. -/
  ceHard : Bool
  /-- MEM of IG_CEINFO. 2 bits, 10 Table 10.13, reset 0. -/
  ceMem : Nat
  /-- The fatal capture. 10 Tables 10.14, 10.15, held in Chill RAM. -/
  cap : Capture
  /-- LINE of IG_SCRUB. 17 bits, 10 Table 10.16, reset 0. -/
  scrubLine : Nat
  /-- PASSES of IG_SCRUB. 12 bits wrapping, 10 Table 10.16, reset 0. -/
  passes : Nat
  /-- The word addresses corrected in this scrub pass. 10 R245, reset none. -/
  ceNow : List Nat
  /-- The word addresses corrected in the previous pass. 10 R245, reset none. -/
  cePrev : List Nat
  /-- The cycle from which the scrubber issues its next read: RATE cycles after its last one. 10 R243, reset 0. -/
  scrubAt : Nat
  /-- The cycle from which PARK scrubs its next line: 64 µs after its last one. 10 R244, reset 0. -/
  parkAt : Nat
  /-- The Chill RAM line that PARK scrubs next. 10 R244, reset 0. -/
  parkLine : Nat
  /-- The cause found in PARK or at restore, reported after the restart. 10 R244, reset none. -/
  parkFault : Option Nat
  /-- MODE of IG_LOCKSTEP: MIRROR. 1 bit, 10 R247, reset the strap LSMODE_x. -/
  mirror : Bool
  /-- Comparison is off: COMPARE reads 0. 1 bit, 10 R251, reset 0 at power-on. -/
  compareOff : Bool
  /-- The cycle of the last self-test of the comparators. 10 R248, reset none. -/
  selfAt : Option Nat
  /-- PASSED of IG_LOCKSTEP. 11 bits, 10 Table 10.17, reset 0. -/
  passed : Nat
  /-- LAST of IG_LOCKSTEP. 8 bits, 10 Table 10.17, reset 0. -/
  last : Nat
  /-- OFFSET of IG_PARITY. 16 bits, 10 Table 10.18, reset 0xFFFF. -/
  parOff : Nat
  /-- COUNT of IG_REGION. 6 bits saturating, 10 Table 10.18, reset 0. -/
  regCount : Nat
  /-- SOURCE of IG_REGION. 5 bits, 10 Table 10.18, reset 0. -/
  regSrc : Nat
  /-- OFFSET of IG_REGION. 21 bits, 10 Table 10.18, reset 0. -/
  regOff : Nat
  /-- DEBUG_UNLOCKED: the always-on latch cells, set when any is. 3 bits, 10 R252, reset 0 at power-on. -/
  unlocked : BitVec 3
  /-- The copy of DEBUG_UNLOCKED in its fixed Chill RAM word. 1 bit, 10 R252, reset 0 at power-on. -/
  unlockedCopy : Bool
  /-- The instruction that the TAP holds. 10 R249, reset IDCODE (PRESUMED: IEEE 1149.1, log 37). -/
  tap : TapIr
  /-- An attaching instruction loaded in PARK, which acts at wake, and its code. 10 Table 10.8, reset none. -/
  attachWait : Option (TapIr × Nat)
  /-- GRANTED. 1 bit, 10 Table 10.19, reset 0. -/
  granted : Bool
  /-- WAITING. 1 bit, 10 Table 10.19, reset 0. -/
  waiting : Bool
  /-- PADS: EXTEST, CLAMP or HIGHZ is in force. 1 bit, 10 Table 10.19, reset 0. -/
  pads : Bool
  /-- The attaching instruction drives the pads. 10 R250, reset 0. -/
  wantPads : Bool
  /-- IR of IG_DEBUG. 8 bits, 10 Table 10.19, reset 0. -/
  ir : Nat
  /-- The armed injection: KIND and TARGET. 10 R255, reset none. -/
  inj : Option (Nat × Nat)
  /-- Outer checks not yet complete, oldest first. 10 R238, reset none. -/
  checks : List LineCheck
  /-- Lines written whose check bits are to be read again, oldest first. 10 R242, reset none. -/
  verify : List Verify
  /-- Corrected words to be written back, oldest first. 10 R239, reset none. -/
  wback : List WriteBack
  /-- MODEL'S OWN: the line that the last access delivered. 10 R238, reset none. -/
  delivered : Option (Nat × List Byte)
  deriving DecidableEq, Repr
/-- TS_TESTk (11 Table 11.21). -/
structure TestRes where
  /-- RESULT: 0 not run, 1 PASS, 2 FAIL, 3 SKIPPED, 4 ABANDONED. 3 bits, 11 Table 11.21, reset 0. -/
  result : Nat
  /-- CELL. 8 bits, 11 Table 11.21, reset 0. -/
  cell : Nat
  /-- DUR in µs. 16 bits, 11 Table 11.21, reset 0. -/
  dur : Nat
  deriving DecidableEq, Repr

/-- A request for on-demand tests (11 R262). -/
structure ShakeReq where
  /-- The tests not yet ended, as a mask of 17. 11 R262. -/
  mask : Nat
  /-- The tests named. 14 R338. -/
  asked : Nat
  /-- The tests that found a failure. 14 R338. -/
  failed : Nat
  /-- The CMD index of a SHAKEOUT descriptor, none for TS_CMD. 11 R262. -/
  tag : Option Nat
  deriving DecidableEq, Repr

/-- What a test of a gate cell measures (11 Table 11.3): errors in 0.01 % of threshold, sink resistance in mΩ. -/
structure CellMeas where
  /-- Desaturation comparator. 11 Table 11.4. -/
  desat : Int
  /-- BOOT_UV comparator, for a high side. 11 Table 11.4. -/
  boot : Int
  /-- Shunt comparator of axis i/6, for cell 6n. 11 Table 11.3. -/
  shunt : Int
  /-- Sink resistance. 11 Table 11.4. -/
  sink : Nat
  deriving DecidableEq, Repr

/-- A gate cell under test (11 R264). -/
structure CellTest where
  /-- The cell. 11 R264. -/
  gate : Nat
  /-- The cycle the test began in. 11 R264. -/
  cyc : Nat
  /-- What it measures, taken when the test is complete. 11 R263, R264. -/
  meas : CellMeas
  deriving DecidableEq, Repr

/-- A CORE birth record (11 Table 11.6). -/
structure Birth where
  /-- S_P,k in ps. 48 × 16 bits, 11 Table 11.6. -/
  slack : List Int
  /-- DREF_m in ppm. 11 Table 11.6. -/
  dref : List Int
  /-- RSINK_i in mΩ. 11 Table 11.6. -/
  sink : List Nat
  /-- TJ in 0.1 °C. 11 Table 11.6. -/
  tj : Int
  /-- The VCORE steps taken. 11 Table 11.6. -/
  steps : Nat
  /-- ERR_g in 0.01 %. 11 Table 11.6. -/
  err : List Int
  /-- The trims. 11 Table 11.6. -/
  trim : List Int
  deriving DecidableEq, Repr

/-- A level rise that waits for the burn of the progress word (11 R271, R277). -/
structure Rise where
  /-- The quantity code of Table 11.4; 0 for memory wear, 255 where no birth record can be written. 11 R271, R274. -/
  q : Nat
  /-- Its figure. 11 R271. -/
  figure : Int
  /-- The new level of the quantity. 11 R271. -/
  level : Nat
  deriving DecidableEq, Repr

/-- An OTP programming in progress (11 R274, R277). -/
inductive Burn where
  /-- A CORE record into a slot. 11 R274. -/
  | core (slot : Nat) (b : Birth)
  /-- A CLOCK record into a slot: XO. 11 R274. -/
  | clock (slot : Nat) (xo : Int)
  /-- The progress word: a VCORE step or not, and the rises. 11 R277. -/
  | progress (step : Bool) (rises : List Rise)
  deriving DecidableEq, Repr

/-- Temper and Shakeout (11). -/
structure Temper where
  /-- TS_TESTk, k = 0–16. 11 Table 11.21, reset 0. -/
  tests : Vector TestRes 17
  /-- The start test that runs and the cycle it began in. 11 R258, reset none until SVC boot ends. -/
  startAt : Option (Nat × Nat)
  /-- DONE of TS_SHK. 1 bit, 11 Table 11.15, reset 0. -/
  done : Bool
  /-- UNUSABLE of TS_SHK. 5 bits, 11 Table 11.15, reset 0. -/
  unusable : Nat
  /-- FAILMASK of TS_SHK. 17 bits, 11 Table 11.15, reset 0. -/
  failMask : Nat
  /-- Start failures whose causes are owed: test and cell, oldest first. 11 R261, reset none. -/
  fails : List (Nat × Nat)
  /-- On-demand requests, the running one first. 11 R262, reset none. -/
  reqs : List ShakeReq
  /-- The on-demand test that runs and the cycle it began in. 11 R262, reset none. -/
  running : Option (Nat × Nat)
  /-- The factory record has passed its check. 1 bit, 11 R276, reset 1. -/
  factoryOk : Bool
  /-- LEVEL of TS_WEAR. 2 bits, 11 Table 11.11, reset OTP. -/
  level : Nat
  /-- L_SLACK. 2 bits, 11 Table 11.11, reset OTP. -/
  lSlack : Nat
  /-- L_DREF. 2 bits, 11 Table 11.11, reset 0. -/
  lDref : Nat
  /-- L_CMP. 2 bits, 11 Table 11.11, reset 0. -/
  lCmp : Nat
  /-- L_RSINK. 2 bits, 11 Table 11.11, reset 0. -/
  lSink : Nat
  /-- L_XO. 2 bits, 11 Table 11.11, reset 0. -/
  lXo : Nat
  /-- L_MEM. 2 bits, 11 Table 11.11, reset 0. -/
  lMem : Nat
  /-- CRITQ. 8 bits, 11 Table 11.11, reset 0. -/
  critq : Nat
  /-- STEPS of TS_VCORE. 3 bits, 11 Table 11.12, reset OTP. -/
  steps : Nat
  /-- MEAS of TS_VCORE in mV. 12 bits, 11 Table 11.12, reset 0. -/
  meas : Nat
  /-- Consecutive turns of each converter with VCORE outside its window. 11 R269, reset 0. -/
  vcRun : Vector Nat 4
  /-- TINT boundaries since the last VCORE step, none before the first. 11 R268, reset none. -/
  sinceStep : Option Nat
  /-- The cycle the present TINT began in. 11 R268, reset the entry into RUN. -/
  tintAt : Nat
  /-- TINT of slack samples taken. 11 R274, reset 0. -/
  tints : Nat
  /-- SMIN in ps. 16 bits signed, 11 Table 11.13, reset 0. -/
  smin : Int
  /-- IDX of SMIN. 6 bits, 11 Table 11.13, reset 0. -/
  sidx : Nat
  /-- PRESENT of TS_SLKk in ps. 16 bits signed, 11 Table 11.22, reset 0. -/
  slack : Vector Int 48
  /-- PRESENT of TS_DREFm in ppm. 16 bits signed, 11 Table 11.18, reset 0. -/
  dref : Vector Int 4
  /-- The sum and count of the drift samples of the present TINT. 11 Table 11.4, reset 0. -/
  drefAcc : Vector (Int × Nat) 4
  /-- TRIM of TS_CMPg. 5 bits signed, 11 Table 11.19, reset 0. -/
  trim : Vector Int 5
  /-- The error of each comparator by 64 * group + member, in 0.01 %. 11 Table 11.4, reset none measured. -/
  errs : Table (Option Int)
  /-- PRESENT of TS_SINKi in mΩ. 16 bits, 11 Table 11.23, reset 0. -/
  sink : Vector Nat 37
  /-- PRESENT of TS_XO in 0.01 ppm. 16 bits signed, 11 Table 11.14, reset 0. -/
  xo : Int
  /-- The sum of TRIM and the count of the present crystal window. 11 Table 11.4, reset 0. -/
  xoAcc : Int × Nat
  /-- A crystal window has completed since reset. 11 R274, reset 0. -/
  xoDone : Bool
  /-- TS_OPENm. 10 bits each, 11 Table 11.20, reset 0. -/
  opens : Vector Nat 4
  /-- GCELL: the next gate cell. 6 bits, 11 Table 11.17, reset 0. -/
  gcell : Nat
  /-- The cycle of the last gate-cell step. 11 R263, reset the entry into RUN. -/
  gcellAt : Nat
  /-- The gate cells measured at least once, as a mask of 37. 11 R274, reset 0. -/
  measured : Nat
  /-- The gate cell under test. 11 R264, reset none. -/
  cell : Option CellTest
  /-- The gate-cell interval in force, in cycles: a shortened value applies from the next step. 11 R265, reset 1,000 µs. -/
  gcellInt : Nat
  /-- The background test 16 in progress: the cycle it began in. 11 R260, R263, reset none. -/
  chopTest : Option Nat
  /-- TJ in 0.1 °C of the last spare turn. 11 R266, reset 0 (DESIGN CHOICE, log 9). -/
  tj : Int
  /-- VDRV_x in mV of the last spare turn. 11 R266, reset 0 (DESIGN CHOICE, log 9). -/
  vdrv : Nat
  /-- The cycle of the last background chopper test. 11 R263, reset the entry into RUN. -/
  chopAt : Nat
  /-- CE_STORM events since reset. 11 Table 11.5, reset 0. -/
  storms : Nat
  /-- HARD_BIT events since reset. 11 Table 11.4, reset 0. -/
  hards : Nat
  /-- The cycle in which DOZE stopped the background work. 11 R273, reset none. -/
  pausedAt : Option Nat
  /-- OTP: the progress word. 9 bits, 11 R277, kept through every reset; none burned on a new part (log 16). -/
  progress : Nat
  /-- OTP: each CORE slot: 0 blank, 1 valid, 2 failed. 11 Table 11.6, kept; blank on a new part (log 16). -/
  coreSlot : Vector Nat 2
  /-- OTP: the valid CORE record. 11 Table 11.6, kept; none on a new part (log 16). -/
  birth : Option Birth
  /-- OTP: each CLOCK slot: 0 blank, 1 valid, 2 failed. 11 Table 11.6, kept; blank on a new part (log 16). -/
  clockSlot : Vector Nat 2
  /-- OTP: XO of the valid CLOCK record. 11 Table 11.6, kept; none on a new part (log 16). -/
  xoBirth : Option Int
  /-- OTP programming in progress or waiting, oldest first. 11 R274, R277, reset none. -/
  burns : List Burn
  deriving DecidableEq, Repr
/-- A frame a lane hands to a protocol controller (12 R283, R284). -/
structure SprueTx where
  /-- The 11-bit identifier. 12 Table 12.3. -/
  ident : Nat
  /-- The data field. 12 Table 12.4. -/
  bytes : List Byte
  deriving DecidableEq, Repr

/-- A capture of WCLK at a SOF (12 R299, R300). -/
structure SprueCap where
  /-- The cycle of the capture. 12 R299. -/
  cyc : Nat
  /-- WCLK in ns. 12 R299. -/
  ns : Nat
  /-- What slew and steps had added to WCLK by then, in 2^-32 ns. 02 R48. -/
  added : Int
  /-- RANK of the poll. 12 R300. -/
  rank : Nat
  /-- CYCLE of the poll. 12 R300. -/
  cycle : Nat
  deriving DecidableEq, Repr

/-- One Sprue port: bus engine and protocol controller (12). -/
structure SprueBus where
  /-- The port is master. BUSROLE 3, 12 Table 12.17, reset 0. -/
  master : Bool
  /-- Mastership ends at the end of the slot in progress. 12 R298, reset 0. -/
  ending : Bool
  /-- It ends with MASTER_YIELD. 12 R298, Table 12.10, reset 0. -/
  yieldEnd : Bool
  /-- The cycle the idle wait started in, none while it does not run. 12 R295, reset none. -/
  idleAt : Option Nat
  /-- The idle wait in cycles, by IDLEW as it began. 12 R295, R305, reset 0. -/
  idleLen : Nat
  /-- The poll of the start of mastership has not begun. 12 R296, reset 0. -/
  first : Bool
  /-- The own poll of the slot in progress has ended in an error. 12 R297, reset 0. -/
  erred : Bool
  /-- LOADED: the modes that passed every check at their last window write. 4 bits, 12 R288, reset 0. -/
  loaded : Nat
  /-- BAD: the modes with an enabled slot that failed one. 4 bits, 12 R288, reset 0. -/
  bad : Nat
  /-- The idle wait has run out: master at the next slot-0 event. 12 R295, reset 0. -/
  ready : Bool
  /-- A slot is in progress at the master. 12 R289, reset 0. -/
  running : Bool
  /-- SLOT. 6 bits, 12 Table 12.17, reset 0. -/
  slot : Nat
  /-- The cycle the slot in progress started in. 12 R289, reset 0. -/
  slotAt : Nat
  /-- CYCLE. 8 bits, 12 Table 12.17, reset 0. -/
  cycle : Nat
  /-- The node whose response the slot awaits. 12 R292, reset none. -/
  target : Option Nat
  /-- A valid response of the node has come. 12 R292, reset 0. -/
  answered : Bool
  /-- The poll of the slot while it awaits its SOF. 12 R290, reset none. -/
  poll : Option SprueTx
  /-- The poll of the slot has lost arbitration. 12 R296, reset 0. -/
  lostArb : Bool
  /-- MODE in force. 2 bits, 12 Table 12.14, reset 0. -/
  mode : Nat
  /-- ANNOUNCED. 1 bit, 12 Table 12.14, reset 0. -/
  announced : Bool
  /-- The mode announced. 2 bits, 12 R293, reset 0. -/
  pend : Nat
  /-- PEND was rewritten while announced: announced anew at the next boundary. 12 R293, reset 0. -/
  rewritten : Bool
  /-- Nodes that acknowledged in the cycle in progress. 64 bits, 12 R293, reset 0. -/
  acked : Nat
  /-- A NAK came in the cycle in progress. 12 R293, reset 0. -/
  nak : Bool
  /-- ACK: acknowledgements of the last completed cycle. 64 bits, 12 Table 12.15, reset 0. -/
  ack : Nat
  /-- Nodes that answered in the cycle in progress. 64 bits, 12 R292, reset 0. -/
  seenNow : Nat
  /-- SEEN. 64 bits, 12 Table 12.15, reset 0. -/
  seen : Nat
  /-- HELD. 8 bits saturating, 12 Table 12.14, reset 0. -/
  held : Nat
  /-- MODE of the last poll heard since reset. 12 R294, reset none. -/
  heard : Option Nat
  /-- CYCLE of the last poll heard. 12 R295, reset none. -/
  heardCycle : Option Nat
  /-- The cycle of the last poll received. MSEEN, 12 Table 12.17, reset none. -/
  heardAt : Option Nat
  /-- MRANK. 4 bits, 12 Table 12.17, reset 0. -/
  mrank : Nat
  /-- The capture at the last SOF on the bus. 12 R299, reset none. -/
  sof : Option SprueCap
  /-- As master: CYCLE and capture of the last cycle-start poll sent. 12 R299, reset none. -/
  ownCap : Option (Nat × Nat)
  /-- As another node: the capture of the last cycle-start poll received. 12 R300, reset none. -/
  cap : Option SprueCap
  /-- ERRSTATE: 0 error-active, 1 error-passive, 2 bus-off. 2 bits, 12 Table 12.17, reset 0. -/
  err : Nat
  /-- TEC. 8 bits saturating, 12 Table 12.18, reset 0. -/
  tec : Nat
  /-- REC. 8 bits saturating, 12 Table 12.18, reset 0. -/
  rec_ : Nat
  /-- BUSOFF. 8 bits saturating, 12 Table 12.18, reset 0. -/
  busOff : Nat
  /-- TDCV. 8 bits, 12 Table 12.18, reset 0. -/
  tdcv : Nat
  /-- Consecutive own polls that ended in a bit or form error. 12 R297, reset 0. -/
  badPolls : Nat
  /-- The idle wait is lengthened until the next start. 12 R297, reset 0. -/
  clash : Bool
  /-- The response queued and not yet begun, and the slot end. 12 R291, reset none. -/
  resp : Option (SprueTx × Nat)
  /-- Frames sent whose echo has not been compared, oldest first. 12 R302, reset none. -/
  echo : List SprueTx
  /-- Consecutive echo differences. 12 R302, reset 0. -/
  echoRun : Nat
  /-- The path is marked lost by two echo differences. 12 R302, reset 0. -/
  echoLost : Bool
  /-- RESP_MISSING of SP_COUNT. 16 bits saturating, 12 Table 12.20, reset 0. -/
  missing : Nat
  /-- SLOT_LATE of SP_COUNT. 8 bits saturating, 12 Table 12.20, reset 0. -/
  late : Nat
  /-- YIELDS. 8 bits saturating, 12 Table 12.20, reset 0. -/
  yields : Nat
  /-- FOREIGN. 16 bits saturating, 12 Table 12.20, reset 0. -/
  foreign : Nat
  /-- BAD_RECORD. 8 bits saturating, 12 Table 12.20, reset 0. -/
  badRec : Nat
  /-- TX_ECHO. 8 bits saturating, 12 Table 12.20, reset 0. -/
  echoCnt : Nat
  /-- Frames handed to the controller, oldest first. 12 R290, R291, reset none. -/
  sent : List SprueTx
  deriving DecidableEq, Repr

/-- The Sprue ports (12). -/
structure Sprue where
  /-- Sprue A and B. 12 R280. -/
  bus : Vector SprueBus 2
  /-- The slot entries by bus * 256 + mode * 64 + slot. 32 bits each, 12 Table 12.8, reset zero (log 9). -/
  sched : Table Word
  deriving DecidableEq, Repr
/-- One connection (13 R309, R311, R314). -/
structure Conn where
  /-- SYNC. 1 bit, 13 Table 13.14, reset 0. -/
  sync : Bool
  /-- FAULT. 1 bit, 13 Table 13.14, reset 0. -/
  fault : Bool
  /-- The cycle the watchdog last started in (WDRUN), none while stopped. 13 R315, reset none. -/
  wdAt : Option Nat
  /-- CONSEC. 4 bits saturating, 13 Table 13.14, reset 0. -/
  consec : Nat
  /-- LAST: the last SEQ accepted or sent. 16 bits, 13 Table 13.14, reset 0. -/
  last : Nat
  /-- Outbound: the SEQ of the next message. 16 bits, 13 R311, reset 0. -/
  next : Nat
  /-- Outbound: the first message since reset has been formed. 13 R311, reset 0. -/
  begun : Bool
  /-- SF_CTIMEk before its late writes, each with its cycle, newest first: a message in arrival uses the old value. 13 Table 13.6,
  reset none. -/
  timeWas : List (Nat × Word)
  /-- The watchdog has expired and no message has been accepted since. 13 R303, R315, reset 0. -/
  expired : Bool
  /-- CHECK. 8 bits saturating, 13 Table 13.15, reset 0. -/
  nCheck : Nat
  /-- FORMAT. 8 bits saturating, 13 Table 13.15, reset 0. -/
  nFormat : Nat
  /-- REPEAT. 8 bits saturating, 13 Table 13.15, reset 0. -/
  nRepeat : Nat
  /-- OLD. 8 bits saturating, 13 Table 13.15, reset 0. -/
  nOld : Nat
  /-- JUMP. 8 bits saturating, 13 Table 13.15, reset 0. -/
  nJump : Nat
  /-- AGE. 8 bits saturating, 13 Table 13.15, reset 0. -/
  nAge : Nat
  /-- FUTURE. 8 bits saturating, 13 Table 13.15, reset 0. -/
  nFuture : Nat
  /-- NOTIME. 8 bits saturating, 13 Table 13.15, reset 0. -/
  nNotime : Nat
  /-- WDOG. 8 bits saturating, 13 Table 13.15, reset 0. -/
  nWdog : Nat
  /-- RESTARTS. 8 bits saturating, 13 Table 13.15, reset 0. -/
  restarts : Nat
  /-- LOST. 16 bits saturating, 13 Table 13.15, reset 0. -/
  lost : Nat
  deriving DecidableEq, Repr

/-- The envelope block (13). -/
structure Envelopes where
  /-- The fifteen connections. 13 R309. -/
  conn : Vector Conn 15
  /-- CONN of SF_ENVLAST. 4 bits, 13 Table 13.9, reset 0. -/
  lastConn : Nat
  /-- KIND of SF_ENVLAST. 4 bits, 13 Table 13.9, reset 0. -/
  lastKind : Nat
  /-- SEQ of SF_ENVLAST. 16 bits, 13 Table 13.9, reset 0. -/
  lastSeq : Nat
  /-- The axes that were without commands when last judged, for the cycle in which that first holds. 6 bits, 13 R316, reset 0. -/
  without : Nat
  /-- The axes whose latched reaction R316 caused. 6 bits, 13 R317, reset 0. -/
  caused : Nat
  deriving DecidableEq, Repr
/-- One host ring (14 R325, Table 14.18). Index 0 CMD, 1 CPL, 2 TLM, 3 EVT. -/
structure Ring where
  /-- DEV: the index the part owns. 16 bits, 14 R325, reset 0. -/
  dev : Nat
  /-- HOST: the last accepted host index. 16 bits, 14 R325, reset 0. -/
  host : Nat
  /-- DROPS: records dropped. 16 bits saturating, 14 Table 14.18, reset 0. -/
  drops : Nat
  deriving DecidableEq, Repr

/-- An event record (14 R340, Table 14.7) before its envelope is closed. -/
structure EvtRec where
  /-- SRC. 8 bits, 14 Table 14.7. -/
  src : Nat
  /-- FLAG. 8 bits, 14 Table 14.7. -/
  flag : Nat
  /-- UNIT, 255 for none. 8 bits, 14 Table 14.7. -/
  unit : Nat
  /-- WHEN: WCLK at the event, in ns. 78 bits, 14 Table 14.7. -/
  when : Nat
  /-- DATA0–DATA7. 8 words, 14 Table 14.8. -/
  data : List Word
  deriving DecidableEq, Repr

/-- A descriptor in staging, its envelope closed (13 R311, 14 R331). -/
structure OutDesc where
  /-- The ring it goes to. 14 R331. -/
  ring : Nat
  /-- The 64 bytes. 14 R334. -/
  bytes : List Byte
  deriving DecidableEq, Repr

/-- What the endpoint sends to the host (14 R331, R342, R328). -/
inductive HostTx where
  /-- A descriptor write to a slot of a ring. 14 R331. -/
  | desc (ring slot : Nat) (bytes : List Byte)
  /-- The 64-byte index block. 14 R326. -/
  | index (words : List Word)
  /-- An MSI-X message. 14 R342. -/
  | msix (vector : Nat) (addrHi addrLo data : Word)
  /-- A read request: address and bytes. 14 R328, R344. -/
  | read (addr len : Nat)
  deriving DecidableEq, Repr

/-- A pending operation (14 R338, R339): STARTs that await their cut-off, or a SHAKEOUT request. -/
structure PendOp where
  /-- TAG of the command. 16 bits, 14 R334. -/
  tag : Nat
  /-- CMD ring index of the command. 16 bits, 14 Table 14.5. -/
  cmdIdx : Nat
  /-- Envelope SEQ of the command. 16 bits, 14 Table 14.5. -/
  cseq : Nat
  /-- TYPE of the command: 2 MODE, 4 SHAKEOUT. 14 Table 14.4. -/
  ctype : Nat
  /-- The axes whose START awaits its cut-off, or the tests not yet ended, as a mask. 14 R338. -/
  open_ : Nat
  /-- RESULT as gathered so far, bytes 16–23. 14 Table 14.5. -/
  result : Vector Nat 8
  deriving DecidableEq, Repr

/-- An outcome recorded for a START or a SHAKEOUT request, which an ABORT may find (14 R339). -/
structure Recorded where
  /-- TAG. 14 R339. -/
  tag : Nat
  /-- CMD ring index. 14 R339. -/
  cmdIdx : Nat
  /-- STATUS recorded. 14 Table 14.6. -/
  status : Nat
  /-- The cycle of the record. 14 R339. -/
  cyc : Nat
  deriving DecidableEq, Repr

/-- A doorbell service in progress (14 R328). -/
structure Service where
  /-- The ring mask of the action. 4 bits, 14 R327. -/
  mask : Nat
  /-- The cycle the service started in. 14 R328. -/
  start : Nat
  /-- The cycle of issue of the read in progress. 14 R328. -/
  issued : Nat
  /-- DBTO of the service in cycles, kept through a write of HR_DBCFG. 14 R345. -/
  dbto : Nat
  /-- FETCHMAX of the service. 14 R345. -/
  fetchMax : Nat
  /-- Descriptors of the fetch that have not landed: none while the doorbell block is read. 14 R328. -/
  left : Option Nat
  deriving DecidableEq, Repr

/-- An image load in progress or ended (14 R344, 15 R359). -/
structure ImageLoad where
  /-- STATE of HR_IMGSTAT: 0 idle, 1 fetching, 2 checking, 3 applied, 4 failed. 4 bits, 14 Table 14.19, reset 0. -/
  state : Nat
  /-- REASON of HR_IMGSTAT. 4 bits, 14 Table 14.19, reset 0. -/
  reason : Nat
  /-- FETCHED of HR_IMGSTAT. 19 bits, 14 Table 14.19, reset 0. -/
  fetched : Nat
  /-- The cycle of issue of the image read in progress. 14 R344, reset 0. -/
  issued : Nat
  /-- The checked image that awaits its apply, as its words. 15 R359, reset none. -/
  checked : List Word
  deriving DecidableEq, Repr

/-- The values of the Type 0 configuration header that the endpoint shows (14 R320, R321); nothing changes them. -/
structure ConfigHeader where
  /-- Vendor ID. 16 bits, 14 R321, 16 Table 16.3, reset 0x1D9C. -/
  vendor : BitVec 16
  /-- Device ID. 16 bits, 14 R321, 16 Table 16.3, reset 0x3C60. -/
  device : BitVec 16
  /-- Class Code. 24 bits, 14 R321, reset 0x118000. -/
  classCode : BitVec 24
  /-- Subsystem ID: [1:0] the lane, [15:2] zero. 16 bits, 14 R321, reset the lane's number. -/
  subsystem : BitVec 16
  /-- Revision ID: SYS_REV.STEPPING. 8 bits, 16 R389, reset the stepping. -/
  revision : Nat
  /-- Interrupt Pin. 8 bits, 14 Table 14.1, reset 0. -/
  intPin : BitVec 8
  deriving DecidableEq, Repr

/-- Host rings and PCIe endpoint (14). -/
structure Rings where
  /-- The four rings. 14 R325, reset zero. -/
  ring : Vector Ring 4
  /-- The link is in DL_Active. 1 bit, 14 R343, reset 0. -/
  dlActive : Bool
  /-- Memory Space Enable. 1 bit, 14 R343, reset 0. -/
  mse : Bool
  /-- Bus Master Enable. 1 bit, 14 R343, reset 0. -/
  bme : Bool
  /-- MSI-X enable. 1 bit, 14 R320, reset 0. -/
  msixEn : Bool
  /-- The function is in D3hot. 1 bit, 14 R320, reset 0. -/
  d3hot : Bool
  /-- Max_Read_Request_Size of the configuration space in bytes: 128 shifted left by the field. 14 R320, reset 512 (PRESUMED: the
  PCI Express reset value, log 41). -/
  mrrs : Nat
  /-- The service in progress. 14 R328, reset none. -/
  svc : Option Service
  /-- The cycle the last service that named CMD started in. 14 R327, reset none. -/
  lastCmdSvc : Option Nat
  /-- Whether each of the last four services that named CMD completed its doorbell read, newest first. 14 R343, reset none. -/
  lastFour : List Bool
  /-- Completions reserved and not yet staged (STAGED of the CMD ring). 16 bits, 14 R330, reset 0. -/
  reserved : Nat
  /-- Descriptors staged and not yet written. 14 R331, reset none. -/
  staged : List OutDesc
  /-- EVT records waiting without an envelope, oldest first, at most 256. 14 R333, reset none. -/
  evtQueue : List EvtRec
  /-- EVT records dropped since the last record closed. 16 bits saturating, 14 R333, reset 0. -/
  evtDropped : Nat
  /-- The cycle of the first outbound write that no index-block write yet covers. 14 R331, reset none. -/
  uncovered : Option Nat
  /-- The rings whose index changed since the last index-block write, as a mask. 14 R342, reset 0. -/
  indexNews : Nat
  /-- The write count of the index block. 32 bits wrapping, 14 Table 14.3, reset 0. -/
  ixCount : Nat
  /-- What the endpoint has sent, oldest first. 14 R332, reset none. -/
  sent : List HostTx
  /-- Pending operations. 14 R339, reset none. -/
  pendOps : List PendOp
  /-- Outcomes recorded for operations that were pending. 14 R339, reset none. -/
  recorded : List Recorded
  /-- DB_BAD of HR_COUNT. 8 bits saturating, 14 Table 14.20, reset 0. -/
  dbBad : Nat
  /-- RDFAIL of HR_COUNT. 8 bits saturating, 14 Table 14.20, reset 0. -/
  rdFail : Nat
  /-- DB_BUSY of HR_COUNT. 8 bits saturating, 14 Table 14.20, reset 0. -/
  dbBusy : Nat
  /-- DB_GAP of HR_COUNT. 8 bits saturating, 14 Table 14.20, reset 0. -/
  dbGap : Nat
  /-- SERVICES of HR_SVC. 16 bits wrapping, 14 Table 14.20, reset 0. -/
  services : Nat
  /-- LONGEST of HR_SVC. 16 bits, 14 Table 14.20, reset 0. -/
  longest : Nat
  /-- The image load. 14 R344, reset idle. -/
  img : ImageLoad
  /-- The pending-bit array. 16 bits, 14 R342, reset 0. -/
  msixPend : BitVec 16
  /-- The cycle of each vector's last message. 14 R342, reset none. -/
  msixLast : Vector (Option Nat) 16
  /-- Vectors with an event inside their IMOD time. 16 bits, 14 R342, reset 0. -/
  msixLate : BitVec 16
  /-- The LANE telemetry record count. 16 bits wrapping, 14 Table 14.10, reset 0. -/
  laneRecs : Nat
  /-- The rings whose next record carries VIEW_DISAGREE, as a mask; bits 4 and 5 the status frames of Sprue A and B. 14 R341,
  12 Table 12.6, reset 0. -/
  viewFlag : Nat
  deriving DecidableEq, Repr
/-- What the lane is doing as a whole (15 R360, Table 15.9; unpowered below VPOR, reset while the lane reset is held). -/
inductive PwState where
  | unpowered | reset | setup | run | doze | park | off
  deriving DecidableEq, Repr

/-- An accepted WAIT (15 R361, R362). -/
structure EntrySeq where
  /-- MODE: 1 DOZE, 2 PARK, 3 OFF. 15 R361. -/
  mode : Nat
  /-- RESTING heartbeats sent since isolation was confirmed. 15 R362. -/
  beats : Nat
  /-- Isolation has been confirmed by a LEVELS word. 15 R362. -/
  isolated : Bool
  /-- The WAIT waits for OTP programming to end. 15 R361. -/
  held : Bool
  deriving DecidableEq, Repr

/-- The save record in Chill RAM (15 R368, Table 15.11). -/
structure SaveRec where
  /-- IMAGE_ID of the header. 32 bits, 15 Table 15.11. -/
  imageId : Word
  /-- The stepping of the header. 15 Table 15.11. -/
  stepping : Nat
  /-- The saved registers by offset. 15 Table 15.11. -/
  regs : Table Word
  /-- The event table. 256 entries, 15 Table 15.11. -/
  entries : Table Entry
  /-- The coefficient banks by axis * 512 + bank * 256 + word. 15 Table 15.11. -/
  banks : Table Word
  /-- The banks that are EMPTY, bit 2 * axis + bank. 12 bits, 15 Table 15.11. -/
  empty : Nat
  /-- The Sprue schedule tables by bus * 256 + mode * 64 + slot. 15 Table 15.11. -/
  sched : Table Word
  deriving DecidableEq, Repr

/-- Supplies, power state and start (15). -/
structure Power where
  /-- The power state. STATE of PW_STATE, 15 R360, reset SETUP. -/
  state : PwState
  /-- START of PW_STATE. 4 bits, 15 R352, reset the kind of start. -/
  start : Nat
  /-- PADLATCH of PW_STATE. 1 bit, 15 R370, reset by the kind of start. -/
  padLatch : Bool
  /-- RESTORED of PW_STATE. 1 bit, 15 R369, reset 0. -/
  restored : Bool
  /-- VLOW of PW_STATE. 1 bit, 15 R350, reset 0. -/
  vlow : Bool
  /-- VDRV_ON of PW_STATE. 1 bit, 15 Table 15.15, reset 0. -/
  vdrvOn : Bool
  /-- The cycle SVC boot began in, until it ends. 15 R353, reset the release. -/
  bootAt : Option Nat
  /-- A lane reset that has been ordered: its cycle and its kind of start. 15 R351, 08 R198, reset none. -/
  resetAt : Option (Nat × Nat)
  /-- VIN_x is below VRST + 0.3 V. 15 R351, R366, reset 0. -/
  vinLow : Bool
  /-- The entry sequence in progress. 15 R362, reset none. -/
  entry : Option EntrySeq
  /-- A wake source fired during the entry sequence or waits for the supply. 15 R366, reset 0. -/
  wakeWaits : Bool
  /-- The gated islands are powering up after a wake from DOZE. 15 R367, reset 0. -/
  waking : Bool
  /-- The cycle of the last wake: sources that fire in the same always-on cycle are recorded with it. 15 R366, reset none. -/
  wokeAt : Option Nat
  /-- PW_WAKECAUSE. 6 bits, always-on, 15 Table 15.20, reset 0 at power-on. -/
  wakeCause : BitVec 6
  /-- PW_IMGID. 32 bits, 15 Table 15.20, reset 0. -/
  imgId : Word
  /-- CAUSE of PW_IMGERR. 4 bits, 15 Table 15.21, reset 0. -/
  errCause : Nat
  /-- SECTION of PW_IMGERR. 9 bits, 15 Table 15.21, reset 0. -/
  errSection : Nat
  /-- BYTE of PW_IMGERR. 19 bits, 15 Table 15.21, reset 0. -/
  errByte : Nat
  /-- The cycle of entry into RUN. 15 R356, 01 R31, reset none. -/
  runAt : Option Nat
  /-- The save record in Chill RAM. 15 R368, reset none. -/
  saved : Option SaveRec
  /-- CLOCK_LOSS recorded in Chill RAM. 01 R25, reset 0 at power-on. -/
  clockLoss : Bool
  deriving DecidableEq, Repr

end Machine

end Sys2Proof
end

