-- ==== Sys2Proof/Syntax.lean ====
section
/-! DEFINITION. The commands: one constructor per row of spec/opcode_table.json. Each carries the lane it concerns and the cycles
since that lane's previous command (log 2), then what the sender or the pin brings. -/

namespace Sys2Proof

/-- A command to the block. -/
inductive Instr where
  /-- POWER_ON: VIN_x rises above VPOR and the always-on domain takes its power-on reset, initialising Chill RAM and clearing
DEBUG_UNLOCKED. 15 R352. -/
  | powerOn (h : Hdr) (mirror : Bool)
  /-- VPOR_LOSS: VIN_x falls below VPOR, the always-on domain loses power and Chill RAM is lost. 15 R351. -/
  | vporLoss (h : Hdr)
  /-- VIN_BELOW_VRST: VIN_x stays below VRST for 64 cycles, registering trigger 0x06, dropping the token and asserting lane
reset 32 cycles later. 08 R198. -/
  | vinBelowVrst (h : Hdr)
  /-- VRST_RECOVER: VIN_x has stood above VRST + 0.3 V for 1.0 ms, so the lane leaves reset and restarts. 15 R351. -/
  | vrstRecover (h : Hdr) (factoryOk : Bool)
  /-- VWARN_TRIP: VIN_x stays below VWARN for WFILT µs, setting VLOW and VWARN, firing vector 9, writing an EVT record and
setting the Sprue VWARN bit. 15 R350. -/
  | vwarnTrip (h : Hdr)
  /-- VWARN_CLEAR: VIN_x rises above VWARN + 0.2 V, clearing VLOW and the Sprue VWARN bit. 15 R350. -/
  | vwarnClear (h : Hdr)
  /-- RST_N: RST_N_x is asserted and released, a lane start of kind 2 that samples LSMODE_x on the rising edge. 15 R352. -/
  | rstN (h : Hdr) (mirror : Bool)
  /-- CLOCK_LOSS: The PLL loses lock or CLK stays outside 250 MHz ±2 % for 8 µs, so the lane is held in reset and CLOCK_LOSS
is recorded in Chill RAM. 01 R25. -/
  | clockLoss (h : Hdr)
  /-- RESET_RELEASE: The supplies, PLL and RST_N_x are all good, so the lane leaves reset, enters SETUP and begins SVC boot,
VDRV soft-start and Shakeout. 15 R353. -/
  | resetRelease (h : Hdr) (factoryOk : Bool)
  /-- SHAKEOUT_TEST_COMPLETE: A start Shakeout test reaches the end of its fixed duration; its result goes to TS_TESTk, and
after test 15 DONE is set and an EVT record is written. 11 R260. -/
  | shakeoutTestComplete (h : Hdr) (cells : List Nat) (restore : Nat) (gates : List Machine.CellMeas) (levels : List Int)
  /-- RESTORE_SAVE_LIST: After a wake from PARK and TS_SHK.DONE, the hardware checks the Chill RAM save record and writes the
listed items back, or sets RESTORE_FAIL. 15 R369. -/
  | restoreSaveList (h : Hdr) (verdict : Nat)
  /-- SOLO_EXPIRY: SOLO ms run out with only RESTING lanes heard, so the lane claims on its own word and sets SOLO_CLAIM. 15
R356. -/
  | soloExpiry (h : Hdr)
  /-- PW_WAIT: A WAIT write to PW_CMD is accepted or refused, and an accepted WAIT begins the entry sequence into
PW_MODE.MODE. 15 R361. -/
  | pwWait (h : Hdr) (q : Requester)
  /-- LOW_POWER_ENTRY_ISOLATED: The LEVELS word confirming isolation arrives during an entry sequence, which then saves state,
clamps islands and removes rails. 15 R362. -/
  | lowPowerEntryIsolated (h : Hdr)
  /-- PW_WAKE: A WAKE write to PW_CMD wakes the lane from DOZE. 15 R366. -/
  | pwWake (h : Hdr) (q : Requester)
  /-- WAKE_PIN: WAKE_x holds its WK_POL level for 10 µs and wakes the lane from DOZE or PARK. 15 R366. -/
  | wakePin (h : Hdr)
  /-- WAKE_SPRUE: A dominant level of at least DOM µs on SPA_RX_x or SPB_RX_x wakes the lane. 15 R366. -/
  | wakeSprue (h : Hdr) (b : Nat)
  /-- WAKE_PPS: The PPSN-th PPS edge after entry wakes the lane. 15 R366. -/
  | wakePps (h : Hdr)
  /-- DOZE_WAKE_COMPLETE: The gated islands finish powering up after a DOZE wake, and the lane returns to RUN as SPARE or per
its health. 15 R367. -/
  | dozeWakeComplete (h : Hdr)
  /-- PW_PAD_RELEASE: A keyed RELEASE write to PW_PADREL, or the AUTOREL self-write, releases the latched pads and restarts
the feedback units from live levels. 15 R371. -/
  | pwPadRelease (h : Hdr) (q : Requester)
  /-- SYS_KEY_WRITE: A write to SYS_KEY arms the writer's key with 0xC1E7, or disarms it, sets KEY_BAD and counts any other
value. 16 R384. -/
  | sysKeyWrite (h : Hdr) (w : Wr)
  /-- REGISTER_WRITE: A write to a register with no row of its own lands, and each field is applied, skipped or refused under
its access code. 16 R377. -/
  | registerWrite (h : Hdr) (off : Nat) (w : Wr)
  /-- STATUS_READ: A read of a status register records the SEQ it returns and makes the reader's token FRESH. 16 R381. -/
  | statusRead (h : Hdr) (q : Requester) (off : Nat)
  /-- STATUS_WRITE_BACK: A write to a status register or LN_REPLACE clears the written flags only with a FRESH token and a
matching SEQ, and otherwise counts STALE. 16 R382. -/
  | statusWriteBack (h : Hdr) (off : Nat) (w : Wr)
  /-- SYS_CLKLO_READ: A read of SYS_CLKLO latches CLKHI from the same cycle for that requester. 16 R376. -/
  | sysClkloRead (h : Hdr) (q : Requester)
  /-- TL_WSEC_LO_READ: A read of TL_WSEC_LO latches SEC_HI and NS from the same cycle. 16 R376. -/
  | tlWsecLoRead (h : Hdr) (q : Requester)
  /-- TL_PERR_READ: A read of TL_PERR returns the largest prediction error and clears it. 16 R379. -/
  | tlPerrRead (h : Hdr) (q : Requester)
  /-- CV_JIT_READ: A read of CV_JIT returns the largest jit and clears it. 16 R379. -/
  | cvJitRead (h : Hdr) (q : Requester)
  /-- SF_SFE_READ: A read of SF_SFE returns MAXCYC and clears it. 16 R379. -/
  | sfSfeRead (h : Hdr) (q : Requester)
  /-- LN_TKO_READ: A read of LN_TKO returns MAX and clears it. 16 R379. -/
  | lnTkoRead (h : Hdr) (q : Requester)
  /-- LN_PEER_READ: A read of LN_PEERk returns BADFRAME and clears it. 16 R379. -/
  | lnPeerRead (h : Hdr) (q : Requester) (k : Nat)
  /-- HR_SVC_READ: A read of HR_SVC returns LONGEST and clears it. 16 R379. -/
  | hrSvcRead (h : Hdr) (q : Requester)
  /-- FB_SENTS_READ: A read of FB_SENTSn returns the serial message and clears NEW. 16 R379. -/
  | fbSentsRead (h : Hdr) (q : Requester) (n : Nat)
  /-- TL_PT_OFFSET_WRITE: A write to TL_PTn_OFFSET steps the timebase by the offset difference and re-predicts its entries. 02
R45. -/
  | tlPtOffsetWrite (h : Hdr) (n : Nat) (w : Wr)
  /-- PPS_EDGE: A PPS_x rising edge is captured against WCLK, ignored as a glitch or accepted as a reference event. 02 R47. -/
  | ppsEdge (h : Hdr)
  /-- PPS_MISSING: No PPS edge is accepted by 1.1 s after the last one, so PPS_MISSING is set and WCLK holds over on TL_WRATE.
02 R47. -/
  | ppsMissing (h : Hdr)
  /-- TIME_ACCEPT_SLEW: A SLEW acceptance ends a pending refusal and sets SLEWING. 02 R49. -/
  | timeAcceptSlew (h : Hdr) (q : Requester)
  /-- TIME_ACCEPT_STEP: A STEP acceptance sets STEP_ARMED so that the next reference event steps WCLK. 02 R49. -/
  | timeAcceptStep (h : Hdr) (q : Requester)
  /-- TL_EVT_READ: A READ command copies event entry INDEX into the TL_EVT_W0–W5 window. 02 R52. -/
  | tlEvtRead (h : Hdr) (q : Requester)
  /-- TL_EVT_COMMIT: A COMMIT command writes the window words into entry INDEX, or refuses them. 02 R53. -/
  | tlEvtCommit (h : Hdr) (q : Requester)
  /-- ENTRY_BASE_INSTANT: A WCLK-bound or predicted PT-bound entry reaches its base instant, starts its DELAY and advances a
repeating target. 02 R54. -/
  | entryBaseInstant (h : Hdr) (k : Nat)
  /-- RE_PREDICTION: Re-prediction of an entry bound to a snapped timebase completes, and it fires if the snap carried the
timebase past an occurrence. 02 R56. -/
  | rePrediction (h : Hdr) (k : Nat)
  /-- ADC_TRIG: An ADC_TRIG action is dispatched and requests the named CONTROL sequence, or sets TRIG_BAD or TRIG_LOST. 04
R95. -/
  | adcTrig (h : Hdr)
  /-- LOOP_START: A LOOP_START action latches TL_CAPL and arms the pass of each masked axis in DRIVE, or skips a pass still
waiting for its results. 06 R133. -/
  | loopStart (h : Hdr)
  /-- EDGE_PERIOD_COMMIT: A PERIOD edge commits at its lead, fixing the period start of the masked axes and requesting
PERIOD-triggered CONTROL sequences. 02 R58. -/
  | edgePeriodCommit (h : Hdr) (k : Nat)
  /-- EDGE_SECTOR_COMMIT: A SECTOR edge commits, and the commutator moves the rotor sector and sends or corrects gate
commands. 05 R120. -/
  | edgeSectorCommit (h : Hdr) (k : Nat)
  /-- EDGE_GATE_COMMIT: A GATE edge commits and sends one Runner command for the named gate and level. 02 R58. -/
  | edgeGateCommit (h : Hdr) (k : Nat)
  /-- DOORBELL: A DOORBELL action starts a service that reads the doorbell block, or counts DB_BUSY. 14 R328. -/
  | doorbell (h : Hdr)
  /-- SPRUE_SLOT: A SPRUE_SLOT action for a master port starts a slot; at slot 0 it decides the cycle's mode. 12 R289. -/
  | sprueSlot (h : Hdr)
  /-- TELEMETRY: A TELEMETRY action forms the AXIS or LANE record that its ARG names, or sets TLM_BAD. 14 R341. -/
  | telemetry (h : Hdr)
  /-- QUAD_COUNT: A single-line quadrature change is counted, moving RAW and updating POS, DIR and PENDING under the one-count
hysteresis. 03 R68. -/
  | quadCount (h : Hdr) (n : Nat) (a0 b0 a1 b1 : Bool)
  /-- DOUBLE_EDGE: QA and QB change in one sample, so no count is made, the estimator enters DE_HOLD and the window count
rises. 03 R67. -/
  | doubleEdge (h : Hdr) (n : Nat)
  /-- INDEX_EVENT: A gated index event captures IDXPOS and resets the counter according to IDXMODE and the arming state. 03
R69. -/
  | indexEvent (h : Hdr) (n : Nat) (qz a b : Bool)
  /-- FB_ARM: An ARM command arms ONCE indexing or is refused with ARM_REFUSED. 03 R70. -/
  | fbArm (h : Hdr) (q : Requester) (n : Nat)
  /-- FB_DISARM: A DISARM command returns the ONCE arming state to DISARMED. 03 R70. -/
  | fbDisarm (h : Hdr) (q : Requester) (n : Nat)
  /-- AOFF_WRITE: A write to FB_AOFFn steps APOS by the difference with no count lost. 03 R71. -/
  | aoffWrite (h : Hdr) (n : Nat) (w : Wr)
  /-- TOOTH: A toothed-wheel edge is classified against THRESH as ordinary or reference, and the tooth position is updated. 03
R72. -/
  | tooth (h : Hdr) (n : Nat) (falling qb : Bool)
  /-- THRESH_LOAD: The FBE loads the reference threshold for the next tooth within 96 cycles. 03 R72. -/
  | threshLoad (h : Hdr) (n : Nat)
  /-- HALL_CHANGE: The synchronised Hall state changes and is mapped, counted, skipped or marked invalid, with the Hall
cross-check made. 03 R76. -/
  | hallChange (h : Hdr) (n hs : Nat)
  /-- HALL_INVALID_TIMEOUT: An invalid Hall state persists for TSS, so the Hall source is faulted. 03 R76. -/
  | hallInvalidTimeout (h : Hdr) (n : Nat)
  /-- SENT_FRAME: A SENT frame completes and is accepted or discarded with SENT_ERR, and the SENT cross-check is made. 03 R78.
-/
  | sentFrame (h : Hdr) (n : Nat) (f : Machine.SentFrame)
  /-- SENT_TIMEOUT: No accepted SENT frame arrives within SENT_TO, so SENT_LOST is set and the source is faulted. 03 R79. -/
  | sentTimeout (h : Hdr) (n : Nat)
  /-- SPEED_DECAY: The 128-cycle decay check in RUN lowers |speed| to the bound of the open interval. 03 R80. -/
  | speedDecay (h : Hdr) (n : Nat)
  /-- STANDSTILL_TIMEOUT: No committed update for TSS puts the estimator in STANDSTILL with speed 0. 03 R80. -/
  | standstillTimeout (h : Hdr) (n : Nat)
  /-- SPEED_WINDOW_END: A window-mode grid window ends, and the speed is computed or interval mode is resumed. 03 R81. -/
  | speedWindowEnd (h : Hdr) (n : Nat)
  /-- FB_FCLR_COUNTER: Clear bit 0 clears the counter fault latch and restarts the counter. 03 R85. -/
  | fbFclrCounter (h : Hdr) (q : Requester) (n : Nat)
  /-- FB_FCLR_HALL: Clear bit 1 clears the Hall fault latch and restarts the Hall decoder. 03 R85. -/
  | fbFclrHall (h : Hdr) (q : Requester) (n : Nat)
  /-- FB_FCLR_SENT: Clear bit 2 clears the SENT fault latch and restarts the SENT receiver. 03 R85. -/
  | fbFclrSent (h : Hdr) (q : Requester) (n : Nat)
  /-- NOMINAL_INSTANT: A CONTROL sequence's nominal instant arrives, so the monitor is suspended and entry 0 waits for idle
positions. 04 R97. -/
  | nominalInstant (h : Hdr) (k : Nat)
  /-- CONTROL_SEQ_START: All occupied positions are idle, so entry 0 holds at t0, jit is recorded and later entries are
scheduled on the grid. 04 R97. -/
  | controlSeqStart (h : Hdr)
  /-- CONTROL_HOLD: A CONTROL sequence entry holds on its grid instant in all four converters. 04 R94. -/
  | controlHold (h : Hdr)
  /-- MONITOR_HOLD: The next monitor entry holds on the next occupied position, 40 cycles after the previous one. 04 R96. -/
  | monitorHold (h : Hdr) (check : Bool)
  /-- MONITOR_RESUME: The monitor round resumes at the suspended entry 10 cycles after the last CONTROL hold. 04 R97. -/
  | monitorResume (h : Hdr)
  /-- CONVERSION_COMPLETE: A slice result is ready, corrected and written to its result register 4 cycles later. 04 R101. -/
  | conversionComplete (h : Hdr) (m sl raw : Nat)
  /-- TURN_END: A spare turn ends after EFF and its steps; its training estimate and Shakeout results are judged. 04 R104. -/
  | turnEnd (h : Hdr) (m : Nat) (t : Machine.TurnMeas)
  /-- SLICE_SWAP: The outgoing slice is idle with no CONTROL sequence pending, so the accepted spare takes the position. 04
R104. -/
  | sliceSwap (h : Hdr) (m : Nat)
  /-- CV_SEQ_WRITE: A write to CV_SEQk that makes two enabled ranges overlap disables the higher descriptor and sets
SEQ_OVERLAP. 04 R93. -/
  | cvSeqWrite (h : Hdr) (k : Nat) (w : Wr)
  /-- CV_MONEN_WRITE: Clearing MONEN stops new monitor holds, and setting it resumes at the next entry. 04 R96. -/
  | cvMonenWrite (h : Hdr) (w : Wr)
  /-- CV_ROT_WRITE: A CV_ROT.INT write ends the present turn on the new value. 04 R104. -/
  | cvRotWrite (h : Hdr) (w : Wr)
  /-- PASS_START: A pass starts once its awaited result is presented, latching inputs, adopting mirror states and running the
stage chain. 06 R134. -/
  | passStart (h : Hdr) (n : Nat)
  /-- DUTY_ARRIVAL: A pass completes and its duty reaches the commutator, which forms or re-forms the commands of the next
period and tests the limits. 05 R119. -/
  | dutyArrival (h : Hdr) (n : Nat)
  /-- CUT_OFF: A period's cut-off arrives, so the sector is checked, held duties are formed and pending STARTs are evaluated.
05 R122. -/
  | cutOff (h : Hdr) (n : Nat)
  /-- BEMF_EVALUATE: The period's phase-voltage results are examined for a zero crossing, forming a boundary and BSPD. 05
R123. -/
  | bemfEvaluate (h : Hdr) (n : Nat)
  /-- ZC_MISS: No crossing is accepted by the last boundary + Tzz, so a boundary is placed there and LOCKED may clear. 05
R124. -/
  | zcMiss (h : Hdr) (n : Nat)
  /-- CM_START: A START command is queued for evaluation at the next cut-off, or discarded while SAFE is latched. 05 R129. -/
  | cmStart (h : Hdr) (q : Requester) (n : Nat)
  /-- CM_STOP: A STOP command forms gates-off periods from the next eligible period start, or sends urgent off words at once.
05 R129. -/
  | cmStop (h : Hdr) (q : Requester) (n : Nat)
  /-- STOP_PERIOD_START: At the period start where a STOP takes effect, REF, LIMITED and the loop states clear. 06 R153. -/
  | stopPeriodStart (h : Hdr) (n : Nat)
  /-- LE_ZERO: A ZERO command clears I, IO and the notch states at the next pass start. 06 R153. -/
  | leZero (h : Hdr) (q : Requester) (n : Nat)
  /-- LE_BANK_WRITE: A write to LE_BANKn selects the bank for the next pass start. 06 R148. -/
  | leBankWrite (h : Hdr) (n : Nat) (w : Wr)
  /-- LE_WINDOW_WRITE: A write to LE_WDATA stores a coefficient-bank word or is refused for a protected bank. 06 R148. -/
  | leWindowWrite (h : Hdr) (w : Wr)
  /-- RUNNER_BLOCK_VERIFY: The gate-drive die verifies a forward block by CRC, parity and BASE, acting on its words or
reporting it failed. 07 R158. -/
  | runnerBlockVerify (h : Hdr) (w0 w1 w2 ck : Word)
  /-- COMMAND_WORD: A gate command word arrives and enters the queue, or is dropped as late, far or queue-full. 07 R163. -/
  | commandWord (h : Hdr) (w : Word)
  /-- ISOLATE_ENTER: An ISOLATE word with LVL 1 puts the gate-drive die in the isolated state. 07 R162. -/
  | isolateEnter (h : Hdr) (w : Word)
  /-- ISOLATE_LEAVE: An ISOLATE word with LVL 0 takes the gate-drive die out of the isolated state. 07 R162. -/
  | isolateLeave (h : Hdr) (w : Word)
  /-- CHOPFLT: A CHOPFLT word latches CHOP_FAULT. 07 R178. -/
  | chopflt (h : Hdr) (w : Word)
  /-- CFG: A CFG word writes half of a configuration shadow word, which takes effect at its second half. 07 R184. -/
  | cfg (h : Hdr) (w : Word)
  /-- SAFE: A SAFE word sets ENTER axes and clears LEAVE axes in the safe mask. 07 R162. -/
  | safe (h : Hdr) (w : Word)
  /-- ALIGN: An ALIGN word in slot 0 sets the gate-drive die's count and aligns it. 07 R160. -/
  | align (h : Hdr) (w : Word)
  /-- IDLE: An IDLE word fills a payload slot and has no effect. 07 R157. -/
  | idle (h : Hdr) (w : Word)
  /-- TOKEN_RAISE: A verified TOKEN raise queues the token to be held from T_r. 07 R164. -/
  | tokenRaise (h : Hdr) (w : Word)
  /-- TOKEN_DROP: A TOKEN drop word acts the cycle after its last bit, turning all motor gates off and cancelling a pending
raise. 07 R164. -/
  | tokenDrop (h : Hdr) (w : Word)
  /-- TOKEN_HOLD_START: At T_r the token becomes held and every motor-gate output adopts its shadow level. 07 R164. -/
  | tokenHoldStart (h : Hdr)
  /-- QUEUED_WORD_EXECUTE: Queued words reach their instant and execute off before on, setting shadow levels. 07 R164. -/
  | queuedWordExecute (h : Hdr) (vbs : Nat)
  /-- DEAD_TIME_TURN_ON: A turn-on that waited for DT after the complementary turn-off is applied. 07 R166. -/
  | deadTimeTurnOn (h : Hdr)
  /-- HEARTBEAT_LOSS: No forward block has been verified for 2 µs, so the gate-drive die turns every gate off. 07 R159. -/
  | heartbeatLoss (h : Hdr)
  /-- LOSS_SAFE_EXPIRY: Heartbeat loss lasts LOSS_SAFE, so the class safe pattern is applied. 07 R181. -/
  | lossSafeExpiry (h : Hdr)
  /-- ALIGN_PERIODIC: The lane die sends an ALIGN word every 4,096 blocks. 07 R160. -/
  | alignPeriodic (h : Hdr)
  /-- GD_DT_WRITE: A write to GD_DT chooses and locks the dead time, or is refused. 07 R167. -/
  | gdDtWrite (h : Hdr) (w : Wr)
  /-- GD_FCLR_PERSIST: The PERSIST bit clears every persistent-gate latch and counter. 07 R174. -/
  | gdFclrPersist (h : Hdr) (q : Requester)
  /-- GD_FCLR_CHOP: The CHOP bit clears CHOP_FAULT. 07 R178. -/
  | gdFclrChop (h : Hdr) (q : Requester)
  /-- GD_REGISTER_WRITE: An accepted write to a GD_ register queues its CFG words to the gate-drive die. 07 R184. -/
  | gdRegisterWrite (h : Hdr) (off : Nat) (w : Wr)
  /-- BOOT_UV: A bootstrap voltage below the trip turns that high side off and sets BOOT_UV. 07 R168. -/
  | bootUv (h : Hdr) (g : Nat)
  /-- BOOT_PERSIST: BOOT_UV persists to the third on word or 1 ms, raising a persistent gate-drive fault. 07 R169. -/
  | bootPersist (h : Hdr) (g : Nat)
  /-- DESAT_TRIP: A desaturation comparator trips and turns its gate off. 07 R171. -/
  | desatTrip (h : Hdr) (g : Nat)
  /-- OC_TRIP: A shunt comparator trips and turns the axis's on high sides off. 07 R172. -/
  | ocTrip (h : Hdr) (n : Nat)
  /-- PF_DECAY: PF_DECAY µs elapse, so a persistent-fault counter counts down by one. 07 R174. -/
  | pfDecay (h : Hdr) (g : Nat)
  /-- VDRV_UV_TRIP: VDRV_x falls below 9.0 V, turning off all motor gates and the chopper and dropping BRL. 07 R175. -/
  | vdrvUvTrip (h : Hdr)
  /-- VDRV_UV_PERSIST: VDRV_x stays below release for 10 µs, so the die sends an EVENT word and the lane raises trigger 0x05.
07 R175. -/
  | vdrvUvPersist (h : Hdr)
  /-- VDRV_RECOVER: VDRV_x rises above release, and the outputs return to Table 7.8. 07 R175. -/
  | vdrvRecover (h : Hdr)
  /-- OV1_TRIP: The DC link reaches OV1, forcing BRKG on and starting a chopper test. 07 R177. -/
  | ov1Trip (h : Hdr)
  /-- OV1_RELEASE: The DC link falls below OV1 − HYST, releasing the forced chopper. 07 R177. -/
  | ov1Release (h : Hdr)
  /-- OV2_ENTER: OV2 is reached with CHOP_FAULT latched, so GEN_LIMIT is raised. 07 R177. -/
  | ov2Enter (h : Hdr)
  /-- OV2_LEAVE: OV2 is left below OV2 − HYST or on a chopper clear, and GEN_LIMIT clears. 07 R177. -/
  | ov2Leave (h : Hdr)
  /-- OV3_TRIP: The DC link reaches OV3, and the class overvoltage pattern is applied. 07 R177. -/
  | ov3Trip (h : Hdr)
  /-- OV3_RELEASE: The DC link falls below OV2 − HYST, leaving OV3. 07 R177. -/
  | ov3Release (h : Hdr)
  /-- OV3_PERSIST: OV3 lasts 1 ms, setting OV3_PERSIST and raising a persistent fault. 07 R177. -/
  | ov3Persist (h : Hdr)
  /-- CHOPPER_TEST_END: 5 µs after a chopper turn-on, CHOP_FAULT latches if V has not fallen by CHOP_DV. 07 R178. -/
  | chopperTestEnd (h : Hdr) (fallen : Bool)
  /-- CHOP_CURRENT_VERDICT: The lane die judges a chopper turn-on's current results and sends CHOPFLT if none reaches
CHOP_IMIN. 07 R178. -/
  | chopCurrentVerdict (h : Hdr)
  /-- RETURN_BLOCK_VERIFY: The lane die verifies a return block, which is a gate-drive heartbeat, or discards it. 07 R158. -/
  | returnBlockVerify (h : Hdr) (w0 w1 w2 ck : Word)
  /-- LEVELS_WORD: A LEVELS word updates GD_STATE, the token-held and isolated view and VDRV good. 07 R183. -/
  | levelsWord (h : Hdr) (w : Word)
  /-- EVENT_WORD: An EVENT word sets its GD_STATUS flag and writes an EVT record. 07 R183. -/
  | eventWord (h : Hdr) (w : Word)
  /-- FBLK_WORD: An FBLK word reports a failed forward block, counting RUN_LOST and judging Runner CRC loss. 07 R159. -/
  | fblkWord (h : Hdr) (w : Word)
  /-- CFGCRC_WORD: A CFGCRC word is compared with the lane die's CRC, and two mismatches set CFG_MISMATCH. 07 R184. -/
  | cfgcrcWord (h : Hdr) (w : Word)
  /-- GD_LOST: No return block has been verified for 500 cycles, so GD_LOST raises a persistent gate-drive fault. 07 R159. -/
  | gdLost (h : Hdr)
  /-- TOKEN_LINE_CHANGE: A peer's token line changes state, prompting a release, a yield or a split as the claim rules apply.
08 R192. -/
  | tokenLineChange (h : Hdr) (k : Nat) (line : Machine.Line)
  /-- HEARTBEAT_SEND: Every 256 cycles the lane sends a heartbeat on both Riser ports. 08 R193. -/
  | heartbeatSend (h : Hdr)
  /-- HEARTBEAT_RECEIVE: A heartbeat is verified, updating peer state, the module condition and the axis-configuration
comparison. 08 R190. -/
  | heartbeatReceive (h : Hdr) (k : Nat) (w0 w1 w2 w3 w4 : Word)
  /-- AXCFG_MISMATCH: HBTO after RUN entry no equal axis-configuration word has been heard, so AXCFG_MISMATCH and cause 0x17
are raised. 01 R31. -/
  | axcfgMismatch (h : Hdr)
  /-- PEER_SILENT: A peer is silent for HBTO, so it is declared silent-released or RISER_LOST is reported. 08 R194. -/
  | peerSilent (h : Hdr) (k : Nat)
  /-- RISER_LINK_RESTORED: Frames are verified again for 1 ms, clearing cause 0x14. 08 R195. -/
  | riserLinkRestored (h : Hdr) (k : Nat)
  /-- SELF_DIAGNOSIS_TRIGGER: A trigger of Table 8.3 makes the lane FAILED, drops any token and isolates the gate-drive die.
08 R196. -/
  | selfDiagnosisTrigger (h : Hdr) (code detail : Nat)
  /-- DEFERRED_CAUSE: A deferred cause arises and starts a controlled handover or takes effect at once. 08 R197. -/
  | deferredCause (h : Hdr) (code detail : Nat)
  /-- HANDOVER_FRAME: A STANDBY verifies a HANDOVER frame, claims and queues its TOKEN raise for T_h. 08 R199. -/
  | handoverFrame (h : Hdr) (k th : Nat)
  /-- HANDOVER_RETRY: No CLAIM is seen by T_h − 700, so the holder retries at the next period start. 08 R197. -/
  | handoverRetry (h : Hdr)
  /-- HANDOVER_DROP: At T_h − 32 the holder drops the token. 08 R197. -/
  | handoverDrop (h : Hdr)
  /-- HANDOVER_CHECK: At T_r − 16 a STANDBY that has not seen the holder IDLE cancels its raise. 08 R199. -/
  | handoverCheck (h : Hdr)
  /-- CLAIM_START: An eligible lane sees the token released and sets its line to CLAIM. 08 R199. -/
  | claimStart (h : Hdr)
  /-- CLAIM_HOLD: 16 cycles pass without a higher claim, so the lane sets HOLD, sends its TOKEN raise and starts the mirror.
08 R199. -/
  | claimHold (h : Hdr)
  /-- SPLIT_TIMEOUT: No usable heartbeat arrives within 512 cycles of seeing a second HOLD, so the split is resolved by rank.
08 R200. -/
  | splitTimeout (h : Hdr)
  /-- LANE_RECORD_SEND: The holder sends the LANE record every 2,500 or 20,000 cycles. 08 R204. -/
  | laneRecordSend (h : Hdr)
  /-- AXIS_RECORD_RECEIVE: A mirror AXIS record is verified and stored for adoption. 08 R204. -/
  | axisRecordReceive (h : Hdr) (k seq : Nat) (crcOk : Bool) (n : Nat) (full : Bool) (r : Machine.AxisRec)
  /-- LANE_RECORD_RECEIVE: A LANE record is verified and adopted, including offsets, safety state, schedule mode and a WCLK
reference event. 08 R205. -/
  | laneRecordReceive (h : Hdr) (k seq : Nat) (crcOk full : Bool) (r : Machine.LaneRec)
  /-- ENV_RECORD_RECEIVE: An ENV record sets an unsynchronised connection's sequence expectation. 13 R314. -/
  | envRecordReceive (h : Hdr) (k seq : Nat) (crcOk : Bool) (ident : Word) (path last : Nat)
  /-- CONDITION_RECOUNT: A HEALTHY lane has been heard as SPARE or STANDBY for 1 ms, so the holder recounts the condition. 08
R190. -/
  | conditionRecount (h : Hdr) (k : Nat)
  /-- VIEW_DISAGREE: A difference between management view and data path lasts 64 cycles, so the view is rewritten and an EVT
record is written. 08 R209. -/
  | viewDisagree (h : Hdr)
  /-- PATH_CONFIRM: The PCONF window ends, and a command-path loss is judged external or charged to lanes. 08 R211. -/
  | pathConfirm (h : Hdr) (p : Nat)
  /-- LN_HANDOVER: HANDOVER in LN_CMD starts a handover as cause 0x16, or is refused. 08 R197. -/
  | lnHandover (h : Hdr) (q : Requester)
  /-- LN_LANE_RESET: LANE_RESET in LN_CMD resets the lane, and is refused while ACTIVE. 15 R352. -/
  | lnLaneReset (h : Hdr) (q : Requester)
  /-- LN_ACK_SILENT: ACK_SILENT in LN_CMD ends SILENT_HOLD and its forced LIMP. 08 R203. -/
  | lnAckSilent (h : Hdr) (q : Requester)
  /-- SFE_EVALUATION: The SFE evaluates SLS, SLP and SDI for an axis at its LOOP_START and takes reactions when counters reach
RT. 09 R216. -/
  | sfeEvaluation (h : Hdr) (n : Nat) (katOk : Bool)
  /-- SFE_DEADLINE: An evaluation is not complete 240 cycles after its LOOP_START, so trigger 0x08 is raised. 09 R231. -/
  | sfeDeadline (h : Hdr) (n : Nat)
  /-- SFE_EVAL_RATE_TIMEOUT: No evaluation of an enabled axis completes for 4 × PER, so trigger 0x08 is raised. 09 R231. -/
  | sfeEvalRateTimeout (h : Hdr) (n : Nat)
  /-- SF_PROF_WRITE: A SF_CTRL.PROF write selects an SLS profile, applied unless LIMP is forced. 09 R218. -/
  | sfProfWrite (h : Hdr) (w : Wr)
  /-- SF_RESUME: RESUME bits request clearing of latched reactions at the next evaluation, or are refused. 09 R229. -/
  | sfResume (h : Hdr) (w : Wr)
  /-- BRAKE_RELEASE: At the first driven period start after START the brake state becomes RELEASED and BRL is driven high. 09
R228. -/
  | brakeRelease (h : Hdr) (n : Nat)
  /-- BRAKE_APPLY_START: At T_a the motor gates of a BRAKE axis go off and the apply ramp begins. 09 R227. -/
  | brakeApplyStart (h : Hdr) (n : Nat)
  /-- BRAKE_RAMP_PERIOD: A ramp period starts, driving BRL with a falling high-time and ending in APPLIED with SAFE. 09 R228.
-/
  | brakeRampPeriod (h : Hdr) (n : Nat)
  /-- SHM_ACCESS: An arbitrated SHM, ROM or Chill RAM line access is served with inner correction. 10 R238. -/
  | shmAccess (h : Hdr) (src addr : Nat) (data : Option (List Byte)) (e : Machine.LineErr)
  /-- OUTER_CHECK_RESULT: The outer check completes 2 cycles after delivery, and a failure registers trigger 0x03. 10 R241. -/
  | outerCheckResult (h : Hdr)
  /-- CE_WRITE_BACK: The corrected word is written back unless a newer write has reached the line. 10 R239. -/
  | ceWriteBack (h : Hdr)
  /-- WRITE_VERIFY_READ: Within 32 cycles of a line write the check bits are re-read, and a difference is WRITE_VERIFY. 10
R242. -/
  | writeVerifyRead (h : Hdr) (e : Machine.LineErr)
  /-- SCRUB_READ: The scrubber reads the next line every RATE cycles and applies the codes. 10 R243. -/
  | scrubRead (h : Hdr) (e : Machine.LineErr)
  /-- PARK_SCRUB: In PARK the always-on domain scrubs one Chill RAM line per 64 µs. 10 R244. -/
  | parkScrub (h : Hdr) (e : Machine.LineErr)
  /-- LOCKSTEP_MISMATCH: A comparator registers a lock-step mismatch, raising trigger 0x01 unless debug is granted. 10 R248.
-/
  | lockstepMismatch (h : Hdr) (k : Nat)
  /-- COMPARATOR_SELFTEST: Every 2^20 cycles each comparator's forced difference is checked. 10 R248. -/
  | comparatorSelftest (h : Hdr) (fails : BitVec 11)
  /-- PARITY_ERROR: A stored configuration bit changes without a write, raising trigger 0x04. 10 R253. -/
  | parityError (h : Hdr) (off b : Nat) (entry : Option Nat)
  /-- TAP_OPEN_INSTRUCTION: An open TAP instruction loads with no effect on lock-step. 10 R250. -/
  | tapOpenInstruction (h : Hdr) (ir : Machine.TapIr)
  /-- TAP_ATTACH: An attaching instruction at Update-IR latches DEBUG_UNLOCKED, raises cause 0x15 and awaits its grant. 10
R250. -/
  | tapAttach (h : Hdr) (ir : Machine.TapIr) (code : BitVec 8)
  /-- DEBUG_GRANT: A waiting attach is granted once the lane is not ACTIVE, and comparison stops until a power cycle. 10 R251.
-/
  | debugGrant (h : Hdr)
  /-- TAP_RESET: TRST_N_x asynchronously resets the TAP and ends a pending attach request. 10 R249. -/
  | tapReset (h : Hdr)
  /-- IG_INJ_WRITE: A write to IG_INJ arms an error injection, or is refused. 10 R255. -/
  | igInjWrite (h : Hdr) (w : Wr)
  /-- IG_UEINFO_VALID_CLEAR: Writing 0 to IG_UEINFO.VALID releases the UE capture. 10 R240. -/
  | igUeinfoValidClear (h : Hdr) (q : Requester)
  /-- TS_CMD_RUN: An on-demand Shakeout request runs the named tests or is refused. 11 R262. -/
  | tsCmdRun (h : Hdr) (w : Wr)
  /-- GATE_CELL_STEP: At the gate-cell interval the next off gate cell and shunt comparator are tested. 11 R264. -/
  | gateCellStep (h : Hdr) (m : Machine.CellMeas)
  /-- GATE_CELL_ABORT: A cell under test is abandoned 1 cycle before a queued on word, and TEST_ABORT is counted. 11 R264. -/
  | gateCellAbort (h : Hdr)
  /-- CHOPPER_BG_TEST: At CINT the background chopper test is run. 11 R263. -/
  | chopperBgTest (h : Hdr)
  /-- TEMPER_INTERVAL: At each TINT boundary Temper judges its quantities, steps VCORE, retrims and may write the birth
record. 11 R268. -/
  | temperInterval (h : Hdr) (slacks : List Nat) (vinOk : Bool)
  /-- BIRTH_WRITE_COMPLETE: OTP programming of a birth record ends and its read-back is verified. 11 R274. -/
  | birthWriteComplete (h : Hdr) (ok : Bool)
  /-- SLOT_START: LEN × 1,250 cycles after the previous slot, the master starts the next enabled slot and hands its poll to
the controller. 12 R289. -/
  | slotStart (h : Hdr) (b : Nat)
  /-- SLOT_END: A slot ends, and the master records RESP_MISSING if no valid response came. 12 R292. -/
  | slotEnd (h : Hdr) (b : Nat)
  /-- SPRUE_POLL_RECEIVE: A valid POLL is received, adopting its mode and queuing any response. 12 R291. -/
  | spruePollReceive (h : Hdr) (b ident : Nat) (bs : List Byte)
  /-- SPRUE_RESPONSE_RECEIVE: A valid RESPONSE is received, recording SEEN and the mode-change ACK or NAK at the master. 12
R293. -/
  | sprueResponseReceive (h : Hdr) (b ident : Nat) (bs : List Byte)
  /-- FOREIGN_FRAME: A frame with a foreign identifier or format is acknowledged, ignored and counted. 12 R283. -/
  | foreignFrame (h : Hdr) (b : Nat)
  /-- TX_ECHO: A lane's own frame is received and its envelope compared; two differences lose the path. 12 R302. -/
  | txEcho (h : Hdr) (b : Nat) (bs : List Byte) (tdcv : Nat)
  /-- RESPONSE_WITHDRAW: At the slave's slot end an unstarted retransmission is withdrawn. 12 R291. -/
  | responseWithdraw (h : Hdr) (b : Nat)
  /-- POLL_ERROR: A master's own poll ends in a bit or form error, and three in a row set RANK_CLASH. 12 R297. -/
  | pollError (h : Hdr) (b : Nat)
  /-- IDLE_WAIT_EXPIRY: The bus has been idle for IDLEW, so the node becomes master at its next slot-0 event. 12 R295. -/
  | idleWaitExpiry (h : Hdr) (b : Nat)
  /-- BUS_OFF: The controller enters bus-off, ending mastership and setting BUS_OFF. 12 R303. -/
  | busOff (h : Hdr) (b : Nat)
  /-- ERR_PASSIVE: The controller enters error-passive. 12 R303. -/
  | errPassive (h : Hdr) (b tec rec_ : Nat)
  /-- BUS_OFF_RECOVERY: Bus-off recovery completes, and the node answers polls and starts an idle wait. 12 R303. -/
  | busOffRecovery (h : Hdr) (b : Nat)
  /-- SP_PEND_WRITE: A write to SP_MODE.PEND or PEND_VALID requests, replaces or withdraws a mode change. 12 R293. -/
  | spPendWrite (h : Hdr) (b : Nat) (w : Wr)
  /-- SP_TABLE_WRITE: A write to SP_TWDATA stores a slot entry and re-checks the mode, or is refused. 12 R288. -/
  | spTableWrite (h : Hdr) (b : Nat) (w : Wr)
  /-- ENV_WATCHDOG: WDOG µs pass without an accepted message, so the connection enters FAULT. 13 R315. -/
  | envWatchdog (h : Hdr) (k : Nat)
  /-- DOORBELL_READ_COMPLETE: The doorbell block lands, host indices are tested and adopted, and a descriptor fetch is issued.
14 R328. -/
  | doorbellReadComplete (h : Hdr) (ok : Bool) (w0 w1 w2 w3 : Word)
  /-- READ_DEADLINE: A DE read is not fully landed by DBTO, so it is abandoned and RDFAIL is counted. 14 R328. -/
  | readDeadline (h : Hdr)
  /-- NOP: A NOP descriptor arrives, is checked and completes. 14 R335. -/
  | nop (h : Hdr) (bs : List Byte)
  /-- SETPOINT: A SETPOINT descriptor limits and stores speed or position setpoints. 14 R335. -/
  | setpoint (h : Hdr) (bs : List Byte)
  /-- MODE: A MODE descriptor applies STOP, START, profile, RESUME and Sprue requests. 14 R335. -/
  | mode (h : Hdr) (bs : List Byte)
  /-- ARM: An ARM descriptor disarms and arms ONCE indexing. 14 R335. -/
  | arm (h : Hdr) (bs : List Byte)
  /-- SHAKEOUT: A SHAKEOUT descriptor requests on-demand tests. 14 R335. -/
  | shakeout (h : Hdr) (bs : List Byte)
  /-- TIME: A TIME descriptor accepts a refused reference by SLEW or STEP. 14 R335. -/
  | time (h : Hdr) (bs : List Byte)
  /-- ABORT: An ABORT descriptor withdraws the pending operations of a TAG, or loses to a recorded completion. 14 R339. -/
  | abort (h : Hdr) (bs : List Byte)
  /-- LANE: A LANE descriptor applies HANDOVER, ACK_SILENT, fault clears and ZERO. 14 R335. -/
  | lane (h : Hdr) (bs : List Byte)
  /-- BAD_DESC: A descriptor with a reserved TYPE or a non-zero undefined field completes BAD_DESC. 14 R334. -/
  | badDesc (h : Hdr) (bs : List Byte)
  /-- OUTBOUND_WRITE: A staged outbound descriptor is written once its ring has room, and PI advances. 14 R331. -/
  | outboundWrite (h : Hdr)
  /-- INDEX_BLOCK_TIMER: 500 cycles after an uncovered outbound write, the index block is written and MSI-X follows. 14 R331.
-/
  | indexBlockTimer (h : Hdr)
  /-- MSIX_MODERATION_EXPIRY: IMOD ends with an event pending, so the vector fires once. 14 R342. -/
  | msixModerationExpiry (h : Hdr) (v : Nat)
  /-- ENDPOINT_RESET: PERST_N, hot reset, FLR or DL_Active loss resets the endpoint, the HR_ registers and the staged
descriptors. 14 R322. -/
  | endpointReset (h : Hdr) (kind : Nat)
  /-- HR_RING_ENABLE: Setting a ring's EN zeroes its indices, or is refused. 14 R329. -/
  | hrRingEnable (h : Hdr) (w : Wr)
  /-- IMAGE_LOAD: A LOAD write starts the Beyten image fetch, or is refused. 14 R344. -/
  | imageLoad (h : Hdr) (q : Requester)
  /-- IMAGE_FETCH_COMPLETE: The image has been fetched, and the SVC checks it completely or rejects it with a cause. 15 R359.
-/
  | imageFetchComplete (h : Hdr) (ws : List Word)
  /-- IMAGE_APPLY_COMPLETE: A checked image is applied, IMG_DONE is set and the lane enters RUN the next cycle. 15 R359. -/
  | imageApplyComplete (h : Hdr)
  /-- SPRUE_SOF: A start of frame appears on a Sprue bus: WCLK is captured for a cycle-start poll and the idle wait restarts,
cancelling a pending master start. 12 R295. -/
  | sprueSof (h : Hdr) (b : Nat) (own lost : Bool)
  /-- RUNNER_BLOCK_SEND: Every 16 cycles the lane-die Runner port begins a block, fills its payload slots by class with ALIGN
in slot 0, and drops commands with less than 520 cycles of lead. 07 R163. -/
  | runnerBlockSend (h : Hdr)
  /-- RETURN_BLOCK_SEND: Every 16 gate-drive cycles the gate-drive die begins a return block with LEVELS, CFGCRC, EVENT and
FBLK words, dropping words that found no slot in four blocks and setting OVF_EVT. 07 R183. -/
  | returnBlockSend (h : Hdr)
  /-- DL_ACTIVE_ENTRY: The PCIe link trains and reaches DL_Active, restoring one condition of the host path being alive. 14
R343. -/
  | dlActiveEntry (h : Hdr)
  /-- PCIE_CONFIG_WRITE: A configuration-space write sets or clears Memory Space Enable, Bus Master Enable, MSI-X enable or
the D0/D3hot state, changing host-path liveness and request issue. 14 R343. -/
  | pcieConfigWrite (h : Hdr) (mse bme msixEn d3hot : Bool) (mrrs : Nat)
  /-- SVC_BOOT_END: The 0.30 ms SVC boot with OTP record checks ends and start Shakeout test 0 begins. 15 R353. -/
  | svcBootEnd (h : Hdr)
  /-- PROGRESS_WORD_BURNED: Burning of both OTP progress-word copies ends, after which the VCORE step or wear level takes
effect and any WAIT held for OTP programming begins. 11 R277. -/
  | progressWordBurned (h : Hdr)
  deriving DecidableEq, Repr

/-- The header of a command. -/
def Instr.hdr : Instr → Hdr
  | .powerOn h _ => h
  | .vporLoss h => h
  | .vinBelowVrst h => h
  | .vrstRecover h _ => h
  | .vwarnTrip h => h
  | .vwarnClear h => h
  | .rstN h _ => h
  | .clockLoss h => h
  | .resetRelease h _ => h
  | .shakeoutTestComplete h _ _ _ _ => h
  | .restoreSaveList h _ => h
  | .soloExpiry h => h
  | .pwWait h _ => h
  | .lowPowerEntryIsolated h => h
  | .pwWake h _ => h
  | .wakePin h => h
  | .wakeSprue h _ => h
  | .wakePps h => h
  | .dozeWakeComplete h => h
  | .pwPadRelease h _ => h
  | .sysKeyWrite h _ => h
  | .registerWrite h _ _ => h
  | .statusRead h _ _ => h
  | .statusWriteBack h _ _ => h
  | .sysClkloRead h _ => h
  | .tlWsecLoRead h _ => h
  | .tlPerrRead h _ => h
  | .cvJitRead h _ => h
  | .sfSfeRead h _ => h
  | .lnTkoRead h _ => h
  | .lnPeerRead h _ _ => h
  | .hrSvcRead h _ => h
  | .fbSentsRead h _ _ => h
  | .tlPtOffsetWrite h _ _ => h
  | .ppsEdge h => h
  | .ppsMissing h => h
  | .timeAcceptSlew h _ => h
  | .timeAcceptStep h _ => h
  | .tlEvtRead h _ => h
  | .tlEvtCommit h _ => h
  | .entryBaseInstant h _ => h
  | .rePrediction h _ => h
  | .adcTrig h => h
  | .loopStart h => h
  | .edgePeriodCommit h _ => h
  | .edgeSectorCommit h _ => h
  | .edgeGateCommit h _ => h
  | .doorbell h => h
  | .sprueSlot h => h
  | .telemetry h => h
  | .quadCount h _ _ _ _ _ => h
  | .doubleEdge h _ => h
  | .indexEvent h _ _ _ _ => h
  | .fbArm h _ _ => h
  | .fbDisarm h _ _ => h
  | .aoffWrite h _ _ => h
  | .tooth h _ _ _ => h
  | .threshLoad h _ => h
  | .hallChange h _ _ => h
  | .hallInvalidTimeout h _ => h
  | .sentFrame h _ _ => h
  | .sentTimeout h _ => h
  | .speedDecay h _ => h
  | .standstillTimeout h _ => h
  | .speedWindowEnd h _ => h
  | .fbFclrCounter h _ _ => h
  | .fbFclrHall h _ _ => h
  | .fbFclrSent h _ _ => h
  | .nominalInstant h _ => h
  | .controlSeqStart h => h
  | .controlHold h => h
  | .monitorHold h _ => h
  | .monitorResume h => h
  | .conversionComplete h _ _ _ => h
  | .turnEnd h _ _ => h
  | .sliceSwap h _ => h
  | .cvSeqWrite h _ _ => h
  | .cvMonenWrite h _ => h
  | .cvRotWrite h _ => h
  | .passStart h _ => h
  | .dutyArrival h _ => h
  | .cutOff h _ => h
  | .bemfEvaluate h _ => h
  | .zcMiss h _ => h
  | .cmStart h _ _ => h
  | .cmStop h _ _ => h
  | .stopPeriodStart h _ => h
  | .leZero h _ _ => h
  | .leBankWrite h _ _ => h
  | .leWindowWrite h _ => h
  | .runnerBlockVerify h _ _ _ _ => h
  | .commandWord h _ => h
  | .isolateEnter h _ => h
  | .isolateLeave h _ => h
  | .chopflt h _ => h
  | .cfg h _ => h
  | .safe h _ => h
  | .align h _ => h
  | .idle h _ => h
  | .tokenRaise h _ => h
  | .tokenDrop h _ => h
  | .tokenHoldStart h => h
  | .queuedWordExecute h _ => h
  | .deadTimeTurnOn h => h
  | .heartbeatLoss h => h
  | .lossSafeExpiry h => h
  | .alignPeriodic h => h
  | .gdDtWrite h _ => h
  | .gdFclrPersist h _ => h
  | .gdFclrChop h _ => h
  | .gdRegisterWrite h _ _ => h
  | .bootUv h _ => h
  | .bootPersist h _ => h
  | .desatTrip h _ => h
  | .ocTrip h _ => h
  | .pfDecay h _ => h
  | .vdrvUvTrip h => h
  | .vdrvUvPersist h => h
  | .vdrvRecover h => h
  | .ov1Trip h => h
  | .ov1Release h => h
  | .ov2Enter h => h
  | .ov2Leave h => h
  | .ov3Trip h => h
  | .ov3Release h => h
  | .ov3Persist h => h
  | .chopperTestEnd h _ => h
  | .chopCurrentVerdict h => h
  | .returnBlockVerify h _ _ _ _ => h
  | .levelsWord h _ => h
  | .eventWord h _ => h
  | .fblkWord h _ => h
  | .cfgcrcWord h _ => h
  | .gdLost h => h
  | .tokenLineChange h _ _ => h
  | .heartbeatSend h => h
  | .heartbeatReceive h _ _ _ _ _ _ => h
  | .axcfgMismatch h => h
  | .peerSilent h _ => h
  | .riserLinkRestored h _ => h
  | .selfDiagnosisTrigger h _ _ => h
  | .deferredCause h _ _ => h
  | .handoverFrame h _ _ => h
  | .handoverRetry h => h
  | .handoverDrop h => h
  | .handoverCheck h => h
  | .claimStart h => h
  | .claimHold h => h
  | .splitTimeout h => h
  | .laneRecordSend h => h
  | .axisRecordReceive h _ _ _ _ _ _ => h
  | .laneRecordReceive h _ _ _ _ _ => h
  | .envRecordReceive h _ _ _ _ _ _ => h
  | .conditionRecount h _ => h
  | .viewDisagree h => h
  | .pathConfirm h _ => h
  | .lnHandover h _ => h
  | .lnLaneReset h _ => h
  | .lnAckSilent h _ => h
  | .sfeEvaluation h _ _ => h
  | .sfeDeadline h _ => h
  | .sfeEvalRateTimeout h _ => h
  | .sfProfWrite h _ => h
  | .sfResume h _ => h
  | .brakeRelease h _ => h
  | .brakeApplyStart h _ => h
  | .brakeRampPeriod h _ => h
  | .shmAccess h _ _ _ _ => h
  | .outerCheckResult h => h
  | .ceWriteBack h => h
  | .writeVerifyRead h _ => h
  | .scrubRead h _ => h
  | .parkScrub h _ => h
  | .lockstepMismatch h _ => h
  | .comparatorSelftest h _ => h
  | .parityError h _ _ _ => h
  | .tapOpenInstruction h _ => h
  | .tapAttach h _ _ => h
  | .debugGrant h => h
  | .tapReset h => h
  | .igInjWrite h _ => h
  | .igUeinfoValidClear h _ => h
  | .tsCmdRun h _ => h
  | .gateCellStep h _ => h
  | .gateCellAbort h => h
  | .chopperBgTest h => h
  | .temperInterval h _ _ => h
  | .birthWriteComplete h _ => h
  | .slotStart h _ => h
  | .slotEnd h _ => h
  | .spruePollReceive h _ _ _ => h
  | .sprueResponseReceive h _ _ _ => h
  | .foreignFrame h _ => h
  | .txEcho h _ _ _ => h
  | .responseWithdraw h _ => h
  | .pollError h _ => h
  | .idleWaitExpiry h _ => h
  | .busOff h _ => h
  | .errPassive h _ _ _ => h
  | .busOffRecovery h _ => h
  | .spPendWrite h _ _ => h
  | .spTableWrite h _ _ => h
  | .envWatchdog h _ => h
  | .doorbellReadComplete h _ _ _ _ _ => h
  | .readDeadline h => h
  | .nop h _ => h
  | .setpoint h _ => h
  | .mode h _ => h
  | .arm h _ => h
  | .shakeout h _ => h
  | .time h _ => h
  | .abort h _ => h
  | .lane h _ => h
  | .badDesc h _ => h
  | .outboundWrite h => h
  | .indexBlockTimer h => h
  | .msixModerationExpiry h _ => h
  | .endpointReset h _ => h
  | .hrRingEnable h _ => h
  | .imageLoad h _ => h
  | .imageFetchComplete h _ => h
  | .imageApplyComplete h => h
  | .sprueSof h _ _ _ => h
  | .runnerBlockSend h => h
  | .returnBlockSend h => h
  | .dlActiveEntry h => h
  | .pcieConfigWrite h _ _ _ _ _ => h
  | .svcBootEnd h => h
  | .progressWordBurned h => h

end Sys2Proof
end

