-- ==== Sys2Proof/Config.lean ====
section
/-! DEFINITION. What one implementation fixes, and the free values: constants without a body, of which nothing can be proved. -/

namespace Sys2Proof

/-- FREE VALUE (log 4): the k-th value the spec leaves open, as a number; a use narrows it to the width it needs. -/
opaque Config.freeNat : Nat → Nat

/-- FREE VALUE (log 5): what a byte of SHM that nothing has written holds (10 R236 gives no reset content), and the OTP bytes whose place or
value 11 Table 11.6 does not give. -/
opaque Config.freshByte : Nat → Byte

/-- FREE VALUE (log 4): the 8 inner check bits of a 64-bit word; 10 R236 names the code and gives no check matrix. -/
opaque Config.innerCheck : BitVec 64 → BitVec 8

/-- The mask-ROM content of the supervisor core, fixed in silicon (00 R3); its bytes are not in the spec (log 6). -/
opaque Config.romByte : Nat → Byte

/-- The stepping of the dies, a value of the part (00 R12); any other value than 1 counts as 2 (log 7). -/
opaque Config.steppingRaw : Nat

/-- The mask-ROM release number of SYS_REV.ROMVER (16 R389), fixed per die (log 7). -/
opaque Config.romVer : BitVec 8

/-- The module serial of SYS_MSER (16 R389), held in OTP (log 7). -/
opaque Config.moduleSerial : Word

/-- The die serial of SYS_DSER by lane number (16 R389), held in OTP (log 7). -/
opaque Config.dieSerial : Nat → Word

/-- The factory offset of slice s of converter m at 5m + s, 1/16 LSB as stored (04 R103; log 7). -/
opaque Config.factoryOff : Nat → BitVec 16

/-- The factory gain of slice s of converter m at 5m + s, 1.15 unsigned (04 R103; log 7). -/
opaque Config.factoryGain : Nat → BitVec 16

/-- The factory skew trim of slice s of converter m at 5m + s (04 R103; log 7). -/
opaque Config.factorySkew : Nat → BitVec 8

/-- The factory VCORE in mV (11 R276, R277; log 7). -/
opaque Config.factoryVcore : Nat

/-- TCS_k in 0.01 ps/°C (11 R268; log 7). -/
opaque Config.factoryTcs : Nat → Nat

/-- The factory reference drift of converter m in ppm (11 R275 judges against it; Table 11.6 lists none; log 7). -/
opaque Config.factoryDref : Nat → BitVec 16

/-- The factory sink resistance of gate cell i in mΩ (11 Table 11.6; log 7). -/
opaque Config.factorySink : Nat → BitVec 16

/-- The factory crystal offset in 0.01 ppm (11 Table 11.6; log 7). -/
opaque Config.factoryXo : BitVec 16

/-- The stepping of a lane: 1 or 2 (00 R12). -/
def Config.stepping : Nat := if Config.steppingRaw = 1 then 1 else 2

end Sys2Proof
end

