-- ==== Sys2Proof/Machine/Regs.lean ====
section
/-! DEFINITION. The register map: the offset of every register that holds a writable field or a status flag, its
reset value, its fields under their access codes (00 R13 Table 0.4, 16 R388 Table 16.2), and the flag bits. -/

namespace Sys2Proof.Machine

/-- Offset of TL_CTRL (02 R63). -/
def Reg.TL_CTRL : Nat := 0x1000
/-- Offset of TL_STATUS (02 R63). -/
def Reg.TL_STATUS : Nat := 0x1004
/-- Offset of TL_EVT_SEL (02 R63). -/
def Reg.TL_EVT_SEL : Nat := 0x1008
/-- Offset of TL_EVT_CMD (02 R63). -/
def Reg.TL_EVT_CMD : Nat := 0x100C
/-- Offset of TL_EVT_W, unit n (02 R63). -/
def Reg.TL_EVT_W (n : Nat) : Nat := 0x1010 + 0x4 * n
/-- Offset of TL_PT_CFG, unit n (02 R63). -/
def Reg.TL_PT_CFG (n : Nat) : Nat := 0x1040 + 0x20 * n
/-- Offset of TL_PT_SCALE, unit n (02 R63). -/
def Reg.TL_PT_SCALE (n : Nat) : Nat := 0x1044 + 0x20 * n
/-- Offset of TL_PT_OFFSET, unit n (02 R63). -/
def Reg.TL_PT_OFFSET (n : Nat) : Nat := 0x1048 + 0x20 * n
/-- Offset of TL_WRATE (02 R63). -/
def Reg.TL_WRATE : Nat := 0x120C
/-- Offset of TL_WCFG (02 R63). -/
def Reg.TL_WCFG : Nat := 0x1210
/-- Offset of TL_TJUMP (02 R63). -/
def Reg.TL_TJUMP : Nat := 0x1214
/-- Offset of TL_WSET_LO (02 R63). -/
def Reg.TL_WSET_LO : Nat := 0x1220
/-- Offset of TL_WSET_HI (02 R63). -/
def Reg.TL_WSET_HI : Nat := 0x1224
/-- Offset of TL_TACCEPT (02 R63). -/
def Reg.TL_TACCEPT : Nat := 0x1228
/-- Offset of TL_WSTATUS (02 R63). -/
def Reg.TL_WSTATUS : Nat := 0x122C
/-- Offset of FB_GSTATUS (03 R89). -/
def Reg.FB_GSTATUS : Nat := 0x1800
/-- Offset of FB_CFG, unit n (03 R89). -/
def Reg.FB_CFG (n : Nat) : Nat := 0x1880 + 0x80 * n
/-- Offset of FB_IDX, unit n (03 R89). -/
def Reg.FB_IDX (n : Nat) : Nat := 0x1884 + 0x80 * n
/-- Offset of FB_ARM, unit n (03 R89). -/
def Reg.FB_ARM (n : Nat) : Nat := 0x1888 + 0x80 * n
/-- Offset of FB_IDXVAL, unit n (03 R89). -/
def Reg.FB_IDXVAL (n : Nat) : Nat := 0x188C + 0x80 * n
/-- Offset of FB_AOFF, unit n (03 R89). -/
def Reg.FB_AOFF (n : Nat) : Nat := 0x1890 + 0x80 * n
/-- Offset of FB_TOOTH, unit n (03 R89). -/
def Reg.FB_TOOTH (n : Nat) : Nat := 0x1894 + 0x80 * n
/-- Offset of FB_HALL, unit n (03 R89). -/
def Reg.FB_HALL (n : Nat) : Nat := 0x1898 + 0x80 * n
/-- Offset of FB_HOFF, unit n (03 R89). -/
def Reg.FB_HOFF (n : Nat) : Nat := 0x189C + 0x80 * n
/-- Offset of FB_SENT, unit n (03 R89). -/
def Reg.FB_SENT (n : Nat) : Nat := 0x18A0 + 0x80 * n
/-- Offset of FB_SPDCFG, unit n (03 R89). -/
def Reg.FB_SPDCFG (n : Nat) : Nat := 0x18A4 + 0x80 * n
/-- Offset of FB_TSS, unit n (03 R89). -/
def Reg.FB_TSS (n : Nat) : Nat := 0x18A8 + 0x80 * n
/-- Offset of FB_XCHK, unit n (03 R89). -/
def Reg.FB_XCHK (n : Nat) : Nat := 0x18AC + 0x80 * n
/-- Offset of FB_LIM, unit n (03 R89). -/
def Reg.FB_LIM (n : Nat) : Nat := 0x18B0 + 0x80 * n
/-- Offset of FB_FCLR, unit n (03 R89). -/
def Reg.FB_FCLR (n : Nat) : Nat := 0x18B4 + 0x80 * n
/-- Offset of FB_STATUS, unit n (03 R89). -/
def Reg.FB_STATUS (n : Nat) : Nat := 0x18C0 + 0x80 * n
/-- Offset of CV_CTRL (04 R111). -/
def Reg.CV_CTRL : Nat := 0x2000
/-- Offset of CV_STATUS (04 R111). -/
def Reg.CV_STATUS : Nat := 0x2004
/-- Offset of CV_ROT (04 R111). -/
def Reg.CV_ROT : Nat := 0x2008
/-- Offset of CV_SEQ, unit n (04 R111). -/
def Reg.CV_SEQ (n : Nat) : Nat := 0x2040 + 0x4 * n
/-- Offset of CV_ENT, unit n, item k (04 R111). -/
def Reg.CV_ENT (n k : Nat) : Nat := 0x2100 + 0x80 * n + 0x4 * k
/-- Offset of CM_GSTATUS (05 R132). -/
def Reg.CM_GSTATUS : Nat := 0x2800
/-- Offset of CM_CFG, unit n (05 R132). -/
def Reg.CM_CFG (n : Nat) : Nat := 0x2840 + 0x80 * n
/-- Offset of CM_SOFFF, unit n (05 R132). -/
def Reg.CM_SOFFF (n : Nat) : Nat := 0x2844 + 0x80 * n
/-- Offset of CM_SOFFR, unit n (05 R132). -/
def Reg.CM_SOFFR (n : Nat) : Nat := 0x2848 + 0x80 * n
/-- Offset of CM_DUTY, unit n (05 R132). -/
def Reg.CM_DUTY (n : Nat) : Nat := 0x284C + 0x80 * n
/-- Offset of CM_ACC, unit n (05 R132). -/
def Reg.CM_ACC (n : Nat) : Nat := 0x2850 + 0x80 * n
/-- Offset of CM_DEC, unit n (05 R132). -/
def Reg.CM_DEC (n : Nat) : Nat := 0x2854 + 0x80 * n
/-- Offset of CM_SMAX, unit n (05 R132). -/
def Reg.CM_SMAX (n : Nat) : Nat := 0x2858 + 0x80 * n
/-- Offset of CM_CATCH, unit n (05 R132). -/
def Reg.CM_CATCH (n : Nat) : Nat := 0x285C + 0x80 * n
/-- Offset of CM_BMIN, unit n (05 R132). -/
def Reg.CM_BMIN (n : Nat) : Nat := 0x2868 + 0x80 * n
/-- Offset of CM_PMISS, unit n (05 R132). -/
def Reg.CM_PMISS (n : Nat) : Nat := 0x2860 + 0x80 * n
/-- Offset of CM_BEMF, unit n (05 R132). -/
def Reg.CM_BEMF (n : Nat) : Nat := 0x2864 + 0x80 * n
/-- Offset of CM_CMD, unit n (05 R132). -/
def Reg.CM_CMD (n : Nat) : Nat := 0x286C + 0x80 * n
/-- Offset of CM_STATUS, unit n (05 R132). -/
def Reg.CM_STATUS (n : Nat) : Nat := 0x287C + 0x80 * n
/-- Offset of LE_GSTATUS (06 R156). -/
def Reg.LE_GSTATUS : Nat := 0x3000
/-- Offset of LE_WSEL (06 R156). -/
def Reg.LE_WSEL : Nat := 0x3004
/-- Offset of LE_WDATA (06 R156). -/
def Reg.LE_WDATA : Nat := 0x3008
/-- Offset of LE_CFG, unit n (06 R156). -/
def Reg.LE_CFG (n : Nat) : Nat := 0x3100 + 0x40 * n
/-- Offset of LE_BANK, unit n (06 R156). -/
def Reg.LE_BANK (n : Nat) : Nat := 0x3104 + 0x40 * n
/-- Offset of LE_ILIM, unit n (06 R156). -/
def Reg.LE_ILIM (n : Nat) : Nat := 0x3108 + 0x40 * n
/-- Offset of LE_VMAX, unit n (06 R156). -/
def Reg.LE_VMAX (n : Nat) : Nat := 0x310C + 0x40 * n
/-- Offset of LE_CMD, unit n (06 R156). -/
def Reg.LE_CMD (n : Nat) : Nat := 0x3110 + 0x40 * n
/-- Offset of LE_STATUS, unit n (06 R156). -/
def Reg.LE_STATUS (n : Nat) : Nat := 0x3130 + 0x40 * n
/-- Offset of GD_DT (07 R187). -/
def Reg.GD_DT : Nat := 0x4000
/-- Offset of GD_STATUS (07 R187). -/
def Reg.GD_STATUS : Nat := 0x4004
/-- Offset of GD_PROT (07 R187). -/
def Reg.GD_PROT : Nat := 0x4008
/-- Offset of GD_OV (07 R187). -/
def Reg.GD_OV : Nat := 0x400C
/-- Offset of GD_CHOP (07 R187). -/
def Reg.GD_CHOP : Nat := 0x4010
/-- Offset of GD_CHOPI (07 R187). -/
def Reg.GD_CHOPI : Nat := 0x4014
/-- Offset of GD_PF (07 R187). -/
def Reg.GD_PF : Nat := 0x4018
/-- Offset of GD_SAFECFG (07 R187). -/
def Reg.GD_SAFECFG : Nat := 0x401C
/-- Offset of GD_FCLR (07 R187). -/
def Reg.GD_FCLR : Nat := 0x4028
/-- Offset of GD_OCTH, unit n (07 R187). -/
def Reg.GD_OCTH (n : Nat) : Nat := 0x4040 + 0x4 * n
/-- Offset of LN_AXCFG (08 R214). -/
def Reg.LN_AXCFG : Nat := 0x4800
/-- Offset of LN_CFG (08 R214). -/
def Reg.LN_CFG : Nat := 0x4804
/-- Offset of LN_PATHS (08 R214). -/
def Reg.LN_PATHS : Nat := 0x4808
/-- Offset of LN_STATUS (08 R214). -/
def Reg.LN_STATUS : Nat := 0x4810
/-- Offset of LN_REPLACE (08 R214). -/
def Reg.LN_REPLACE : Nat := 0x4818
/-- Offset of LN_CMD (08 R214). -/
def Reg.LN_CMD : Nat := 0x481C
/-- Offset of SF_CTRL (09 R235, 13 R319). -/
def Reg.SF_CTRL : Nat := 0x5000
/-- Offset of SF_STATUS (09 R235, 13 R319). -/
def Reg.SF_STATUS : Nat := 0x5004
/-- Offset of SF_CMD (09 R235, 13 R319). -/
def Reg.SF_CMD : Nat := 0x5008
/-- Offset of SF_CFG, unit n (09 R235, 13 R319). -/
def Reg.SF_CFG (n : Nat) : Nat := 0x5040 + 0x40 * n
/-- Offset of SF_CAP, unit n, item k (09 R235, 13 R319). -/
def Reg.SF_CAP (n k : Nat) : Nat := 0x5044 + 0x40 * n + 0x4 * k
/-- Offset of SF_SMARG, unit n (09 R235, 13 R319). -/
def Reg.SF_SMARG (n : Nat) : Nat := 0x5054 + 0x40 * n
/-- Offset of SF_RATE, unit n (09 R235, 13 R319). -/
def Reg.SF_RATE (n : Nat) : Nat := 0x5058 + 0x40 * n
/-- Offset of SF_PMIN, unit n (09 R235, 13 R319). -/
def Reg.SF_PMIN (n : Nat) : Nat := 0x505C + 0x40 * n
/-- Offset of SF_PMAX, unit n (09 R235, 13 R319). -/
def Reg.SF_PMAX (n : Nat) : Nat := 0x5060 + 0x40 * n
/-- Offset of SF_PGD, unit n (09 R235, 13 R319). -/
def Reg.SF_PGD (n : Nat) : Nat := 0x5064 + 0x40 * n
/-- Offset of SF_BRAKE, unit n (09 R235, 13 R319). -/
def Reg.SF_BRAKE (n : Nat) : Nat := 0x5068 + 0x40 * n
/-- Offset of SF_STATUSN, unit n (09 R235, 13 R319). -/
def Reg.SF_STATUSN (n : Nat) : Nat := 0x5078 + 0x40 * n
/-- Offset of IG_CTRL (10 R257). -/
def Reg.IG_CTRL : Nat := 0x5800
/-- Offset of IG_STATUS (10 R257). -/
def Reg.IG_STATUS : Nat := 0x5804
/-- Offset of IG_UEINFO (10 R257). -/
def Reg.IG_UEINFO : Nat := 0x5818
/-- Offset of IG_INJ (10 R257). -/
def Reg.IG_INJ : Nat := 0x5830
/-- Offset of IG_INJADDR (10 R257). -/
def Reg.IG_INJADDR : Nat := 0x5834
/-- Offset of TS_CTRL (11 R279). -/
def Reg.TS_CTRL : Nat := 0x6000
/-- Offset of TS_STATUS (11 R279). -/
def Reg.TS_STATUS : Nat := 0x6004
/-- Offset of TS_CMD (11 R279). -/
def Reg.TS_CMD : Nat := 0x601C
/-- Offset of TS_BG (11 R279). -/
def Reg.TS_BG : Nat := 0x6020
/-- Offset of SP_CFG, unit n (12 R305). -/
def Reg.SP_CFG (n : Nat) : Nat := 0x6800 + 0x400 * n
/-- Offset of SP_BT, unit n (12 R305). -/
def Reg.SP_BT (n : Nat) : Nat := 0x6804 + 0x400 * n
/-- Offset of SP_IDLE, unit n (12 R305). -/
def Reg.SP_IDLE (n : Nat) : Nat := 0x6808 + 0x400 * n
/-- Offset of SP_TDLY, unit n (12 R305). -/
def Reg.SP_TDLY (n : Nat) : Nat := 0x680C + 0x400 * n
/-- Offset of SP_CYC, unit n (12 R305). -/
def Reg.SP_CYC (n : Nat) : Nat := 0x6810 + 0x400 * n
/-- Offset of SP_MODE, unit n (12 R305). -/
def Reg.SP_MODE (n : Nat) : Nat := 0x6814 + 0x400 * n
/-- Offset of SP_NODES, unit n, item k (12 R305). -/
def Reg.SP_NODES (n k : Nat) : Nat := 0x6818 + 0x400 * n + 0x4 * k
/-- Offset of SP_TWSEL, unit n (12 R305). -/
def Reg.SP_TWSEL (n : Nat) : Nat := 0x6830 + 0x400 * n
/-- Offset of SP_TWDATA, unit n (12 R305). -/
def Reg.SP_TWDATA (n : Nat) : Nat := 0x6834 + 0x400 * n
/-- Offset of SP_STATUS, unit n (12 R305). -/
def Reg.SP_STATUS (n : Nat) : Nat := 0x6840 + 0x400 * n
/-- Offset of SF_ENVCTRL (09 R235, 13 R319). -/
def Reg.SF_ENVCTRL : Nat := 0x5400
/-- Offset of SF_ENVSTATUS (09 R235, 13 R319). -/
def Reg.SF_ENVSTATUS : Nat := 0x5404
/-- Offset of SF_CID, unit n (09 R235, 13 R319). -/
def Reg.SF_CID (n : Nat) : Nat := 0x5440 + 0x20 * n
/-- Offset of SF_CCFG, unit n (09 R235, 13 R319). -/
def Reg.SF_CCFG (n : Nat) : Nat := 0x5444 + 0x20 * n
/-- Offset of SF_CTIME, unit n (09 R235, 13 R319). -/
def Reg.SF_CTIME (n : Nat) : Nat := 0x5448 + 0x20 * n
/-- Offset of SF_CWDG, unit n (09 R235, 13 R319). -/
def Reg.SF_CWDG (n : Nat) : Nat := 0x544C + 0x20 * n
/-- Offset of HR_CTRL (14 R346). -/
def Reg.HR_CTRL : Nat := 0x7000
/-- Offset of HR_STATUS (14 R346). -/
def Reg.HR_STATUS : Nat := 0x7004
/-- Offset of HR_DBLO (14 R346). -/
def Reg.HR_DBLO : Nat := 0x7008
/-- Offset of HR_DBHI (14 R346). -/
def Reg.HR_DBHI : Nat := 0x700C
/-- Offset of HR_IXLO (14 R346). -/
def Reg.HR_IXLO : Nat := 0x7010
/-- Offset of HR_IXHI (14 R346). -/
def Reg.HR_IXHI : Nat := 0x7014
/-- Offset of HR_DBCFG (14 R346). -/
def Reg.HR_DBCFG : Nat := 0x7018
/-- Offset of HR_IMOD (14 R346). -/
def Reg.HR_IMOD : Nat := 0x701C
/-- Offset of HR_RING_LO, unit n (14 R346). -/
def Reg.HR_RING_LO (n : Nat) : Nat := 0x7040 + 0x10 * n
/-- Offset of HR_RING_HI, unit n (14 R346). -/
def Reg.HR_RING_HI (n : Nat) : Nat := 0x7044 + 0x10 * n
/-- Offset of HR_IMG_LO (14 R346). -/
def Reg.HR_IMG_LO : Nat := 0x7080
/-- Offset of HR_IMG_HI (14 R346). -/
def Reg.HR_IMG_HI : Nat := 0x7084
/-- Offset of HR_IMG_LEN (14 R346). -/
def Reg.HR_IMG_LEN : Nat := 0x7088
/-- Offset of HR_IMGCMD (14 R346). -/
def Reg.HR_IMGCMD : Nat := 0x708C
/-- Offset of PW_MODE (15 R373). -/
def Reg.PW_MODE : Nat := 0x7800
/-- Offset of PW_CMD (15 R373). -/
def Reg.PW_CMD : Nat := 0x7804
/-- Offset of PW_PADREL (15 R373). -/
def Reg.PW_PADREL : Nat := 0x7808
/-- Offset of PW_STATUS (15 R373). -/
def Reg.PW_STATUS : Nat := 0x7810
/-- Offset of PW_VTH (15 R373). -/
def Reg.PW_VTH : Nat := 0x7814
/-- Offset of PW_VCFG (15 R373). -/
def Reg.PW_VCFG : Nat := 0x7818
/-- Offset of PW_WAKE (15 R373). -/
def Reg.PW_WAKE : Nat := 0x781C
/-- Offset of SYS_SCRATCH (16 R389). -/
def Reg.SYS_SCRATCH : Nat := 0x20
/-- Offset of SYS_KEY (16 R389). -/
def Reg.SYS_KEY : Nat := 0x400
/-- Offset of SYS_LSTATUS (16 R389). -/
def Reg.SYS_LSTATUS : Nat := 0x800

/-- Flag bit PT_STEPPED of TL_STATUS. -/
def Bit.TL_PT_STEPPED : Nat := 5
/-- Flag bit PRED_ERR of TL_STATUS. -/
def Bit.TL_PRED_ERR : Nat := 4
/-- Flag bit PASSED of TL_STATUS. -/
def Bit.TL_PASSED : Nat := 3
/-- Flag bit DEFERRED of TL_STATUS. -/
def Bit.TL_DEFERRED : Nat := 2
/-- Flag bit ENTRY_REJECTED of TL_STATUS. -/
def Bit.TL_ENTRY_REJECTED : Nat := 1
/-- Flag bit PARITY of TL_STATUS. -/
def Bit.TL_PARITY : Nat := 0
/-- Flag bit TIME_JUMP_REFUSED of TL_WSTATUS. -/
def Bit.TLW_TIME_JUMP_REFUSED : Nat := 3
/-- Flag bit PPS_MISSING of TL_WSTATUS. -/
def Bit.TLW_PPS_MISSING : Nat := 2
/-- Flag bit PPS_GLITCH of TL_WSTATUS. -/
def Bit.TLW_PPS_GLITCH : Nat := 1
/-- Flag bit SRC_CONFLICT of FB_STATUS. -/
def Bit.FB_SRC_CONFLICT : Nat := 13
/-- Flag bit TOOTH_FAST of FB_STATUS. -/
def Bit.FB_TOOTH_FAST : Nat := 12
/-- Flag bit SPD_SAT of FB_STATUS. -/
def Bit.FB_SPD_SAT : Nat := 11
/-- Flag bit ARM_REFUSED of FB_STATUS. -/
def Bit.FB_ARM_REFUSED : Nat := 10
/-- Flag bit INDEX_SEEN of FB_STATUS. -/
def Bit.FB_INDEX_SEEN : Nat := 9
/-- Flag bit XCHK_SENT of FB_STATUS. -/
def Bit.FB_XCHK_SENT : Nat := 8
/-- Flag bit XCHK_HALL of FB_STATUS. -/
def Bit.FB_XCHK_HALL : Nat := 7
/-- Flag bit SENT_LOST of FB_STATUS. -/
def Bit.FB_SENT_LOST : Nat := 6
/-- Flag bit SENT_ERR of FB_STATUS. -/
def Bit.FB_SENT_ERR : Nat := 5
/-- Flag bit HALL_SKIP of FB_STATUS. -/
def Bit.FB_HALL_SKIP : Nat := 4
/-- Flag bit HALL_INVALID of FB_STATUS. -/
def Bit.FB_HALL_INVALID : Nat := 3
/-- Flag bit COUNT_MISMATCH of FB_STATUS. -/
def Bit.FB_COUNT_MISMATCH : Nat := 2
/-- Flag bit DOUBLE_EDGE of FB_STATUS. -/
def Bit.FB_DOUBLE_EDGE : Nat := 1
/-- Flag bit SENSOR_FAULT of FB_STATUS. -/
def Bit.FB_SENSOR_FAULT : Nat := 0
/-- Flag bit NO_SPARE of CV_STATUS. -/
def Bit.CV_NO_SPARE : Nat := 11
/-- Flag bit FACTORY_BAD of CV_STATUS. -/
def Bit.CV_FACTORY_BAD : Nat := 10
/-- Flag bit TRAIN_REJ of CV_STATUS. -/
def Bit.CV_TRAIN_REJ : Nat := 9
/-- Flag bit INSVC_FAIL of CV_STATUS. -/
def Bit.CV_INSVC_FAIL : Nat := 8
/-- Flag bit CONV_FAILED of CV_STATUS. -/
def Bit.CV_CONV_FAILED : Nat := 7
/-- Flag bit CONV_DEGRADED of CV_STATUS. -/
def Bit.CV_CONV_DEGRADED : Nat := 6
/-- Flag bit SLICE_LOST of CV_STATUS. -/
def Bit.CV_SLICE_LOST : Nat := 5
/-- Flag bit SEQ_OVERLAP of CV_STATUS. -/
def Bit.CV_SEQ_OVERLAP : Nat := 4
/-- Flag bit TRIG_BAD of CV_STATUS. -/
def Bit.CV_TRIG_BAD : Nat := 3
/-- Flag bit TRIG_LOST of CV_STATUS. -/
def Bit.CV_TRIG_LOST : Nat := 2
/-- Flag bit OVERRUN of CV_STATUS. -/
def Bit.CV_OVERRUN : Nat := 1
/-- Flag bit JITTER of CV_STATUS. -/
def Bit.CV_JITTER : Nat := 0
/-- Flag bit CFG_BAD of CM_STATUS. -/
def Bit.CM_CFG_BAD : Nat := 13
/-- Flag bit BEMF_FAST of CM_STATUS. -/
def Bit.CM_BEMF_FAST : Nat := 12
/-- Flag bit ZC_MISS of CM_STATUS. -/
def Bit.CM_ZC_MISS : Nat := 11
/-- Flag bit FALLBACK_ENTERED of CM_STATUS. -/
def Bit.CM_FALLBACK_ENTERED : Nat := 10
/-- Flag bit GEN_CLAMPED of CM_STATUS. -/
def Bit.CM_GEN_CLAMPED : Nat := 9
/-- Flag bit LIMITED of CM_STATUS. -/
def Bit.CM_LIMITED : Nat := 8
/-- Flag bit SECT_BAD of CM_STATUS. -/
def Bit.CM_SECT_BAD : Nat := 7
/-- Flag bit SECT_RESYNC of CM_STATUS. -/
def Bit.CM_SECT_RESYNC : Nat := 6
/-- Flag bit SECT_LATE of CM_STATUS. -/
def Bit.CM_SECT_LATE : Nat := 5
/-- Flag bit SECT_LOST of CM_STATUS. -/
def Bit.CM_SECT_LOST : Nat := 4
/-- Flag bit START_REFUSED of CM_STATUS. -/
def Bit.CM_START_REFUSED : Nat := 3
/-- Flag bit CATCH_REFUSED of CM_STATUS. -/
def Bit.CM_CATCH_REFUSED : Nat := 2
/-- Flag bit PHASE_MISSING of CM_STATUS. -/
def Bit.CM_PHASE_MISSING : Nat := 1
/-- Flag bit DUTY_DEFERRED of CM_STATUS. -/
def Bit.CM_DUTY_DEFERRED : Nat := 0
/-- Flag bit WIN_REFUSED of LE_GSTATUS. -/
def Bit.LEG_WIN_REFUSED : Nat := 8
/-- Flag bit OUTER_IGNORED of LE_STATUS. -/
def Bit.LE_OUTER_IGNORED : Nat := 11
/-- Flag bit POS_LOST of LE_STATUS. -/
def Bit.LE_POS_LOST : Nat := 10
/-- Flag bit BANK_EMPTY of LE_STATUS. -/
def Bit.LE_BANK_EMPTY : Nat := 9
/-- Flag bit PRESET of LE_STATUS. -/
def Bit.LE_PRESET : Nat := 8
/-- Flag bit BANK_SWITCHED of LE_STATUS. -/
def Bit.LE_BANK_SWITCHED : Nat := 7
/-- Flag bit OSAT of LE_STATUS. -/
def Bit.LE_OSAT : Nat := 6
/-- Flag bit VDC_BAD of LE_STATUS. -/
def Bit.LE_VDC_BAD : Nat := 5
/-- Flag bit CUR_LIMIT of LE_STATUS. -/
def Bit.LE_CUR_LIMIT : Nat := 4
/-- Flag bit OVF of LE_STATUS. -/
def Bit.LE_OVF : Nat := 3
/-- Flag bit ISAT of LE_STATUS. -/
def Bit.LE_ISAT : Nat := 2
/-- Flag bit SAT of LE_STATUS. -/
def Bit.LE_SAT : Nat := 1
/-- Flag bit LOOP_SKIPPED of LE_STATUS. -/
def Bit.LE_LOOP_SKIPPED : Nat := 0
/-- Flag bit BAD_WORD of GD_STATUS. -/
def Bit.GD_BAD_WORD : Nat := 19
/-- Flag bit CFG_MISMATCH of GD_STATUS. -/
def Bit.GD_CFG_MISMATCH : Nat := 18
/-- Flag bit OV_ORDER of GD_STATUS. -/
def Bit.GD_OV_ORDER : Nat := 17
/-- Flag bit RUN_LOST of GD_STATUS. -/
def Bit.GD_RUN_LOST : Nat := 16
/-- Flag bit GD_LOST of GD_STATUS. -/
def Bit.GD_GD_LOST : Nat := 15
/-- Flag bit VDRV_UV of GD_STATUS. -/
def Bit.GD_VDRV_UV : Nat := 14
/-- Flag bit QFULL of GD_STATUS. -/
def Bit.GD_QFULL : Nat := 12
/-- Flag bit LATE of GD_STATUS. -/
def Bit.GD_LATE : Nat := 11
/-- Flag bit OV3_PERSIST of GD_STATUS. -/
def Bit.GD_OV3_PERSIST : Nat := 10
/-- Flag bit OV3 of GD_STATUS. -/
def Bit.GD_OV3 : Nat := 9
/-- Flag bit GEN_LIMIT of GD_STATUS. -/
def Bit.GD_GEN_LIMIT : Nat := 8
/-- Flag bit CHOP_FAULT of GD_STATUS. -/
def Bit.GD_CHOP_FAULT : Nat := 7
/-- Flag bit OV1 of GD_STATUS. -/
def Bit.GD_OV1 : Nat := 6
/-- Flag bit GATE_PERSIST of GD_STATUS. -/
def Bit.GD_GATE_PERSIST : Nat := 5
/-- Flag bit BOOT_PERSIST of GD_STATUS. -/
def Bit.GD_BOOT_PERSIST : Nat := 4
/-- Flag bit BOOT_UV of GD_STATUS. -/
def Bit.GD_BOOT_UV : Nat := 3
/-- Flag bit OC of GD_STATUS. -/
def Bit.GD_OC : Nat := 2
/-- Flag bit DESAT of GD_STATUS. -/
def Bit.GD_DESAT : Nat := 1
/-- Flag bit SHOOT_REFUSED of GD_STATUS. -/
def Bit.GD_SHOOT_REFUSED : Nat := 0
/-- Flag bit HANDOVER_REFUSED of LN_STATUS. -/
def Bit.LN_HANDOVER_REFUSED : Nat := 13
/-- Flag bit REPLACE of LN_STATUS. -/
def Bit.LN_REPLACE : Nat := 12
/-- Flag bit COND_CHANGED of LN_STATUS. -/
def Bit.LN_COND_CHANGED : Nat := 11
/-- Flag bit CMD_LOST of LN_STATUS. -/
def Bit.LN_CMD_LOST : Nat := 10
/-- Flag bit PATH_LOST of LN_STATUS. -/
def Bit.LN_PATH_LOST : Nat := 9
/-- Flag bit RISER_LOST of LN_STATUS. -/
def Bit.LN_RISER_LOST : Nat := 8
/-- Flag bit MIRROR_STALE of LN_STATUS. -/
def Bit.LN_MIRROR_STALE : Nat := 7
/-- Flag bit AXCFG_MISMATCH of LN_STATUS. -/
def Bit.LN_AXCFG_MISMATCH : Nat := 6
/-- Flag bit VIEW_DISAGREE of LN_STATUS. -/
def Bit.LN_VIEW_DISAGREE : Nat := 5
/-- Flag bit SPLIT of LN_STATUS. -/
def Bit.LN_SPLIT : Nat := 4
/-- Flag bit CLAIM_CANCELLED of LN_STATUS. -/
def Bit.LN_CLAIM_CANCELLED : Nat := 3
/-- Flag bit CLAIM_YIELD of LN_STATUS. -/
def Bit.LN_CLAIM_YIELD : Nat := 2
/-- Flag bit TOKEN_RAISED of LN_STATUS. -/
def Bit.LN_TOKEN_RAISED : Nat := 1
/-- Flag bit TOKEN_DROPPED of LN_STATUS. -/
def Bit.LN_TOKEN_DROPPED : Nat := 0
/-- Flag bit PROF_CHANGED of SF_STATUS. -/
def Bit.SF_PROF_CHANGED : Nat := 10
/-- Flag bit DEADLINE of SF_STATUS. -/
def Bit.SF_DEADLINE : Nat := 9
/-- Flag bit KAT_FAIL of SF_STATUS. -/
def Bit.SF_KAT_FAIL : Nat := 8
/-- Flag bit SHADOW_VIOL of SF_STATUSN. -/
def Bit.SFN_SHADOW_VIOL : Nat := 11
/-- Flag bit START_BLOCKED of SF_STATUSN. -/
def Bit.SFN_START_BLOCKED : Nat := 10
/-- Flag bit RESUME_REFUSED of SF_STATUSN. -/
def Bit.SFN_RESUME_REFUSED : Nat := 9
/-- Flag bit STOP_FAIL of SF_STATUSN. -/
def Bit.SFN_STOP_FAIL : Nat := 8
/-- Flag bit INPUT_LOST of SF_STATUSN. -/
def Bit.SFN_INPUT_LOST : Nat := 7
/-- Flag bit SAFE_ENTERED of SF_STATUSN. -/
def Bit.SFN_SAFE_ENTERED : Nat := 6
/-- Flag bit RAMP_ENTERED of SF_STATUSN. -/
def Bit.SFN_RAMP_ENTERED : Nat := 5
/-- Flag bit CLAMPED of SF_STATUSN. -/
def Bit.SFN_CLAMPED : Nat := 4
/-- Flag bit SDI_VIOL of SF_STATUSN. -/
def Bit.SFN_SDI_VIOL : Nat := 3
/-- Flag bit SLP_VIOL of SF_STATUSN. -/
def Bit.SFN_SLP_VIOL : Nat := 2
/-- Flag bit SLS_VIOL of SF_STATUSN. -/
def Bit.SFN_SLS_VIOL : Nat := 1
/-- Flag bit SFCFG_BAD of SF_STATUSN. -/
def Bit.SFN_SFCFG_BAD : Nat := 0
/-- Flag bit CE_STORM of IG_STATUS. -/
def Bit.IG_CE_STORM : Nat := 10
/-- Flag bit HARD_BIT of IG_STATUS. -/
def Bit.IG_HARD_BIT : Nat := 9
/-- Flag bit REGION_BLOCKED of IG_STATUS. -/
def Bit.IG_REGION_BLOCKED : Nat := 8
/-- Flag bit DEBUG_ATTACH of IG_STATUS. -/
def Bit.IG_DEBUG_ATTACH : Nat := 7
/-- Flag bit LS_SELFTEST of IG_STATUS. -/
def Bit.IG_LS_SELFTEST : Nat := 6
/-- Flag bit LOCKSTEP of IG_STATUS. -/
def Bit.IG_LOCKSTEP : Nat := 5
/-- Flag bit PARITY of IG_STATUS. -/
def Bit.IG_PARITY : Nat := 4
/-- Flag bit WRITE_VERIFY of IG_STATUS. -/
def Bit.IG_WRITE_VERIFY : Nat := 3
/-- Flag bit OUTER of IG_STATUS. -/
def Bit.IG_OUTER : Nat := 2
/-- Flag bit UE of IG_STATUS. -/
def Bit.IG_UE : Nat := 1
/-- Flag bit CE of IG_STATUS. -/
def Bit.IG_CE : Nat := 0
/-- Flag bit TEST_REFUSED of TS_STATUS. -/
def Bit.TS_TEST_REFUSED : Nat := 9
/-- Flag bit TEST_ABORT of TS_STATUS. -/
def Bit.TS_TEST_ABORT : Nat := 8
/-- Flag bit INPUT_OPEN of TS_STATUS. -/
def Bit.TS_INPUT_OPEN : Nat := 7
/-- Flag bit SHAKE_FAIL of TS_STATUS. -/
def Bit.TS_SHAKE_FAIL : Nat := 6
/-- Flag bit BIRTH_FAIL of TS_STATUS. -/
def Bit.TS_BIRTH_FAIL : Nat := 5
/-- Flag bit BIRTH_WRITTEN of TS_STATUS. -/
def Bit.TS_BIRTH_WRITTEN : Nat := 4
/-- Flag bit RETRIM of TS_STATUS. -/
def Bit.TS_RETRIM : Nat := 3
/-- Flag bit VCORE_STEP of TS_STATUS. -/
def Bit.TS_VCORE_STEP : Nat := 2
/-- Flag bit WEAR_NOTICE of TS_STATUS. -/
def Bit.TS_WEAR_NOTICE : Nat := 1
/-- Flag bit CRITICAL of TS_STATUS. -/
def Bit.TS_CRITICAL : Nat := 0
/-- Flag bit TIME_UNPAIRED of SP_STATUS. -/
def Bit.SP_TIME_UNPAIRED : Nat := 15
/-- Flag bit FOREIGN of SP_STATUS. -/
def Bit.SP_FOREIGN : Nat := 14
/-- Flag bit BAD_RECORD of SP_STATUS. -/
def Bit.SP_BAD_RECORD : Nat := 13
/-- Flag bit TX_ECHO of SP_STATUS. -/
def Bit.SP_TX_ECHO : Nat := 12
/-- Flag bit ERR_PASSIVE of SP_STATUS. -/
def Bit.SP_ERR_PASSIVE : Nat := 11
/-- Flag bit BUS_OFF of SP_STATUS. -/
def Bit.SP_BUS_OFF : Nat := 10
/-- Flag bit RESP_MISSING of SP_STATUS. -/
def Bit.SP_RESP_MISSING : Nat := 9
/-- Flag bit SLOT_SKIP of SP_STATUS. -/
def Bit.SP_SLOT_SKIP : Nat := 8
/-- Flag bit SLOT_LATE of SP_STATUS. -/
def Bit.SP_SLOT_LATE : Nat := 7
/-- Flag bit TBL_REFUSED of SP_STATUS. -/
def Bit.SP_TBL_REFUSED : Nat := 6
/-- Flag bit MODE_BAD of SP_STATUS. -/
def Bit.SP_MODE_BAD : Nat := 5
/-- Flag bit MODE_HELD of SP_STATUS. -/
def Bit.SP_MODE_HELD : Nat := 4
/-- Flag bit MODE_SWITCHED of SP_STATUS. -/
def Bit.SP_MODE_SWITCHED : Nat := 3
/-- Flag bit RANK_CLASH of SP_STATUS. -/
def Bit.SP_RANK_CLASH : Nat := 2
/-- Flag bit MASTER_START of SP_STATUS. -/
def Bit.SP_MASTER_START : Nat := 1
/-- Flag bit MASTER_YIELD of SP_STATUS. -/
def Bit.SP_MASTER_YIELD : Nat := 0
/-- Flag bit ADOPTED of SF_ENVSTATUS. -/
def Bit.ENV_ADOPTED : Nat := 12
/-- Flag bit RESTARTED of SF_ENVSTATUS. -/
def Bit.ENV_RESTARTED : Nat := 11
/-- Flag bit CONN_FAULT of SF_ENVSTATUS. -/
def Bit.ENV_CONN_FAULT : Nat := 10
/-- Flag bit WATCHDOG of SF_ENVSTATUS. -/
def Bit.ENV_WATCHDOG : Nat := 9
/-- Flag bit JUMP of SF_ENVSTATUS. -/
def Bit.ENV_JUMP : Nat := 8
/-- Flag bit OLD of SF_ENVSTATUS. -/
def Bit.ENV_OLD : Nat := 7
/-- Flag bit REPEAT of SF_ENVSTATUS. -/
def Bit.ENV_REPEAT : Nat := 6
/-- Flag bit FUTURE of SF_ENVSTATUS. -/
def Bit.ENV_FUTURE : Nat := 5
/-- Flag bit AGE of SF_ENVSTATUS. -/
def Bit.ENV_AGE : Nat := 4
/-- Flag bit NOTIME of SF_ENVSTATUS. -/
def Bit.ENV_NOTIME : Nat := 3
/-- Flag bit FORMAT of SF_ENVSTATUS. -/
def Bit.ENV_FORMAT : Nat := 2
/-- Flag bit CHECK of SF_ENVSTATUS. -/
def Bit.ENV_CHECK : Nat := 1
/-- Flag bit IMG_FAIL of HR_STATUS. -/
def Bit.HR_IMG_FAIL : Nat := 8
/-- Flag bit IMG_DONE of HR_STATUS. -/
def Bit.HR_IMG_DONE : Nat := 7
/-- Flag bit TLM_BAD of HR_STATUS. -/
def Bit.HR_TLM_BAD : Nat := 6
/-- Flag bit EVT_DROP of HR_STATUS. -/
def Bit.HR_EVT_DROP : Nat := 5
/-- Flag bit TLM_DROP of HR_STATUS. -/
def Bit.HR_TLM_DROP : Nat := 4
/-- Flag bit DB_GAP of HR_STATUS. -/
def Bit.HR_DB_GAP : Nat := 3
/-- Flag bit DB_BUSY of HR_STATUS. -/
def Bit.HR_DB_BUSY : Nat := 2
/-- Flag bit RDFAIL of HR_STATUS. -/
def Bit.HR_RDFAIL : Nat := 1
/-- Flag bit DB_BAD of HR_STATUS. -/
def Bit.HR_DB_BAD : Nat := 0
/-- Flag bit SOLO_CLAIM of PW_STATUS. -/
def Bit.PW_SOLO_CLAIM : Nat := 5
/-- Flag bit PADS_RELEASED of PW_STATUS. -/
def Bit.PW_PADS_RELEASED : Nat := 4
/-- Flag bit RESTORE_FAIL of PW_STATUS. -/
def Bit.PW_RESTORE_FAIL : Nat := 3
/-- Flag bit WOKE of PW_STATUS. -/
def Bit.PW_WOKE : Nat := 2
/-- Flag bit WAIT_REFUSED of PW_STATUS. -/
def Bit.PW_WAIT_REFUSED : Nat := 1
/-- Flag bit VWARN of PW_STATUS. -/
def Bit.PW_VWARN : Nat := 0
/-- Flag bit KEY_BAD of SYS_LSTATUS. -/
def Bit.SYS_KEY_BAD : Nat := 1
/-- Flag bit WRITE_REFUSED of SYS_LSTATUS. -/
def Bit.SYS_WRITE_REFUSED : Nat := 0

/-- The access codes of Table 0.4 that a write can act on (00 R13); RO fields and SQ flags are no entry of a row. -/
inductive Access where
  | rw | rwl | rwk | rwkl | wo | wok
  deriving DecidableEq, Repr

/-- The code needs the writer's key armed (RWK). -/
def Access.keyed : Access → Bool
  | .rwk | .rwkl | .wok => true
  | .rw | .rwl | .wo => false

/-- The code is locked in RUN (RWL). -/
def Access.runLocked : Access → Bool
  | .rwl | .rwkl => true
  | .rw | .rwk | .wo | .wok => false

/-- The field stores nothing and reads zero (WO). -/
def Access.writeOnly : Access → Bool
  | .wo | .wok => true
  | .rw | .rwk | .rwl | .rwkl => false

/-- One writable field: lowest bit, width, access code. -/
structure Fld where
  lo : Nat
  width : Nat
  acc : Access
  deriving DecidableEq, Repr

/-- One register, or one family of equal registers at two strides. -/
structure RegRow where
  base : Nat
  stride : Nat
  count : Nat
  stride2 : Nat
  count2 : Nat
  reset : Word
  fields : List Fld
  /-- The register carries SEQ and SQ flags, or follows the token rule (16 R380, R382). -/
  status : Bool
  deriving DecidableEq, Repr

/-- The rows of the TL_ registers (02 R63). -/
def regRowsTl : List RegRow := [
  ⟨0x1000, 0x0, 1, 0x0, 1, 0x2800280, [⟨16, 12, .rw⟩, ⟨12, 4, .rwl⟩, ⟨0, 12, .rwl⟩], false⟩,
  ⟨0x1004, 0x0, 1, 0x0, 1, 0x0, [], true⟩,
  ⟨0x1008, 0x0, 1, 0x0, 1, 0x0, [⟨0, 8, .rw⟩], false⟩,
  ⟨0x100C, 0x0, 1, 0x0, 1, 0x0, [⟨0, 2, .wo⟩], false⟩,
  ⟨0x1010, 0x4, 6, 0x0, 1, 0x0, [⟨0, 32, .rw⟩], false⟩,
  ⟨0x1040, 0x20, 8, 0x0, 1, 0x0, [⟨16, 2, .rwl⟩, ⟨0, 16, .rwl⟩], false⟩,
  ⟨0x1044, 0x20, 8, 0x0, 1, 0x0, [⟨0, 32, .rwl⟩], false⟩,
  ⟨0x1048, 0x20, 8, 0x0, 1, 0x0, [⟨0, 32, .rw⟩], false⟩,
  ⟨0x120C, 0x0, 1, 0x0, 1, 0x0, [⟨0, 32, .rw⟩], false⟩,
  ⟨0x1210, 0x0, 1, 0x0, 1, 0x1, [⟨3, 1, .rwk⟩, ⟨0, 3, .rwk⟩], false⟩,
  ⟨0x1214, 0x0, 1, 0x0, 1, 0x3E8, [⟨0, 32, .rwk⟩], false⟩,
  ⟨0x1220, 0x0, 1, 0x0, 1, 0x0, [⟨0, 32, .rwk⟩], false⟩,
  ⟨0x1224, 0x0, 1, 0x0, 1, 0x0, [⟨16, 1, .rwk⟩, ⟨0, 16, .rwk⟩], false⟩,
  ⟨0x1228, 0x0, 1, 0x0, 1, 0x0, [⟨0, 2, .wok⟩], false⟩,
  ⟨0x122C, 0x0, 1, 0x0, 1, 0x0, [], true⟩]

/-- The rows of the FB_ registers (03 R89). FU6 and FU7 have a toothed train only (03 Table 3.1): the fields of quadrature, index, Hall,
SENT and the cross-checks do not exist on them (DEDUCED, log 24). -/
def regRowsFb : List RegRow := [
  ⟨0x1800, 0x0, 1, 0x0, 1, 0x0, [], true⟩,
  ⟨0x1880, 0x80, 6, 0x0, 1, 0x0, [⟨16, 16, .rwl⟩, ⟨10, 2, .rwl⟩, ⟨8, 2, .rwl⟩, ⟨7, 1, .rwl⟩, ⟨6, 1, .rwl⟩, ⟨0, 2, .rwl⟩], false⟩,
  ⟨0x1884, 0x80, 6, 0x0, 1, 0x0, [⟨8, 2, .rwl⟩, ⟨4, 1, .rwl⟩, ⟨3, 1, .rwl⟩, ⟨0, 2, .rwl⟩], false⟩,
  ⟨0x1888, 0x80, 6, 0x0, 1, 0x0, [⟨0, 2, .wok⟩], false⟩,
  ⟨0x188C, 0x80, 6, 0x0, 1, 0x0, [⟨0, 32, .rw⟩], false⟩,
  ⟨0x1890, 0x80, 8, 0x0, 1, 0x0, [⟨0, 32, .rw⟩], false⟩,
  ⟨0x1894, 0x80, 8, 0x0, 1, 0x280023A, [⟨16, 10, .rwl⟩, ⟨15, 1, .rwl⟩, ⟨14, 1, .rwl⟩, ⟨8, 2, .rwl⟩, ⟨0, 8, .rwl⟩], false⟩,
  ⟨0x1898, 0x80, 6, 0x0, 1, 0x1D850, [⟨0, 18, .rwl⟩], false⟩,
  ⟨0x189C, 0x80, 6, 0x0, 1, 0x10000, [⟨16, 4, .rwl⟩, ⟨0, 16, .rwl⟩], false⟩,
  ⟨0x18A0, 0x80, 6, 0x0, 1, 0xFA00000, [⟨16, 16, .rwl⟩, ⟨2, 1, .rwl⟩, ⟨1, 1, .rwl⟩, ⟨0, 1, .rwl⟩], false⟩,
  ⟨0x18A4, 0x80, 8, 0x0, 1, 0x6010000, [⟨24, 3, .rwl⟩, ⟨0, 24, .rwl⟩], false⟩,
  ⟨0x18A8, 0x80, 8, 0x0, 1, 0x4E20, [⟨0, 20, .rwl⟩], false⟩,
  ⟨0x18AC, 0x80, 6, 0x0, 1, 0x32910, [⟨20, 12, .rwl⟩, ⟨16, 4, .rwl⟩, ⟨8, 8, .rwl⟩, ⟨0, 8, .rwl⟩], false⟩,
  ⟨0x18B0, 0x80, 6, 0x0, 1, 0x204, [⟨8, 8, .rwl⟩, ⟨0, 8, .rwl⟩], false⟩,
  ⟨0x18B4, 0x80, 6, 0x0, 1, 0x0, [⟨0, 3, .wok⟩], false⟩,
  ⟨0x1B80, 0x80, 2, 0x0, 1, 0x0, [⟨10, 2, .rwl⟩, ⟨8, 2, .rwl⟩, ⟨0, 2, .rwl⟩], false⟩,
  ⟨0x1BB4, 0x80, 2, 0x0, 1, 0x0, [⟨0, 1, .wok⟩], false⟩,
  ⟨0x18C0, 0x80, 8, 0x0, 1, 0x0, [], true⟩]

/-- The rows of the CV_ registers (04 R111). -/
def regRowsCv : List RegRow := [
  ⟨0x2000, 0x0, 1, 0x0, 1, 0x3, [⟨1, 1, .rwl⟩, ⟨0, 1, .rw⟩], false⟩,
  ⟨0x2004, 0x0, 1, 0x0, 1, 0x0, [], true⟩,
  ⟨0x2008, 0x0, 1, 0x0, 1, 0x3E8, [⟨0, 16, .rw⟩], false⟩,
  ⟨0x2040, 0x4, 16, 0x0, 1, 0x0, [⟨31, 1, .rwl⟩, ⟨30, 1, .rwl⟩, ⟨27, 3, .rwl⟩, ⟨22, 5, .rwl⟩, ⟨16, 6, .rwl⟩, ⟨0, 16, .rwl⟩], false⟩,
  ⟨0x2100, 0x80, 4, 0x4, 32, 0x0, [⟨0, 6, .rwl⟩], false⟩]

/-- The rows of the CM_ registers (05 R132). -/
def regRowsCm : List RegRow := [
  ⟨0x2800, 0x0, 1, 0x0, 1, 0x0, [], true⟩,
  ⟨0x2840, 0x80, 6, 0x0, 1, 0x30D4, [⟨30, 2, .rwl⟩, ⟨0, 15, .rwl⟩], false⟩,
  ⟨0x2844, 0x80, 6, 0x0, 1, 0x0, [⟨0, 32, .rwl⟩], false⟩,
  ⟨0x2848, 0x80, 6, 0x0, 1, 0x0, [⟨0, 32, .rwl⟩], false⟩,
  ⟨0x284C, 0x80, 6, 0x0, 1, 0x799A0148, [⟨16, 16, .rw⟩, ⟨0, 16, .rw⟩], false⟩,
  ⟨0x2850, 0x80, 6, 0x0, 1, 0x3E8, [⟨0, 24, .rw⟩], false⟩,
  ⟨0x2854, 0x80, 6, 0x0, 1, 0x3E8, [⟨0, 24, .rw⟩], false⟩,
  ⟨0x2858, 0x80, 6, 0x0, 1, 0x7FFFFF, [⟨0, 24, .rw⟩], false⟩,
  ⟨0x285C, 0x80, 6, 0x0, 1, 0x0, [⟨0, 24, .rw⟩], false⟩,
  ⟨0x2868, 0x80, 6, 0x0, 1, 0x258, [⟨0, 24, .rw⟩], false⟩,
  ⟨0x2860, 0x80, 6, 0x0, 1, 0x2000190, [⟨24, 4, .rw⟩, ⟨0, 18, .rw⟩], false⟩,
  ⟨0x2864, 0x80, 6, 0x0, 1, 0x802000FA, [⟨24, 8, .rwl⟩, ⟨20, 4, .rwl⟩, ⟨11, 5, .rwl⟩, ⟨0, 11, .rwl⟩], false⟩,
  ⟨0x286C, 0x80, 6, 0x0, 1, 0x0, [⟨0, 2, .wok⟩], false⟩,
  ⟨0x287C, 0x80, 6, 0x0, 1, 0x0, [], true⟩]

/-- The rows of the LE_ registers (06 R156). -/
def regRowsLe : List RegRow := [
  ⟨0x3000, 0x0, 1, 0x0, 1, 0x0, [], true⟩,
  ⟨0x3004, 0x0, 1, 0x0, 1, 0x0, [⟨24, 3, .rw⟩, ⟨16, 1, .rw⟩, ⟨0, 8, .rw⟩], false⟩,
  ⟨0x3008, 0x0, 1, 0x0, 1, 0x0, [⟨0, 32, .rw⟩], false⟩,
  ⟨0x3100, 0x40, 6, 0x0, 1, 0x2000, [⟨31, 1, .rwl⟩, ⟨29, 1, .rwl⟩, ⟨28, 1, .rwl⟩, ⟨13, 1, .rwl⟩, ⟨8, 5, .rwl⟩, ⟨5, 1, .rwl⟩, ⟨0, 5, .rwl⟩], false⟩,
  ⟨0x3104, 0x40, 6, 0x0, 1, 0x0, [⟨0, 1, .rwk⟩], false⟩,
  ⟨0x3108, 0x40, 6, 0x0, 1, 0x0, [⟨0, 18, .rw⟩], false⟩,
  ⟨0x310C, 0x40, 6, 0x0, 1, 0x7FFFFF, [⟨0, 24, .rw⟩], false⟩,
  ⟨0x3110, 0x40, 6, 0x0, 1, 0x0, [⟨0, 2, .wok⟩], false⟩,
  ⟨0x3130, 0x40, 6, 0x0, 1, 0x0, [], true⟩]

/-- The rows of the GD_ registers (07 R187). -/
def regRowsGd : List RegRow := [
  ⟨0x4000, 0x0, 1, 0x0, 1, 0x4, [⟨0, 3, .rwkl⟩], false⟩,
  ⟨0x4004, 0x0, 1, 0x0, 1, 0x0, [], true⟩,
  ⟨0x4008, 0x0, 1, 0x0, 1, 0xA3F1906, [⟨24, 8, .rwk⟩, ⟨16, 8, .rwk⟩, ⟨8, 8, .rwk⟩, ⟨0, 4, .rwk⟩], false⟩,
  ⟨0x400C, 0x0, 1, 0x0, 1, 0x2949B244, [⟨20, 10, .rwk⟩, ⟨10, 10, .rwk⟩, ⟨0, 10, .rwk⟩], false⟩,
  ⟨0x4010, 0x0, 1, 0x0, 1, 0xA01400, [⟨20, 10, .rwk⟩, ⟨10, 10, .rwk⟩], false⟩,
  ⟨0x4014, 0x0, 1, 0x0, 1, 0x0, [⟨31, 1, .rwk⟩, ⟨0, 18, .rwk⟩], false⟩,
  ⟨0x4018, 0x0, 1, 0x0, 1, 0x3E80004, [⟨16, 16, .rwk⟩, ⟨0, 4, .rwk⟩], false⟩,
  ⟨0x401C, 0x0, 1, 0x0, 1, 0x0, [⟨0, 16, .rwkl⟩], false⟩,
  ⟨0x4028, 0x0, 1, 0x0, 1, 0x0, [⟨1, 1, .wok⟩, ⟨0, 1, .wok⟩], false⟩,
  ⟨0x4040, 0x4, 6, 0x0, 1, 0xC8, [⟨0, 10, .rwk⟩], false⟩]

/-- The rows of the LN_ registers (08 R214). -/
def regRowsLn : List RegRow := [
  ⟨0x4800, 0x0, 1, 0x0, 1, 0x0, [⟨0, 18, .rwkl⟩], false⟩,
  ⟨0x4804, 0x0, 1, 0x0, 1, 0x140003E8, [⟨24, 8, .rwkl⟩, ⟨23, 1, .rwkl⟩, ⟨16, 3, .rwkl⟩, ⟨0, 16, .rwkl⟩], false⟩,
  ⟨0x4808, 0x0, 1, 0x0, 1, 0x7, [⟨0, 3, .rwkl⟩], false⟩,
  ⟨0x4810, 0x0, 1, 0x0, 1, 0x0, [], true⟩,
  ⟨0x4818, 0x0, 1, 0x0, 1, 0x0, [], true⟩,
  ⟨0x481C, 0x0, 1, 0x0, 1, 0x0, [⟨0, 2, .wok⟩], false⟩]

/-- The rows of the SF_ registers (09 R235, 13 R319). -/
def regRowsSf : List RegRow := [
  ⟨0x5000, 0x0, 1, 0x0, 1, 0x0, [⟨0, 2, .rwk⟩], false⟩,
  ⟨0x5004, 0x0, 1, 0x0, 1, 0x0, [], true⟩,
  ⟨0x5008, 0x0, 1, 0x0, 1, 0x0, [⟨0, 6, .wok⟩], false⟩,
  ⟨0x5040, 0x40, 6, 0x0, 1, 0x0, [⟨31, 1, .rwkl⟩, ⟨30, 1, .rwkl⟩, ⟨29, 1, .rwkl⟩, ⟨27, 2, .rwkl⟩, ⟨22, 2, .rwkl⟩, ⟨18, 4, .rwkl⟩, ⟨16, 2, .rwkl⟩, ⟨12, 4, .rwkl⟩, ⟨10, 2, .rwkl⟩, ⟨6, 4, .rwkl⟩], false⟩,
  ⟨0x5044, 0x40, 6, 0x4, 4, 0x7FFFFF, [⟨0, 24, .rwkl⟩], false⟩,
  ⟨0x5054, 0x40, 6, 0x0, 1, 0x3E8, [⟨0, 24, .rwkl⟩], false⟩,
  ⟨0x5058, 0x40, 6, 0x0, 1, 0x3E803E8, [⟨16, 16, .rwkl⟩, ⟨0, 16, .rwkl⟩], false⟩,
  ⟨0x505C, 0x40, 6, 0x0, 1, 0x80000000, [⟨0, 32, .rwkl⟩], false⟩,
  ⟨0x5060, 0x40, 6, 0x0, 1, 0x7FFFFFFF, [⟨0, 32, .rwkl⟩], false⟩,
  ⟨0x5064, 0x40, 6, 0x0, 1, 0x40000, [⟨16, 16, .rwkl⟩, ⟨0, 16, .rwkl⟩], false⟩,
  ⟨0x5068, 0x40, 6, 0x0, 1, 0x3E8, [⟨16, 16, .rwkl⟩, ⟨0, 16, .rwkl⟩], false⟩,
  ⟨0x5078, 0x40, 6, 0x0, 1, 0x0, [], true⟩,
  ⟨0x5400, 0x0, 1, 0x0, 1, 0xFFFF, [⟨12, 4, .rwkl⟩, ⟨8, 4, .rwkl⟩, ⟨4, 4, .rwkl⟩, ⟨0, 4, .rwkl⟩], false⟩,
  ⟨0x5404, 0x0, 1, 0x0, 1, 0x0, [], true⟩,
  ⟨0x5440, 0x20, 15, 0x0, 1, 0x0, [⟨0, 32, .rwkl⟩], false⟩,
  ⟨0x5444, 0x20, 15, 0x0, 1, 0x4030400, [⟨31, 1, .rwkl⟩, ⟨30, 1, .rwkl⟩, ⟨28, 2, .rwkl⟩, ⟨26, 2, .rwkl⟩, ⟨20, 6, .rwkl⟩, ⟨16, 4, .rwkl⟩, ⟨8, 8, .rwkl⟩], false⟩,
  ⟨0x5448, 0x20, 15, 0x0, 1, 0x7D00032, [⟨16, 16, .rwk⟩, ⟨0, 16, .rwk⟩], false⟩,
  ⟨0x544C, 0x20, 15, 0x0, 1, 0x4E20, [⟨0, 24, .rwk⟩], false⟩]

/-- The rows of the IG_ registers (10 R257). -/
def regRowsIg : List RegRow := [
  ⟨0x5800, 0x0, 1, 0x0, 1, 0x100040, [⟨16, 8, .rwk⟩, ⟨0, 10, .rwk⟩], false⟩,
  ⟨0x5804, 0x0, 1, 0x0, 1, 0x0, [], true⟩,
  ⟨0x5818, 0x0, 1, 0x0, 1, 0x0, [⟨24, 1, .rwk⟩], false⟩,
  ⟨0x5830, 0x0, 1, 0x0, 1, 0x0, [⟨0, 4, .wok⟩], false⟩,
  ⟨0x5834, 0x0, 1, 0x0, 1, 0x0, [⟨0, 32, .rwk⟩], false⟩]

/-- The rows of the TS_ registers (11 R279). -/
def regRowsTs : List RegRow := [
  ⟨0x6000, 0x0, 1, 0x0, 1, 0x4003E8, [⟨31, 1, .rwk⟩, ⟨16, 10, .rwk⟩, ⟨0, 16, .rwk⟩], false⟩,
  ⟨0x6004, 0x0, 1, 0x0, 1, 0x0, [], true⟩,
  ⟨0x601C, 0x0, 1, 0x0, 1, 0x0, [⟨0, 17, .wok⟩], false⟩,
  ⟨0x6020, 0x0, 1, 0x0, 1, 0x3E80000, [⟨16, 16, .rwk⟩, ⟨8, 8, .rwk⟩], false⟩]

/-- The rows of the SP_ registers (12 R305). -/
def regRowsSp : List RegRow := [
  ⟨0x6800, 0x400, 2, 0x0, 1, 0x0, [⟨31, 1, .rwl⟩, ⟨30, 1, .rwkl⟩, ⟨26, 4, .rwkl⟩, ⟨20, 6, .rwl⟩], false⟩,
  ⟨0x6804, 0x400, 2, 0x0, 1, 0x4A020844, [⟨28, 4, .rwl⟩, ⟨27, 1, .rwl⟩, ⟨20, 7, .rwl⟩, ⟨14, 6, .rwl⟩, ⟨9, 5, .rwl⟩, ⟨6, 3, .rwl⟩, ⟨0, 6, .rwl⟩], false⟩,
  ⟨0x6808, 0x400, 2, 0x0, 1, 0x2710, [⟨0, 18, .rw⟩], false⟩,
  ⟨0x680C, 0x400, 2, 0x0, 1, 0x0, [⟨0, 16, .rw⟩], false⟩,
  ⟨0x6810, 0x400, 2, 0x0, 1, 0x2710, [⟨0, 17, .rwl⟩], false⟩,
  ⟨0x6814, 0x400, 2, 0x0, 1, 0x0, [⟨6, 1, .rw⟩, ⟨4, 2, .rw⟩], false⟩,
  ⟨0x6818, 0x400, 2, 0x4, 2, 0x0, [⟨0, 32, .rwkl⟩], false⟩,
  ⟨0x6830, 0x400, 2, 0x0, 1, 0x0, [⟨8, 2, .rw⟩, ⟨0, 6, .rw⟩], false⟩,
  ⟨0x6834, 0x400, 2, 0x0, 1, 0x0, [⟨0, 32, .rw⟩], false⟩,
  ⟨0x6840, 0x400, 2, 0x0, 1, 0x0, [], true⟩]

/-- The rows of the HR_ registers (14 R346). -/
def regRowsHr : List RegRow := [
  ⟨0x7000, 0x0, 1, 0x0, 1, 0x0, [⟨0, 4, .rwk⟩], false⟩,
  ⟨0x7004, 0x0, 1, 0x0, 1, 0x0, [], true⟩,
  ⟨0x7008, 0x0, 1, 0x0, 1, 0x0, [⟨6, 26, .rwk⟩], false⟩,
  ⟨0x700C, 0x0, 1, 0x0, 1, 0x0, [⟨0, 32, .rwk⟩], false⟩,
  ⟨0x7010, 0x0, 1, 0x0, 1, 0x0, [⟨6, 26, .rwk⟩], false⟩,
  ⟨0x7014, 0x0, 1, 0x0, 1, 0x0, [⟨0, 32, .rwk⟩], false⟩,
  ⟨0x7018, 0x0, 1, 0x0, 1, 0x7D0144, [⟨16, 16, .rwk⟩, ⟨4, 10, .rwk⟩, ⟨0, 4, .rwk⟩], false⟩,
  ⟨0x701C, 0x0, 1, 0x0, 1, 0x0, [⟨0, 16, .rw⟩], false⟩,
  ⟨0x7040, 0x10, 4, 0x0, 1, 0x0, [⟨12, 20, .rwk⟩, ⟨0, 4, .rwk⟩], false⟩,
  ⟨0x7044, 0x10, 4, 0x0, 1, 0x0, [⟨0, 32, .rwk⟩], false⟩,
  ⟨0x7080, 0x0, 1, 0x0, 1, 0x0, [⟨2, 30, .rwk⟩], false⟩,
  ⟨0x7084, 0x0, 1, 0x0, 1, 0x0, [⟨0, 32, .rwk⟩], false⟩,
  ⟨0x7088, 0x0, 1, 0x0, 1, 0x0, [⟨0, 19, .rwk⟩], false⟩,
  ⟨0x708C, 0x0, 1, 0x0, 1, 0x0, [⟨0, 1, .wok⟩], false⟩]

/-- The rows of the PW_ registers (15 R373). -/
def regRowsPw : List RegRow := [
  ⟨0x7800, 0x0, 1, 0x0, 1, 0x0, [⟨0, 2, .rwk⟩], false⟩,
  ⟨0x7804, 0x0, 1, 0x0, 1, 0x0, [⟨1, 1, .wok⟩, ⟨0, 1, .wok⟩], false⟩,
  ⟨0x7808, 0x0, 1, 0x0, 1, 0x0, [⟨0, 1, .wok⟩], false⟩,
  ⟨0x7810, 0x0, 1, 0x0, 1, 0x0, [], true⟩,
  ⟨0x7814, 0x0, 1, 0x0, 1, 0x4B003C, [⟨16, 10, .rwk⟩, ⟨0, 10, .rwkl⟩], false⟩,
  ⟨0x7818, 0x0, 1, 0x0, 1, 0xA00FA, [⟨31, 1, .rwk⟩, ⟨16, 8, .rwk⟩, ⟨0, 16, .rwkl⟩], false⟩,
  ⟨0x781C, 0x0, 1, 0x0, 1, 0x80080000, [⟨31, 1, .rwk⟩, ⟨30, 1, .rwk⟩, ⟨29, 1, .rwk⟩, ⟨28, 1, .rwk⟩, ⟨16, 8, .rwk⟩, ⟨0, 16, .rwk⟩], false⟩]

/-- The rows of the SYS_ registers (16 R389). -/
def regRowsSys : List RegRow := [
  ⟨0x20, 0x0, 1, 0x0, 1, 0x0, [⟨0, 32, .rw⟩], false⟩,
  ⟨0x400, 0x0, 1, 0x0, 1, 0x0, [⟨0, 32, .wo⟩], false⟩,
  ⟨0x800, 0x0, 1, 0x0, 1, 0x0, [], true⟩]

/-- The MSI-X table of 14 R346: three RW words and a mask word per vector, the mask set at reset. -/
def regRowsMsix : List RegRow := [
  ⟨0x7400, 0x10, 16, 4, 3, 0x0, [⟨0, 32, .rw⟩], false⟩,
  ⟨0x740C, 0x10, 16, 0x0, 1, 0x1, [⟨0, 1, .rw⟩], false⟩]

/-- The rows of the block an offset lies in (01 R38 Table 1.12). -/
def blockRows (off : Nat) : List RegRow :=
  if off < 0x1000 then regRowsSys
  else if off < 0x1800 then regRowsTl
  else if off < 0x2000 then regRowsFb
  else if off < 0x2800 then regRowsCv
  else if off < 0x3000 then regRowsCm
  else if off < 0x4000 then regRowsLe
  else if off < 0x4800 then regRowsGd
  else if off < 0x5000 then regRowsLn
  else if off < 0x5800 then regRowsSf
  else if off < 0x6000 then regRowsIg
  else if off < 0x6800 then regRowsTs
  else if off < 0x7000 then regRowsSp
  else if off < 0x7400 then regRowsHr
  else if off < 0x7800 then regRowsMsix
  else regRowsPw

/-- Whether `off` is a register of the row. -/
def RegRow.covers (r : RegRow) (off : Nat) : Bool :=
  (List.range r.count).any fun i => (List.range r.count2).any fun j =>
    off == r.base + r.stride * i + r.stride2 * j

/-- The row of an offset, or none where no writable field and no flag stands there (00 R15). -/
def regRow? (off : Nat) : Option RegRow := (blockRows off).find? fun r => r.covers off

/-- The reset value of the stored fields at an offset (the Reset columns); zero where nothing is stored. -/
def regReset (off : Nat) : Word :=
  match regRow? off with
  | none => 0
  | some r =>
    -- SF_CAPn_3, the LIMP cap, resets to zero (09 Table 9.11); no other row has two reset values
    if r.base = 0x5044 ∧ (off - 0x5044) % 0x40 = 0xC then 0 else r.reset

/-- Whether the register at an offset is a status register (16 R380) or LN_REPLACE. -/
def isStatusReg (off : Nat) : Bool :=
  match regRow? off with
  | none => false
  | some r => r.status

end Sys2Proof.Machine
end

