-- ==== Sys2Proof/Machine/Init.lean ====
section
/-! DEFINITION. What each unit of a lane holds after lane reset: the reset columns and reset tables of the chapters. -/

namespace Sys2Proof.Machine

/-- SEQ 0, no flag, both tokens STALE (16 R380, R381). -/
def initStatus : StatusReg :=
  { seq := 0, flags := 0, hostTok := none, intTok := none, cyc := none, fresh := 0, hostWas := none, intWas := none }

/-- Keys disarmed, nothing refused (16 R384, Tables 16.11 to 16.14). -/
def initSys : Sys :=
  { keyHost := false, keyInt := false, badKeys := 0, clkHiHost := 0, clkHiInt := 0, refReason := 0,
    refInternal := false, refOff := 0, refused := 0, stale := 0, lastRead := none }

/-- An unsynchronised timebase (02 R43). -/
def initPt : Pt :=
  { valid := false, held := false, angle := 0, rev := 0, rate := 0, run := 0, acc := 0, snapAt := 0, snapPos := 0 }

/-- An event entry after reset (02 R52): all words zero, so not armed. -/
def initEntry : Entry :=
  { w0 := 0, w1 := 0, w2 := 0, w3 := 0, w4 := 0, w5 := 0, done := false, commitAt := 0, spent := [], pred := none,
    dirtyAt := none, fromNow := false, missed := [], edge := none, edgeErr := none, sent := none, deferred := false }

/-- The timeline after lane reset (02 R46, Tables 2.7 to 2.26). -/
def initTimeline : Timeline :=
  { pt := .replicate 8 initPt, entries := [], due := [], portAt := .replicate 4 none, passed := 0, deferred := 0,
    perrMax := 0, perrEntry := 0, wclk := 0, slew := 0, slewEnd := 0, added := 0, latchHi := 0, latchNs := 0,
    phaseValid := false, secValid := false, slewing := false, stepArmed := false, refusal := false, pendStep := 0,
    ppsErr := 0, prevRef := none, ppsLast := none, ppsMissed := false, capS := .replicate 6 0,
    capL := .replicate 6 0 }

/-- The counter after reset (03 Table 3.6). -/
def initCounter : Counter :=
  { raw := 0, pos := 0, rev := false, pending := false, deTotal := 0, winDe := 0, winTravel := 0, idxPos := 0,
    arm := .disarmed, armWas := none, idxValWas := none, idxHeld := false }

/-- The toothed wheel after reset (03 Table 3.6). -/
def initTooth : Tooth :=
  { tLast := none, iv := 0, ivs := 0, thresh := none, owed := none, teeth := 0, teethLast := 0, sync := false,
    misRun := 0, mmTotal := 0, rev := false, extra := false }

/-- The Hall decoder after reset (03 Table 3.6): HALLIDX 7. -/
def initHall : Hall :=
  { idx := 7, seen := 7, rev := false, pending := false, hasDir := false, events := [], invalidAt := none }

/-- The SENT receiver after a restart at cycle `t` (03 Table 3.6). -/
def initSent (t : Nat) : Sent :=
  { angle := 0, aux := 0, status := 0, serC := false, serNew := false, serId := 0, serData := 0, errSer := 0,
    errCrc := 0, errTick := 0, errNib := 0, prevSync := none, accRun := 0, valid := false, lastAt := t, lost := false,
    rev := none, serial := [] }

/-- The estimator after reset (03 Table 3.6): STANDSTILL. -/
def initEst : Estimator :=
  { state := .standstill, speed := 0, tPrev := 0, deFirst := false, winMode := false, tRef := 0, tLast := 0, n := 0,
    rev := false, lastUpd := 0, winEnd := none }

/-- The cross-checks after reset (03 Table 3.6): XOFF and SOFF unset. -/
def initXchk : CrossCheck := { xoff := none, soff := none, hdiff := 0, sdiff := 0, hRun := 0, sRun := 0 }

/-- A feedback unit that starts at cycle `t` (03 R86, Table 3.6). -/
def initUnit (t : Nat) : Unit :=
  { cnt := initCounter, tooth := initTooth, hall := initHall, sent := initSent t, est := initEst, xchk := initXchk,
    cntFault := false, hallFault := false, sentFault := false }

/-- The factory coefficients of slice s of converter m, or the nominal ones where the factory record fails (04 R103). -/
def initCoef (factoryOk : Bool) (m s : Nat) : Coef :=
  if factoryOk then
    { off := (Config.factoryOff (5 * m + s)).toInt, gain := (Config.factoryGain (5 * m + s)).toNat,
      skew := (Config.factorySkew (5 * m + s)).toInt }
  else { off := 0, gain := 0x8000, skew := 0 }

/-- A converter that starts at cycle `t` (04 Table 4.13, R103): slices 0 to 3 in the positions, slice 4 the spare. -/
def initConverter (factoryOk : Bool) (t m : Nat) : Converter :=
  { slice := .ofFn fun s => { usable := true, coef := initCoef factoryOk m s.val, next := none, turns := 0 },
    pos := .ofFn fun p => some p.val, spare := some 4, trained := false, turnPos := 0, turnAt := t, eff := 1000, swapOwed := false,
    lastPos := 3, insvcAt := t, insvcDone := 0 }

/-- The conversion block at cycle `t` (04 R103, Tables 4.6 to 4.16). -/
def initConversion (factoryOk : Bool) (t : Nat) : Conversion :=
  { cv := .ofFn fun m => initConverter factoryOk t m.val, flights := [], reqs := [], run := none, monEntry := 0,
    monDesc := 0, rounds := 0, suspended := false, monAt := none, resumeAt := 0, res := [], resAt := [], trigLost := 0,
    overrun := 0, jitMax := 0, jitSeq := 0, eff := 1000 }

/-- Back-EMF tracking after reset (05 R124). -/
def initBemf : Bemf := { prev := none, lastB := 0, tzc := none, tzz := 0, good := 0, miss := 0 }

/-- A commutator channel after reset (05 Tables 5.12 to 5.14): IDLE, sector unknown. -/
def initCm : CmAxis :=
  { drive := false, locked := false, fallback := false, limited := false, limKind := 0, rs := none, ds := none,
    reason := 0, pm := .replicate 3 0, pmSeen := .replicate 3 0, pmMax := .replicate 3 0, pmOver := .replicate 3 false,
    revs := [], ref := 0, bspd := 0,
    deferred := 0, late := 0, resync := 0, duty := 0, fresh := false, periods := [], bounds := [], differed := none,
    starts := [], stopAt := none, sectLost := false, lostAt := 0, startSeen := none, stopSeen := none, relit := [], bemf := initBemf }

/-- The stage states after reset (06 Table 6.5): zero, every exponent −32. -/
def initStages : Stages :=
  { i := 0, io := 0, notch := .replicate 4 0, e := .replicate 8 (-32), satDir := 0, osatDir := 0, dprev := 0, duty := 0,
    curLim := false }

/-- A loop engine after reset (06 Table 6.5). -/
def initLoopAxis : LoopAxis :=
  { tgt := 0, psp := 0, tgtStamp := none, pspStamp := none, pspSeen := false, heldTgt := none, heldPsp := none,
    st := initStages, usedTgt := 0, usedPsp := 0, bank := 0, zero := false, waiting := false, ramping := false,
    spared := none, rest := false, passAt := none, flight := none, last := none, passes := 0, emptyTold := false, skipped := 0, ovf := 0, satPass := 0 }

/-- The loop engines after reset: every bank EMPTY (06 R149, Table 6.5). -/
def initLoops : Loops := { axis := .replicate 6 initLoopAxis, banks := [], empty := 0xFFF }

/-- The safety functions of an axis after reset (09 R219, R228, Table 9.15). -/
def initSafeAxis : SafeAxis :=
  { clampBy := 0, blockPos := false, blockNeg := false, ramp := false, rampRt := 1, safe := false, stopped := false,
    brk := 0, pend := none, told := 0, recBy := 0, cnt := .replicate 3 0, stopCnt := 0, viol := 0, inLost := false, m := none, e := 0, pref := none,
    spdLast := 0, evalAt := none, tRel := none, relAt := none, tA := none, taAt := none, rampK := 0, rampLow := false, rampAt := 0, bper := 0, bramp := 0,
    forQuench := false, resume := false, awaitDrive := false }

/-- The safety-function engine after reset (09 Tables 9.6 to 9.9). -/
def initSafety : SafetyEngine := { axis := .replicate 6 initSafeAxis, prof := 0, limp := false, evals := 0, kats := 0, maxCyc := 0 }

/-- The Runner port after reset (07 R160): an ALIGN word is owed in the first block. -/
def initPort : Port :=
  { c1 := [], c2 := [], c3 := [], c4 := [], alignOwed := true, sinceAlign := 0, blockAt := none, part := [],
    lastBlock := [],
    lastReturn := none, gdLost := false, failed := [], cfgBad := 0, levels := 0, levelsSeen := false, vdrvLow := none,
    vdrvSeen := false, vdrvRaised := false, late := 0, runLost := 0, qfull := 0, dtLocked := false, chopAt := none, chopRes := none }

/-- A switch after reset (07 Table 7.10). -/
def initSwitch : Switch :=
  { shadow := false, out := false, offAt := none, onAt := none, dsBlank := 0, ocBlank := 0, waiting := false, bootUv := false, bootWords := 0,
    bootAt := 0, hold := none, pf := 0, pfAt := 0, latched := false }

/-- The reset value of shadow word INDEX of the gate-drive die (07 R184, Table 7.10). -/
def cfgReset (i : Nat) : Word := regReset (0x4000 + 4 * i)

/-- The gate-drive die after lane reset (07 Table 7.10). VDRV_x is not good until VDRV_RECOVER (15 Table 15.4). -/
def initDie (vdrvUv : Bool) : Die :=
  { aligned := false, off := 0, hbAt := none, hbLost := false, lossSafe := false, queue := [],
    sw := .replicate 36 initSwitch, chopShadow := false, chopOut := false, brlShadow := .replicate 6 false,
    brlOut := .replicate 6 false, token := false, isolated := false, safe := 0, vdrvUv := vdrvUv, vdrvAt := none,
    ov1 := false, genLimit := false, ov3 := false, ov3At := 0, chopFault := false, chopTest := none, cfg := [],
    half := none, events := [], crcDue := false, ovfEvt := false, blocks := 0, blockAt := none, lastBlock := [] }

/-- A peer not yet heard (08 Table 8.25). -/
def initPeer : Peer :=
  { role := 0, health := 0, heard := 0, cond := 0, lower := (0, 3), holder := 3, paths := 0, item := 0, axcfg := 0,
    line := .silent, bad := 0, lastAt := none, beatAt := none, readySince := none, backSince := none, lost := false, judged := false,
    silent := false, asked := 0 }

/-- Role, health and token after lane reset (08 Table 8.19): OFFLINE, HEALTHY, COND QUENCH, no holder. -/
def initLaneCtl : LaneCtl :=
  { role := .offline, impaired := 0, failed := false, line := .idle, code := 0, cls := 0, detail := 0, item := 0,
    level := 0, item1 := 0, item2 := 0, trigAt := none, cond := 3, holder := 3, claimAt := 0, releaseAt := none, quietAt := none,
    forHandover := false, silentWin := false, holdSince := 0, tr := none, resent := 0, held := false, handover := none,
    deferred := none, retryAt := 0, splitAt := none, silentHold := false, silentOf := 3, peer := .replicate 2 initPeer, tkoMax := 0, tkoLast := 0,
    takeovers := 0, yields := 0, cancelled := 0, views := 0, hbSeq := 0, hbAt := none, agreed := false,
    pathLost := 0, charged := 0, limpMir := false, pathAt := .replicate 3 none, alive := 0, mirSeq := .replicate 8 none, mirMiss := .replicate 8 0,
    seqOut := .replicate 16 0, keptAxis := .replicate 6 none, keptLane := none, keptEnv := [], axisRec := .replicate 6 none,
    axisGot := 0, laneGot := false, promoting := none, axisPass := .replicate 6 0, laneCount := 0, laneRecAt := none,
    viewAt := none, quenched := false, leaveOwed := false, sent := [] }

/-- An empty capture (10 Table 10.15). -/
def initCapture : Capture := { valid := false, kind := 0, inj := false, park := false, syn := 0, src := 0, addr := 0 }

/-- Memory, lock-step and debug access after reset (10 Tables 10.9 to 10.19). The strap LSMODE_x gives MODE. -/
def initIntegrity (mirror : Bool) : Integrity :=
  { mem := [], codes := [], ceShm := 0, ceRom := 0, ceChill := 0, ceAddr := 0, ceSyn := 0, ceSrc := 0, ceInj := false,
    ceHard := false, ceMem := 0, cap := initCapture, scrubLine := 0, passes := 0, ceNow := [], cePrev := [], scrubAt := 0,
    parkAt := 0, parkLine := 0, parkFault := none, mirror := mirror, compareOff := false, selfAt := none, passed := 0, last := 0,
    parOff := 0xFFFF, regCount := 0, regSrc := 0, regOff := 0, unlocked := 0, unlockedCopy := false, tap := .idcode,
    attachWait := none, granted := false, waiting := false, pads := false, wantPads := false, ir := 0, inj := none, checks := [],
    verify := [], wback := [], delivered := none }

/-- A test that has not run (11 Table 11.21). -/
def initTest : TestRes := { result := 0, cell := 0, dur := 0 }

/-- Temper and Shakeout of a new part after reset (11 Tables 11.9 to 11.23; log 16): nothing burned in OTP. -/
def initTemper : Temper :=
  { tests := .replicate 17 initTest, startAt := none, done := false, unusable := 0, failMask := 0, fails := [], reqs := [],
    running := none, factoryOk := true, level := 0, lSlack := 0, lDref := 0, lCmp := 0, lSink := 0, lXo := 0, lMem := 0,
    critq := 0, steps := 0, meas := 0, vcRun := .replicate 4 0, sinceStep := none, tintAt := 0, tints := 0, smin := 0,
    sidx := 0, slack := .replicate 48 0, dref := .replicate 4 0, drefAcc := .replicate 4 (0, 0), trim := .replicate 5 0,
    errs := [], sink := .replicate 37 0, xo := 0, xoAcc := (0, 0), xoDone := false, opens := .replicate 4 0, gcell := 0, gcellAt := 0,
    gcellInt := 250000, chopTest := none, tj := 0, vdrv := 0, measured := 0, cell := none, chopAt := 0, storms := 0, hards := 0, pausedAt := none, progress := 0, coreSlot := .replicate 2 0,
    birth := none, clockSlot := .replicate 2 0, xoBirth := none, burns := [] }

/-- A Sprue port after reset (12 Tables 12.11 to 12.20): bus monitoring, mode 0. -/
def initBus : SprueBus :=
  { master := false, ending := false, yieldEnd := false, idleAt := none, idleLen := 0, first := false, erred := false, loaded := 0,
    bad := 0, ready := false, running := false, slot := 0,
    slotAt := 0, cycle := 0, target := none, answered := false, poll := none, lostArb := false, mode := 0, announced := false,
    pend := 0, rewritten := false, acked := 0, nak := false, ack := 0, seenNow := 0, seen := 0, held := 0, heard := none,
    heardCycle := none, heardAt := none, mrank := 0, sof := none, ownCap := none, cap := none, err := 0, tec := 0,
    rec_ := 0, busOff := 0, tdcv := 0, badPolls := 0, clash := false, resp := none, echo := [], echoRun := 0,
    echoLost := false, missing := 0, late := 0, yields := 0, foreign := 0, badRec := 0, echoCnt := 0, sent := [] }

/-- The Sprue ports after reset: no slot entry is loaded (12 R287; log 9). -/
def initSprue : Sprue := { bus := .replicate 2 initBus, sched := [] }

/-- A connection after reset (13 R314). -/
def initConn : Conn :=
  { sync := false, fault := false, wdAt := none, consec := 0, last := 0, next := 0, begun := false, timeWas := [], expired := false,
    nCheck := 0, nFormat := 0, nRepeat := 0, nOld := 0, nJump := 0, nAge := 0, nFuture := 0, nNotime := 0, nWdog := 0,
    restarts := 0, lost := 0 }

/-- The envelope block after reset (13 R314). -/
def initEnvelopes : Envelopes :=
  { conn := .replicate 15 initConn, lastConn := 0, lastKind := 0, lastSeq := 0, without := 0, caused := 0 }

/-- A ring after reset (14 Table 14.18). -/
def initRing : Ring := { dev := 0, host := 0, drops := 0 }

/-- No image load (14 Table 14.19). -/
def initImg : ImageLoad := { state := 0, reason := 0, fetched := 0, issued := 0, checked := [] }

/-- Rings and endpoint after lane reset, the link down (14 R322). -/
def initRings : Rings :=
  { ring := .replicate 4 initRing, dlActive := false, mse := false, bme := false, msixEn := false, d3hot := false, mrrs := 512,
    svc := none, lastCmdSvc := none, lastFour := [], reserved := 0, staged := [], evtQueue := [], evtDropped := 0,
    uncovered := none, indexNews := 0, ixCount := 0, sent := [], pendOps := [], recorded := [], dbBad := 0, rdFail := 0,
    dbBusy := 0, dbGap := 0, services := 0, longest := 0, img := initImg, msixPend := 0, msixLast := .replicate 16 none,
    msixLate := 0, laneRecs := 0, viewFlag := 0 }

/-- Supplies and power state of a lane that leaves reset at cycle `t` with the kind of start `kind` (15 R353, R352). -/
def initPower (kind t : Nat) (padLatch : Bool) : Power :=
  { state := .setup, start := kind, padLatch := padLatch, restored := false, vlow := false, vdrvOn := true,
    bootAt := some t, resetAt := none, vinLow := false, entry := none, wakeWaits := false, waking := false,
    wokeAt := none, wakeCause := 0, imgId := 0, errCause := 0, errSection := 0, errByte := 0, runAt := none,
    saved := none, clockLoss := false }

/-- The configuration header of a lane (14 R321). -/
def initHead (id : LaneId) : ConfigHeader :=
  { vendor := 0x1D9C, device := 0x3C60, classCode := 0x118000, subsystem := BitVec.ofNat 16 id.num,
    revision := Config.stepping, intPin := 0 }

end Sys2Proof.Machine
end

