-- ==== Sys2Proof/Machine/Lane.lean ====
section
/-! DEFINITION. One lane as plain data (01 R16 to R20), and the lane after each kind of start. -/

namespace Sys2Proof.Machine

/-- One lane: everything the spec gives it. Cycles are CLK cycles counted since the lane was first powered. -/
structure Lane where
  /-- Which lane this is. 01 R16, reset its own letter. -/
  id : LaneId
  /-- The present CLK cycle. 01 R24, reset 0. -/
  now : Nat
  /-- The cycle of the last reset release: SYS_CLK counts from it. 64 bits, 16 Table 16.8, reset 0. -/
  relAt : Nat
  /-- MODEL'S OWN: how many free values the lane has taken (log 4). Reset 0, DESIGN CHOICE. -/
  free : Nat
  /-- The RW, RWK and RWL fields by BAR0 offset, where they differ from their reset values. 16 R377. -/
  regs : Table Word
  /-- The status registers by BAR0 offset, where they differ from their reset state. 16 R380. -/
  status : Table StatusReg
  /-- Keys, refusals and latches. 16. -/
  sys : Sys
  /-- Timeline, timebases and WCLK. 02. -/
  tl : Timeline
  /-- The feedback units FU0–FU7. 03 R64. -/
  fb : Vector Unit 8
  /-- The conversion block. 04. -/
  cv : Conversion
  /-- The commutator channels. 05. -/
  cm : Vector CmAxis 6
  /-- The loop engines. 06. -/
  le : Loops
  /-- The safety-function engine. 09. -/
  sf : SafetyEngine
  /-- The Runner port. 07. -/
  port : Port
  /-- The gate-drive die. 07. -/
  die : Die
  /-- Role, health, token and mirror. 08. -/
  ln : LaneCtl
  /-- Memory, lock-step, parity and debug access. 10. -/
  ig : Integrity
  /-- Temper and Shakeout. 11. -/
  ts : Temper
  /-- The Sprue ports. 12. -/
  sp : Sprue
  /-- The envelope block. 13. -/
  env : Envelopes
  /-- Host rings and endpoint. 14. -/
  hr : Rings
  /-- The endpoint's configuration header. 14 R321. -/
  head : ConfigHeader
  /-- Supplies and power state. 15. -/
  pw : Power
  deriving DecidableEq, Repr

end Sys2Proof.Machine
end

