-- ==== Sys2Proof/Machine/Store.lean ====
section
/-! DEFINITION. Sparse tables and small arithmetic: the reads and writes every other file uses. -/

namespace Sys2Proof.Machine

/-- What key `k` holds: the default `d k` where the table lists nothing. -/
def fget {V : Type} (d : Nat → V) : Table V → Nat → V
  | [], k => d k
  | (k', v) :: t, k => if k = k' then v else if k < k' then d k else fget d t k

/-- The table with `v` at `k`: keys rising, and no entry equal to its default. -/
def fset {V : Type} [DecidableEq V] (d : Nat → V) : Table V → Nat → V → Table V
  | [], k, v => if v = d k then [] else [(k, v)]
  | (k', v') :: t, k, v =>
    if k < k' then (if v = d k then (k', v') :: t else (k, v) :: (k', v') :: t)
    else if k = k' then (if v = d k then t else (k, v) :: t)
    else (k', v') :: fset d t k v

/-- The canonical form: keys strictly rising above `lo`, no entry equal to its default. -/
def fwfFrom {V : Type} [DecidableEq V] (d : Nat → V) : Nat → Table V → Bool
  | _, [] => true
  | lo, (k, v) :: t => decide (lo ≤ k) && !decide (v = d k) && fwfFrom d (k + 1) t

/-- The canonical form of a whole table. -/
def fwf {V : Type} [DecidableEq V] (d : Nat → V) (t : Table V) : Bool := fwfFrom d 0 t

/-- A counter that saturates at `top` (16 R379). -/
def satAdd (top n k : Nat) : Nat := min top (n + k)

/-- `n` held between two limits, where a field's table says that values outside act as the nearer limit. -/
def between (lo hi n : Nat) : Nat := max lo (min hi n)

/-- `a / b` rounded to the nearest integer, ties away from zero (log 8); `b = 0` gives 0. -/
def rdiv (a : Int) (b : Nat) : Int :=
  if a < 0 then - (((2 * a.natAbs + b) / (2 * b) : Nat) : Int) else (((2 * a.natAbs + b) / (2 * b) : Nat) : Int)

/-- `v` held between −m and m. -/
def clampAbs (m : Nat) (v : Int) : Int := if v < -(m : Int) then -(m : Int) else if v > (m : Int) then (m : Int) else v

/-- −1, 0 or 1. -/
def sgn (v : Int) : Int := if v < 0 then -1 else if v = 0 then 0 else 1

/-- A list with the element at `i` replaced; unchanged where there is none. -/
def listSet {V : Type} : List V → Nat → V → List V
  | [], _, _ => []
  | _ :: t, 0, v => v :: t
  | x :: t, i + 1, v => x :: listSet t i v

/-- Element `i` of a vector, or `d` where `i` lies beyond it. -/
def vget {V : Type} {n : Nat} (v : Vector V n) (i : Nat) (d : V) : V := if h : i < n then v[i] else d

/-- A vector with `f` applied to element `i`; unchanged where `i` lies beyond it. -/
def vmod {V : Type} {n : Nat} (v : Vector V n) (i : Nat) (f : V → V) : Vector V n :=
  if h : i < n then v.set i (f v[i]) else v

/-- A word with the `width` bits from `lo` replaced. -/
def setField (w : Word) (lo width v : Nat) : Word :=
  let mask := BitVec.ofNat 32 ((2 ^ width - 1) * 2 ^ lo)
  (w &&& ~~~mask) ||| (BitVec.ofNat 32 ((v % 2 ^ width) * 2 ^ lo))

/-- 0 or 1. -/
def b2n (b : Bool) : Nat := if b then 1 else 0

/-- Cycles of CLK in `n` µs: 250 per µs (00 R10, 08 R202). -/
def us (n : Nat) : Nat := 250 * n

/-- Cycles of CLK in `n` ms. -/
def ms (n : Nat) : Nat := 250000 * n

/-- Whether at least `n` cycles lie between `t` and `now`. -/
def elapsed (now t n : Nat) : Bool := t + n ≤ now

end Sys2Proof.Machine
end

