-- ==== Sys2Proof/Machine/Operands.lean ====
section
/-! DEFINITION. What an operand means: registers and their fields, axis classes and parameters, health, role and the
other values that the rules read in more than one chapter. -/

namespace Sys2Proof.Machine

/-- The stored fields of the register at a BAR0 offset (16 R376). -/
def Lane.reg (l : Lane) (off : Nat) : Word := fget regReset l.regs off

/-- The lane with another register value stored. -/
def Lane.setReg (l : Lane) (off : Nat) (w : Word) : Lane := { l with regs := fset regReset l.regs off w }

/-- A hardware update `f` in a cycle that began with the lane `was`: of the registers named, one that a write of the same cycle has
changed keeps what the write gave it (16 R375). -/
def Lane.hwUpdate (l was : Lane) (offs : List Nat) (f : Lane → Lane) : Lane :=
  let m := f l
  (offs.filter fun o => l.reg o != was.reg o && m.reg o != l.reg o).foldl (fun m o => m.setReg o (l.reg o)) m

/-- A field of a register (00 R10). -/
def Lane.fld (l : Lane) (off lo width : Nat) : Nat := field (l.reg off) lo width

/-- One bit of a register (00 R10). -/
def Lane.rbit (l : Lane) (off i : Nat) : Bool := bit (l.reg off) i

/-- The lane with one field of a register stored. -/
def Lane.setFld (l : Lane) (off lo width v : Nat) : Lane := l.setReg off (setField (l.reg off) lo width v)

/-- A register as a signed number. -/
def Lane.sreg (l : Lane) (off : Nat) : Int := (l.reg off).toInt

/-- The status register at an offset (16 R380). -/
def Lane.stat (l : Lane) (off : Nat) : StatusReg := fget (fun _ => initStatus) l.status off

/-- The lane with a status register changed. -/
def Lane.setStat (l : Lane) (off : Nat) (r : StatusReg) : Lane :=
  { l with status := fset (fun _ => initStatus) l.status off r }

/-- The next free value, as a number (log 4). -/
def Lane.freeVal (l : Lane) : Nat := Config.freeNat l.free

/-- The lane after it has taken a free value (log 4). -/
def Lane.took (l : Lane) : Lane := { l with free := l.free + 1 }

/-- A word with fields placed: (value, lowest bit) for each; every value fits its field. -/
def pack (fs : List (Nat × Nat)) : Word := BitVec.ofNat 32 (fs.foldl (fun a f => a + f.1 * 2 ^ f.2) 0)

/-- The low `w` bits of a signed number in two's complement (06 R136). -/
def twos (w : Nat) (v : Int) : Nat := (v % (2 ^ w : Nat)).toNat

/-- A signed number as a 32-bit register value. -/
def sword (v : Int) : Word := BitVec.ofInt 32 v

/-- A mask as the list of its members below `n`. -/
def members (mask n : Nat) : List Nat := (List.range n).filter fun i => mask.testBit i

/-- A mask from a predicate on the numbers below `n`. -/
def maskOf (n : Nat) (p : Nat → Bool) : Nat := ((List.range n).map fun i => if p i then 2 ^ i else 0).sum

/-- `f` applied for each number of a list, in order. -/
def Lane.each (l : Lane) (is : List Nat) (f : Lane → Nat → Lane) : Lane := is.foldl f l

/-- The class of axis n: 0 disabled, 1 STEER, 2 BRAKE, 3 AUX; other codes act as disabled (08 Table 8.16, 01 R30). -/
def Lane.cls (l : Lane) (n : Nat) : Nat :=
  let c := l.fld Reg.LN_AXCFG (3 * n) 3
  if n < 6 ∧ c < 4 then c else 0

/-- Axis n is enabled (01 R30). -/
def Lane.enabled (l : Lane) (n : Nat) : Bool := l.cls n != 0

/-- The enabled axes in order. -/
def Lane.axes (l : Lane) : List Nat := (List.range 6).filter l.enabled

/-- PER of axis n in cycles (05 Table 5.5). -/
def Lane.per (l : Lane) (n : Nat) : Nat := l.fld (Reg.CM_CFG n) 0 15

/-- The sector source SECT of axis n (05 R117). -/
def Lane.sect (l : Lane) (n : Nat) : Nat := l.fld (Reg.CM_CFG n) 30 2

/-- The axis cannot start as configured: a source its class does not allow, code 0b11, or PER out of range (05 R117). -/
def Lane.cfgBad (l : Lane) (n : Nat) : Bool :=
  l.sect n == 3 || (l.sect n != 0 && l.cls n != 3) || l.per n < 5000 || l.per n > 31250

/-- TAXIS; a disabled axis, or code 6 or 7, acts as the lowest enabled axis (08 Table 8.17). -/
def Lane.taxis (l : Lane) : Nat :=
  let t := l.fld Reg.LN_CFG 16 3
  if t < 6 ∧ l.enabled t then t else l.axes.headD 0

/-- HBTO in cycles (08 Table 8.17). -/
def Lane.hbto (l : Lane) : Nat := us (between 5 100 (l.fld Reg.LN_CFG 24 8))

/-- A commutator channel. -/
def Lane.axis (l : Lane) (n : Nat) : CmAxis := vget l.cm n initCm

/-- The lane with a commutator channel changed. -/
def Lane.modAxis (l : Lane) (n : Nat) (f : CmAxis → CmAxis) : Lane := { l with cm := vmod l.cm n f }

/-- A loop engine. -/
def Lane.loopOf (l : Lane) (n : Nat) : LoopAxis := vget l.le.axis n initLoopAxis

/-- The lane with a loop engine changed. -/
def Lane.modLoop (l : Lane) (n : Nat) (f : LoopAxis → LoopAxis) : Lane :=
  { l with le := { l.le with axis := vmod l.le.axis n f } }

/-- The safety functions of an axis. -/
def Lane.safetyOf (l : Lane) (n : Nat) : SafeAxis := vget l.sf.axis n initSafeAxis

/-- The lane with the safety functions of an axis changed. -/
def Lane.modSafety (l : Lane) (n : Nat) (f : SafeAxis → SafeAxis) : Lane :=
  { l with sf := { l.sf with axis := vmod l.sf.axis n f } }

/-- A feedback unit. -/
def Lane.unit (l : Lane) (n : Nat) : Unit := vget l.fb n (initUnit 0)

/-- The lane with a feedback unit changed. -/
def Lane.modUnit (l : Lane) (n : Nat) (f : Unit → Unit) : Lane := { l with fb := vmod l.fb n f }

/-- A Pattern timebase. -/
def Lane.ptOf (l : Lane) (n : Nat) : Pt := vget l.tl.pt n initPt

/-- A peer record: 0 the lower-lettered, 1 the higher (08 Table 8.25). -/
def Lane.peerOf (l : Lane) (k : Nat) : Peer := vget l.ln.peer k initPeer

/-- The lane with a peer record changed. -/
def Lane.modPeer (l : Lane) (k : Nat) (f : Peer → Peer) : Lane :=
  { l with ln := { l.ln with peer := vmod l.ln.peer k f } }

/-- The lane number of peer k (08 Table 8.25). -/
def peerLane (i : LaneId) (k : Nat) : Nat :=
  match i, k with
  | .a, 0 => 1
  | .a, _ => 2
  | .b, 0 => 0
  | .b, _ => 2
  | .c, 0 => 0
  | .c, _ => 1

/-- The peer index of lane number x; none for the lane itself. -/
def peerIx (i : LaneId) (x : Nat) : Option Nat :=
  if x = peerLane i 0 then some 0 else if x = peerLane i 1 then some 1 else none

/-- The frames of peer k have been verified within HBTO (08 R190). -/
def Lane.heardPeer (l : Lane) (k : Nat) : Bool :=
  match (l.peerOf k).lastAt with
  | none => false
  | some t => decide (l.now < t + l.hbto)

/-- A heartbeat of peer k has been verified within HBTO (08 R190). -/
def Lane.beatPeer (l : Lane) (k : Nat) : Bool :=
  match (l.peerOf k).beatAt with
  | none => false
  | some t => decide (l.now < t + l.hbto)

/-- The lane numbers heard within HBTO, as a mask (08 Table 8.19); a heartbeat adds the lane's own bit (08 Table 8.6). -/
def Lane.heardMask (l : Lane) : Nat :=
  (if l.heardPeer 0 then 2 ^ peerLane l.id 0 else 0) + (if l.heardPeer 1 then 2 ^ peerLane l.id 1 else 0)

/-- ROLE as coded in LN_ROLE (08 Table 8.19). -/
def Role.code : Role → Nat
  | .offline => 0
  | .spare => 1
  | .standby => 2
  | .active => 3
  | .withdrawn => 4

/-- LINE as coded in LN_PEERk (08 Table 8.25). -/
def Line.code : Line → Nat
  | .idle => 0
  | .claim => 1
  | .hold => 2
  | .silent => 3

/-- The lane is ACTIVE (08 R188). -/
def Lane.isActive (l : Lane) : Bool := l.ln.role == .active

/-- The lane is in RUN (15 Table 15.9). -/
def Lane.inRun (l : Lane) : Bool := l.pw.state == .run

/-- The lane has power and is out of reset, so that its logic runs (15 R351). -/
def Lane.alive (l : Lane) : Bool :=
  match l.pw.state with
  | .setup | .run | .doze => true
  | .unpowered | .reset | .park | .off => false

/-- The logic of the lane that DOZE gates runs (15 R360): not in DOZE, and the lane is out of reset. -/
def Lane.awake (l : Lane) : Bool :=
  match l.pw.state with
  | .setup | .run => true
  | .unpowered | .reset | .doze | .park | .off => false

/-- The lane shows RESTING unless it is IMPAIRED or FAILED (15 R355). -/
def Lane.resting (l : Lane) : Bool :=
  match l.pw.state with
  | .run => l.pw.entry.isSome || l.pw.padLatch
  | .setup | .doze | .park | .off | .unpowered | .reset => true

/-- HEALTH as coded: 0 HEALTHY, 1 IMPAIRED, 2 FAILED, 3 RESTING (08 Table 8.2, 15 R355). -/
def Lane.health (l : Lane) : Nat :=
  if l.ln.failed then 2 else if l.ln.impaired != 0 then 1 else if l.resting then 3 else 0

/-- The health in which peer k counts: that of its heartbeats of the last HBTO; a silent peer counts as FAILED, or as RESTING
where it last showed RESTING (08 R190, 15 R355). A peer never heard counts as FAILED. -/
def Lane.peerHealth (l : Lane) (k : Nat) : Nat :=
  if l.beatPeer k then (l.peerOf k).health
  else if (l.peerOf k).lastAt.isSome && (l.peerOf k).health == 3 then 3 else 2

/-- The lanes that count as HEALTHY, as a mask of lane numbers (08 R190). -/
def Lane.healthyMask (l : Lane) : Nat :=
  (if l.health = 0 then 2 ^ l.id.num else 0) +
  (if l.peerHealth 0 = 0 then 2 ^ peerLane l.id 0 else 0) +
  (if l.peerHealth 1 = 0 then 2 ^ peerLane l.id 1 else 0)

/-- The lane's own count as a condition: 0 FULL, 1 REDUCED, 2 LAST, 3 QUENCH (08 Table 8.5). Bench mode reads LAST while no
lane is HEALTHY (08 R210). -/
def Lane.countCond (l : Lane) (debug : Bool) : Nat :=
  let c := 3 - ((members l.healthyMask 3).length)
  if c = 3 ∧ debug ∧ l.rbit Reg.LN_CFG 23 then 2 else c

/-- LIMP is forced: condition LAST, or SILENT_HOLD (09 R218), or LIMP forcing adopted from the mirror (09 R230). -/
def Lane.limp (l : Lane) : Bool := l.ln.cond == 2 || l.ln.silentHold || l.ln.limpMir

/-- PROF_ACT: 3 while LIMP is forced, else the selected profile (09 R218, Table 9.6). -/
def Lane.profNow (l : Lane) : Nat := if l.limp then 3 else l.fld Reg.SF_CTRL 0 2

/-- A condition that a peer sees as STANDBY role: it is heard and shows role 2 (08 R199). -/
def Lane.hearsStandby (l : Lane) : Bool :=
  (l.heardPeer 0 && (l.peerOf 0).role == 2) || (l.heardPeer 1 && (l.peerOf 1).role == 2)

/-- The peer heard as a HEALTHY STANDBY (08 R197). -/
def Lane.standbyPeer (l : Lane) : Option Nat :=
  [0, 1].find? fun k => l.heardPeer k && (l.peerOf k).role == 2 && (l.peerOf k).health == 0

/-- The lane holds the token in its own view: its line is at HOLD (08 R192). -/
def Lane.holds (l : Lane) : Bool := l.ln.line == .hold

/-- The speed source of unit n is faulted: SSRC 0 counter, 1 Hall, 2 SENT (03 R85). -/
def Unit.speedFault (u : Unit) (ssrc : Nat) : Bool :=
  match ssrc with
  | 0 => u.cntFault
  | 1 => u.hallFault
  | 2 => u.sentFault
  | _ => false

/-- FB_SPEEDn: the estimator's speed, 0 while the speed source is faulted (03 R80, R85). -/
def Lane.fbSpeed (l : Lane) (n : Nat) : Int :=
  if (l.unit n).speedFault (l.fld (Reg.FB_CFG n) 8 2) then 0 else (l.unit n).est.speed

/-- FB_APOSn = POS + AOFF (03 R71). -/
def Lane.apos (l : Lane) (n : Nat) : Word := (l.unit n).cnt.pos + l.reg (Reg.FB_AOFF n)

/-- The speed that the loop and the safety functions of axis n latch: BSPD on a BEMF axis, else FB_SPEEDn (06 Table 6.1,
05 R123). -/
def Lane.speed (l : Lane) (n : Nat) : Int := if l.sect n = 1 then (l.axis n).bspd else l.fbSpeed n

/-- A slice that is not there. -/
def noSlice : Slice := { usable := false, coef := { off := 0, gain := 0, skew := 0 }, next := none, turns := 0 }

/-- The usable slices of a converter, as a mask (04 R108). -/
def Converter.usable (c : Converter) : Nat := maskOf 5 fun s => (vget c.slice s noSlice).usable

/-- The number of usable slices (04 R108). -/
def Converter.count (c : Converter) : Nat := (members c.usable 5).length

/-- The occupied positions, in order (04 R94). -/
def Converter.occ (c : Converter) : List Nat := (List.range 4).filter fun p => (vget c.pos p none).isSome

/-- DEGRADED: three slices have failed (04 Table 4.3). -/
def Converter.degraded (c : Converter) : Bool := c.count == 2

/-- FAILED: four slices have failed (04 Table 4.3). -/
def Converter.failed (c : Converter) : Bool := decide (c.count < 2)

/-- A converter of the lane. -/
def Lane.conv (l : Lane) (m : Nat) : Converter := vget l.cv.cv m (initConverter false 0 m)

/-- The lane with a converter changed. -/
def Lane.modConv (l : Lane) (m : Nat) (f : Converter → Converter) : Lane :=
  { l with cv := { l.cv with cv := vmod l.cv.cv m f } }

/-- GRID_S: the smallest number of occupied positions, 0 while a converter is FAILED (04 R94, Table 4.6). -/
def Lane.gridS (l : Lane) : Nat :=
  if (List.range 4).any fun m => (l.conv m).failed then 0
  else (List.range 4).foldl (fun a m => min a (l.conv m).occ.length) 4

/-- The result word CV_RESm_j; VALID reads 0 while the converter is FAILED (04 R102, Table 4.3). -/
def Lane.res (l : Lane) (m j : Nat) : Word :=
  let w := fget (fun _ => (0 : Word)) l.cv.res (32 * m + j)
  if (l.conv m).failed then w &&& 0x7FFFFFFF else w

/-- VALUE of CV_RESm_j, signed (04 R102). -/
def Lane.resVal (l : Lane) (m j : Nat) : Int := signed 18 (field (l.res m j) 0 18)

/-- The cycle in which CV_RESm_j was written last; 0 for never (04 R102). -/
def Lane.resAt (l : Lane) (m j : Nat) : Nat := fget (fun _ => 0) l.cv.resAt (32 * m + j)

/-- WCLK in ns, seconds and ns in one count (02 R46). -/
def Lane.wns (l : Lane) : Nat := l.tl.wclk / 2 ^ 32

/-- The seconds of a WCLK count. 48 bits (02 R46). -/
def secOf (ns : Nat) : Nat := (ns / 1000000000) % 2 ^ 48

/-- The ns of a WCLK count (02 R46). -/
def nsOf (ns : Nat) : Nat := ns % 1000000000

/-- A WCLK count as a stamp word: seconds [1:0] in [31:30], ns in [29:0] (02 Table 2.26, 14 Table 14.5). -/
def stampOf (ns : Nat) : Word := pack [(nsOf ns, 0), (secOf ns % 4, 30)]

/-- A stamp word expanded to the full WCLK count within ±2 s of `ref` (08 R207). -/
def expandStamp (ref : Nat) (st : Word) : Int :=
  let period : Int := 4000000000
  let v : Int := (field st 30 2 * 1000000000 + field st 0 30 : Nat)
  let d := (v - (ref : Int)) % period
  (ref : Int) + (if 2 * d ≥ period then d - period else d)

end Sys2Proof.Machine
end

