-- ==== Sys2Proof/Machine/View.lean ====
section
/-! DEFINITION. What a register reads: its stored fields beside the read-only fields of the chapters' register tables
(16 R376). -/

namespace Sys2Proof.Machine

/-- The read-only fields of the timeline block (02 Tables 2.12 to 2.26). -/
def viewTl (l : Lane) (o : Nat) : Word :=
  if o = 0x1030 then pack [(l.tl.passed, 16), (l.tl.deferred, 0)]
  else if o = 0x1034 then pack [(l.tl.perrEntry, 24), (l.tl.perrMax, 0)]
  else if 0x1040 ≤ o ∧ o < 0x1140 then
    let p := l.ptOf ((o - 0x1040) / 0x20)
    match (o - 0x1040) % 0x20 with
    | 0x00 => pack [(b2n p.valid, 31), (b2n p.held, 30)]
    | 0x0C => p.angle
    | 0x10 => sword p.rate
    | 0x14 => p.rev.zeroExtend 32
    | _ => 0
  else if o = 0x1200 then BitVec.ofNat 32 (secOf l.wns)
  else if o = 0x1204 then pack [(l.tl.latchHi, 0)]
  else if o = 0x1208 then pack [(l.tl.latchNs, 0)]
  else if o = 0x1218 then sword l.tl.ppsErr
  else if o = 0x121C then sword l.tl.pendStep
  else if o = Reg.TL_WSTATUS then
    pack [(b2n l.tl.stepArmed, 7), (b2n l.tl.slewing, 6), (b2n l.tl.secValid, 5), (b2n l.tl.phaseValid, 4),
      (b2n l.tl.refusal, 0)]
  else if 0x1280 ≤ o ∧ o < 0x12B0 then
    let n := (o - 0x1280) / 8
    if o % 8 = 0 then stampOf (vget l.tl.capS n 0) else stampOf (vget l.tl.capL n 0)
  else 0

/-- FB_STATEn (03 Table 3.22). -/
def fbState (u : Unit) : Word :=
  let idx := if u.hallFault then 7 else u.hall.idx
  let arm := match u.cnt.arm with | .disarmed => 0 | .armed => 1 | .fired => 2
  pack [(idx, 24), (arm, 20), (b2n u.tooth.sync, 19), (b2n u.cntFault, 18), (b2n u.hallFault, 17),
    (b2n u.sentFault, 16), (u.tooth.misRun, 8), (b2n u.sent.valid, 7), (b2n (u.est.state == .deHold), 6),
    (b2n (u.est.state == .reversal), 5), (b2n (u.est.state == .firstEdge), 4), (b2n (u.est.state == .standstill), 3),
    (b2n u.est.winMode, 2), (b2n u.cnt.pending, 1), (b2n u.cnt.rev, 0)]

/-- The read-only fields of the feedback block (03 Tables 3.9 to 3.27). -/
def viewFb (l : Lane) (o : Nat) : Word :=
  if o = Reg.FB_GSTATUS then
    pack [(maskOf 8 fun n => let u := l.unit n; u.cntFault || u.hallFault || u.sentFault, 8)]
  else if o < 0x1880 ∨ 0x1C80 ≤ o then 0
  else
    let n := (o - 0x1880) / 0x80
    let u := l.unit n
    match (o - 0x1880) % 0x80 with
    | 0x44 => if n < 6 then fbState u else fbState u &&& 0xF8FFFFFF
    | 0x48 => u.cnt.pos
    | 0x4C => l.apos n
    | 0x50 => u.cnt.raw
    | 0x54 => u.cnt.idxPos
    | 0x58 => sword (l.fbSpeed n)
    | 0x5C => pack [(u.cnt.deTotal, 16), (u.tooth.mmTotal, 8), (u.tooth.teethLast, 0)]
    | 0x60 => pack [(u.sent.status, 28), (u.sent.aux, 16), (u.sent.angle, 0)]
    | 0x64 => pack [(b2n u.sent.serC, 25), (b2n u.sent.serNew, 24), (u.sent.serId, 16), (u.sent.serData, 0)]
    | 0x68 => pack [(u.sent.errSer, 24), (u.sent.errCrc, 16), (u.sent.errTick, 8), (u.sent.errNib, 0)]
    | 0x6C => pack [(twos 16 u.xchk.sdiff, 16), (twos 16 u.xchk.hdiff, 0)]
    | _ => 0

/-- CV_CVSTATm (04 Table 4.12). -/
def convStat (c : Converter) : Word :=
  let p := fun i => (vget c.pos i none).getD 7
  pack [(b2n c.failed, 31), (b2n c.degraded, 30), (b2n c.trained, 29), (b2n c.spare.isNone, 28), (c.occ.length, 24),
    (c.usable, 16), (c.spare.getD 7, 12), (p 0 + 8 * p 1 + 64 * p 2 + 512 * p 3, 0)]

/-- The LEN that the lane acts on (04 R93): none for a descriptor that is disabled. -/
def Lane.seqLen (l : Lane) (k : Nat) : Nat :=
  let w := l.reg (Reg.CV_SEQ k)
  let len := field w 16 6
  if !bit w 31 then 0 else min len (32 - field w 22 5)

/-- The enabled MONITOR descriptors in order (04 R96). -/
def Lane.monitors (l : Lane) : List Nat :=
  (List.range 16).filter fun k => decide (l.seqLen k ≠ 0) && l.rbit (Reg.CV_SEQ k) 30

/-- The monitor entry that comes next: descriptor and place in it (04 R96). -/
def Lane.monNext (l : Lane) : Option (Nat × Nat) :=
  let ms := l.monitors
  if ms.contains l.cv.monDesc ∧ l.cv.monEntry < l.seqLen l.cv.monDesc then some (l.cv.monDesc, l.cv.monEntry)
  else
    match ms.find? fun k => decide (l.cv.monDesc < k) with
    | some k => some (k, 0)
    | none => ms.head?.map fun k => (k, 0)

/-- The next monitor entry as CV_MONPOS shows it: its descriptor and its place among the 32 entries (04 Table 4.11). -/
def Lane.monShown (l : Lane) : Nat × Nat :=
  match l.monNext with
  | some (d, i) => (d, l.fld (Reg.CV_SEQ d) 22 5 + i)
  | none => (l.cv.monDesc, l.cv.monEntry)

/-- The read-only fields of the conversion block (04 Tables 4.6 to 4.16). -/
def viewCv (l : Lane) (o : Nat) : Word :=
  if o = Reg.CV_CTRL then pack [(l.gridS, 16)]
  else if o = Reg.CV_ROT then pack [(l.cv.eff, 16)]
  else if o = 0x200C then pack [(l.cv.trigLost, 16), (l.cv.overrun, 0)]
  else if o = 0x2010 then pack [(l.cv.jitSeq, 28), (l.cv.jitMax, 0)]
  else if o = 0x2014 then
    pack [(l.cv.rounds, 16), (b2n l.cv.suspended, 13), (l.monShown.2, 8), (l.monShown.1, 0)]
  else if 0x2080 ≤ o ∧ o < 0x2090 then convStat (l.conv ((o - 0x2080) / 4))
  else if 0x2300 ≤ o ∧ o < 0x2500 then l.res ((o - 0x2300) / 0x80) ((o - 0x2300) % 0x80 / 4)
  else if 0x2500 ≤ o ∧ o < 0x2600 then
    let s := (o - 0x2500) % 0x40
    if s < 40 then
      let v := vget (l.conv ((o - 0x2500) / 0x40)).slice (s / 8) noSlice
      if s % 8 = 0 then pack [(v.coef.gain, 16), (twos 16 v.coef.off, 0)]
      else pack [(v.turns, 24), (twos 8 v.coef.skew, 0)]
    else 0
  else 0

/-- The driven pattern for a rotor sector and the sign of the torque (05 R115). -/
def patOf (rs : Nat) (rev : Bool) : Nat := if rev then (rs + 3) % 6 else rs

/-- The driven pattern for a rotor sector and a duty (05 R115). -/
def drivenPat (rs : Nat) (d : Int) : Nat := patOf rs (decide (d < 0))

/-- The rotor sector in force at an instant, as set by the boundaries committed so far (05 R119); a boundary at the instant
itself precedes it (05 R120). -/
def CmAxis.rsAt (a : CmAxis) (t16 : Nat) : Option Nat :=
  match a.bounds.find? fun b => decide (t16 < b.tb) with
  | some b => some b.old
  | none => a.rs

/-- The pattern of a formed period at an instant: the one in force at its start, moved by the boundaries since (05 R115,
R120). -/
def CmAxis.patAt (a : CmAxis) (p : Period) (t16 : Nat) : Option Nat :=
  match p.ds, (a.bounds.filter fun b => decide (16 * p.start < b.tb) && decide (b.tb ≤ t16)).getLast? with
  | some _, some b => some (patOf b.rs p.rev)
  | ds, _ => ds

/-- The pattern driven at a cycle: that of the last period that has started, until a STOP or a lost sector source holds every
gate off (05 R115, R119, R125, R129). -/
def drivenNow (a : CmAxis) (now : Nat) : Option Nat :=
  let ended := match a.stopAt with
    | some t => decide (t ≤ now)
    | none => false
  if !a.drive || ended || (a.sectLost && decide (a.lostAt ≤ now)) then none
  else
    match a.periods.reverse.find? fun p => decide (p.start ≤ now) with
    | some p => a.patAt p (16 * now)
    | none => none

/-- CM_STATEn (05 Table 5.12). -/
def cmState (a : CmAxis) (now : Nat) : Word :=
  pack [(b2n a.drive, 31), (b2n a.locked, 30), (b2n a.fallback, 29), (b2n a.limited, 28), (a.limKind, 26),
    (a.rs.getD 7, 23), ((drivenNow a now).getD 7, 20), (a.reason, 16), (vget a.pm 2 0, 8), (vget a.pm 1 0, 4), (vget a.pm 0 0, 0)]

/-- The read-only fields of the commutation block (05 Tables 5.4 to 5.14). GEN_LIMIT is the die's, from LEVELS. -/
def viewCm (l : Lane) (o : Nat) : Word :=
  if o = Reg.CM_GSTATUS then pack [(b2n (bit l.port.levels 17), 8)]
  else if o < 0x2840 ∨ 0x2B40 ≤ o then 0
  else
    let a := l.axis ((o - 0x2840) / 0x80)
    match (o - 0x2840) % 0x80 with
    | 0x30 => cmState a l.now
    | 0x34 => sword a.ref
    | 0x38 => sword a.bspd
    | 0x40 => pack [(a.deferred, 16), (a.late, 8), (a.resync, 0)]
    | _ => 0

/-- What a bank word reads: a mantissa with its sign copied upward, an exponent word or VNOM as stored (06 R147). -/
def bankRead (w : Nat) (v : Word) : Word :=
  if w = 0x40 ∨ w = 0x43 ∨ w = 0x4E ∨ w = 0x51 ∨ w = 0x55 ∨ w = 0x52 then v else (v.truncate 24).signExtend 32

/-- The coefficient word behind an address of LE_WSEL (06 R147, Table 6.9). -/
def Lane.coefWord (l : Lane) (n b w : Nat) : Word := fget (fun _ => (0 : Word)) l.le.banks (512 * n + 256 * b + w)

/-- The read-only fields of the loop-engine block, and the window (06 Tables 6.8 to 6.20). -/
def viewLe (l : Lane) (o : Nat) : Word :=
  if o = Reg.LE_WDATA then
    let n := l.fld Reg.LE_WSEL 24 3
    let w := l.fld Reg.LE_WSEL 0 8
    if n < 6 ∧ w < 0x56 then bankRead w (l.coefWord n (l.fld Reg.LE_WSEL 16 1) w) else 0
  else if o < 0x3100 ∨ 0x3280 ≤ o then 0
  else
    let x := l.loopOf ((o - 0x3100) / 0x40)
    let e := fun i => twos 6 (vget x.st.e i 0)
    match (o - 0x3100) % 0x40 with
    | 0x04 => pack [(x.bank, 8)]
    | 0x14 => sword x.usedTgt
    | 0x18 => sword x.usedPsp
    | 0x1C =>
      pack [((if x.st.satDir < 0 then 2 else if x.st.satDir = 0 then 0 else 1), 30), (b2n (x.st.osatDir != 0), 29),
        (b2n x.st.curLim, 28), (twos 16 x.st.duty, 0)]
    | 0x20 => pack [(e 0, 0), (e 1, 6), (e 2, 12), (e 3, 18), (e 4, 24)]
    | 0x24 => pack [(e 5, 0), (e 6, 6), (e 7, 12)]
    | 0x28 => sword x.st.i
    | 0x2C => sword x.st.io
    | 0x34 => pack [(x.skipped, 16), (x.ovf, 8), (x.satPass, 0)]
    | _ => 0

/-- LN_ROLE (08 Table 8.19). CLAIMING: the line at CLAIM, or at HOLD before a LEVELS word confirms. -/
def Lane.lnRole (l : Lane) (debug : Bool) : Word :=
  let bench := debug && l.rbit Reg.LN_CFG 23
  let claiming := l.ln.line == .claim || (l.ln.line == .hold && !l.ln.held)
  pack [(b2n l.ln.silentHold, 31), (b2n bench, 29), (b2n l.limp, 28), (l.heardMask, 25), (l.healthyMask, 22),
    (l.ln.cond, 20), (l.ln.holder, 18), (l.health, 16), (b2n claiming, 3), (l.ln.role.code, 0)]

/-- LN_CAUSE (08 Table 8.21). -/
def Lane.lnCause (l : Lane) : Word := pack [(l.ln.detail, 16), (l.ln.cls, 8), (l.ln.code, 0)]

/-- LEVEL and the items of LN_REPLACE (08 Table 8.22). -/
def Lane.lnReplace (l : Lane) : Word := pack [(l.ln.level, 22), (l.ln.item2, 8), (l.ln.item1, 0)]

/-- LN_PEERk (08 Table 8.25). -/
def Lane.lnPeer (l : Lane) (k : Nat) : Word :=
  let p := l.peerOf k
  let age := match p.lastAt with | none => 0x1FFFF | some t => min 0x1FFFF (l.now - t)
  pack [(b2n (l.heardPeer k), 31), (p.role, 28), (p.health, 26), (p.heard, 23), (p.cond, 21), (p.line.code, 19),
    (p.bad, 17), (age, 0)]

/-- The read-only fields of the lane and takeover block (08 Tables 8.16 to 8.25). -/
def viewLn (l : Lane) (debug : Bool) (o : Nat) : Word :=
  if o = Reg.LN_PATHS then pack [(l.ln.alive, 8)]
  else if o = 0x480C then l.lnRole debug
  else if o = 0x4814 then l.lnCause
  else if o = Reg.LN_REPLACE then l.lnReplace
  else if o = 0x4820 then pack [(l.ln.tkoMax, 16), (l.ln.tkoLast, 0)]
  else if o = 0x4828 then
    pack [(l.ln.takeovers, 24), (l.ln.yields, 16), (l.ln.cancelled, 8), (l.ln.views, 0)]
  else if o = 0x4830 then l.lnPeer 0
  else if o = 0x4834 then l.lnPeer 1
  else 0

/-- REACT: the highest-ranked reaction of an axis (09 R224, Table 9.15). -/
def SafeAxis.react (a : SafeAxis) : Nat := if a.safe then 3 else if a.ramp then 2 else if a.clampBy != 0 then 1 else 0

/-- The read-only fields of the safety block (09 Tables 9.6 to 9.15). M is kept in 1/64,000,000 counts/s. -/
def viewSf (l : Lane) (o : Nat) : Word :=
  if o = Reg.SF_CTRL then pack [(l.profNow, 4), (b2n l.limp, 3)]
  else if o = 0x500C then pack [(l.sf.kats, 8), (l.sf.maxCyc, 0)]
  else if o < 0x5040 ∨ 0x51C0 ≤ o then 0
  else
    let a := l.safetyOf ((o - 0x5040) / 0x40)
    match (o - 0x5040) % 0x40 with
    | 0x2C =>
      pack [(a.react, 30), (b2n a.stopped, 29), (a.brk, 27), (vget a.cnt 0 0, 22), (vget a.cnt 1 0, 18),
        (vget a.cnt 2 0, 14), (a.viol, 11)]
    | 0x30 => pack [(((a.m.getD 0) / 64000000).toNat % 2 ^ 24, 0)]
    | 0x34 => sword (a.pref.getD 0)
    | _ => 0

/-- STATE of PW_STATE (15 Table 15.15). -/
def Lane.pwStateCode (l : Lane) : Nat :=
  match l.pw.state with
  | .setup => 1
  | .run => 2
  | .doze => 3
  | .unpowered | .reset | .park | .off => 0

/-- The read-only fields of the power block (15 Tables 15.13 to 15.21). -/
def viewPw (l : Lane) (o : Nat) : Word :=
  if o = 0x780C then
    pack [(l.pwStateCode, 29), (b2n l.pw.padLatch, 28), (b2n l.pw.restored, 27), (b2n l.resting, 26),
      (b2n l.pw.vlow, 25), (b2n l.pw.vdrvOn, 24), (l.pw.start, 20)]
  else if o = 0x7820 then l.pw.wakeCause.zeroExtend 32
  else if o = 0x7824 then l.pw.imgId
  else if o = 0x7828 then pack [(l.pw.errCause, 28), (l.pw.errSection, 19), (l.pw.errByte, 0)]
  else 0

/-- The read-only fields of the host-rings block (14 Tables 14.14 to 14.20, R346). -/
def viewHr (l : Lane) (o : Nat) : Word :=
  if 0x7040 ≤ o ∧ o < 0x7080 then
    let k := (o - 0x7040) / 0x10
    let r := vget l.hr.ring k initRing
    let queued := if k = 3 then l.hr.evtQueue.length else 0
    let staged := if k = 0 then l.hr.reserved else (l.hr.staged.filter fun d => d.ring == k).length + queued
    match o % 0x10 with
    | 0x8 => pack [(r.dev, 16), (r.host, 0)]
    | 0xC => pack [(r.drops, 16), (staged % 0x10000, 0)]
    | _ => 0
  else if o = 0x7090 then pack [(l.hr.img.state, 28), (l.hr.img.reason, 24), (l.hr.img.fetched, 0)]
  else if o = 0x70A0 then pack [(l.hr.dbBad, 24), (l.hr.rdFail, 16), (l.hr.dbBusy, 8), (l.hr.dbGap, 0)]
  else if o = 0x70A4 then pack [(l.hr.services, 16), (l.hr.longest, 0)]
  else if o = 0x7500 then l.hr.msixPend.zeroExtend 32
  else 0

/-- A switch of the gate-drive die. -/
def Lane.switch (l : Lane) (g : Nat) : Switch := vget l.die.sw g initSwitch

/-- The row of Table 7.8 that gives the outputs of axis n, the gates' own trips of row 2 apart (07 R180). -/
def Die.row (d : Die) (n : Nat) : Nat :=
  if d.vdrvUv then 1
  else if d.ov3 then 3
  else if d.hbLost && !d.lossSafe then 4
  else if d.hbLost then 5
  else if d.safe.testBit n then 6
  else if d.isolated then 7
  else if !d.token then 8
  else 9

/-- The level of the ladder: 0 none, 1 OV1, 2 OV2, 3 OV3 (07 Table 7.20). GEN_LIMIT stands for OV2. -/
def Die.ladder (d : Die) : Nat := if d.ov3 then 3 else if d.genLimit then 2 else if d.ov1 then 1 else 0

/-- GD_AXSTATn (07 Table 7.25). -/
def Lane.axStat (l : Lane) (n : Nat) : Word :=
  let sw := fun i => l.switch (6 * n + i)
  let pfm := (List.range 6).foldl (fun m i => max m (sw i).pf) 0
  let pfs := ((List.range 6).find? fun i => (sw i).pf == pfm).getD 0
  pack [(maskOf 6 fun i => (sw i).latched, 26), (maskOf 6 fun i => (sw i).hold.any fun e => decide (l.now < e), 20),
    (maskOf 3 fun p => (sw (2 * p)).bootUv || (sw (2 * p + 1)).bootUv, 17),
    (b2n (l.die.row n == 5 || l.die.row n == 6), 16), (min 15 pfm, 12), (if pfm = 0 then 0 else pfs, 9),
    (maskOf 6 fun i => (sw i).out, 0)]

/-- A return block has been verified within 500 cycles (07 Table 7.20). -/
def Lane.hbOk (l : Lane) : Bool :=
  match l.port.lastReturn with
  | some t => decide (l.now < t + 500)
  | none => false

/-- GD_STATE (07 Table 7.20): the levels from the last LEVELS word. -/
def Lane.gdState (l : Lane) : Word :=
  let v := l.port.levels
  pack [(field v 27 1, 31), (field v 26 1, 30), (b2n l.hbOk, 29), (field v 13 1, 28), (field v 20 6, 22),
    (field v 18 2, 20), (field v 17 1, 19), (field v 16 1, 18), (field v 15 1, 17), (field v 14 1, 16)]

/-- The read-only fields of the gate-drive block (07 Tables 7.12 to 7.25). -/
def viewGd (l : Lane) (o : Nat) : Word :=
  if o = Reg.GD_DT then pack [(b2n l.port.dtLocked, 31)]
  else if o = 0x4020 then l.gdState
  else if o = 0x4024 then pack [(l.port.late, 16), (l.port.runLost, 8), (l.port.qfull, 0)]
  else if o = 0x402C then pack [(l.fld Reg.LN_AXCFG 0 18, 0)]
  else if 0x4060 ≤ o ∧ o < 0x4078 then l.axStat ((o - 0x4060) / 4)
  else 0

/-- DEBUG_UNLOCKED reads set when any latch cell is set (10 R252). -/
def Lane.unlocked (l : Lane) : Bool := l.ig.unlocked != 0

/-- The read-only fields of the integrity block (10 Tables 10.11 to 10.19). -/
def viewIg (l : Lane) (o : Nat) : Word :=
  let g := l.ig
  if o = 0x5808 then pack [(g.ceShm, 16), (g.ceRom, 8), (g.ceChill, 0)]
  else if o = 0x580C then pack [(g.ceAddr / 8 * 8, 0)]
  else if o = 0x5810 then
    pack [(g.ceSyn % 256, 16), (g.ceSrc % 256, 8), (b2n g.ceInj, 7), (b2n g.ceHard, 6), (g.ceMem % 4, 0)]
  else if o = 0x5814 then pack [(g.cap.addr, 0)]
  else if o = Reg.IG_UEINFO then
    pack [(g.cap.kind % 16, 28), (b2n g.cap.inj, 27), (b2n g.cap.park, 26), (b2n g.cap.valid, 24), (g.cap.syn % 256, 16),
      (g.cap.src % 256, 8)]
  else if o = 0x581C then pack [(g.passes, 20), (g.scrubLine, 0)]
  else if o = 0x5820 then
    pack [(b2n g.mirror, 31), (b2n (!g.compareOff), 30), (g.passed % 2048, 16), (g.last % 256, 8)]
  else if o = 0x5824 then pack [(g.parOff, 0)]
  else if o = 0x5828 then pack [(g.regCount, 26), (g.regSrc % 32, 21), (g.regOff % 2 ^ 21, 0)]
  else if o = 0x582C then
    pack [(b2n l.unlocked, 31), (b2n g.granted, 30), (b2n g.waiting, 29), (b2n g.pads, 28), (g.ir, 0)]
  else 0

/-- The shift s of the background work (11 R265). -/
def Lane.shift (l : Lane) : Nat := if l.ln.role == .spare then 3 else l.ts.level

/-- VCORE target in mV (11 R268, R277). -/
def Lane.vtarget (l : Lane) : Nat := Config.factoryVcore % 4096 + 10 * l.ts.steps

/-- ERR_g: the mean error of the comparators of group g that have been measured, in 0.01 % (11 Table 11.4). -/
def Lane.cmpErr (l : Lane) (g : Nat) : Int :=
  let xs := (l.ts.errs.filter fun e => e.1 / 64 == g).filterMap (·.2)
  rdiv xs.sum xs.length

/-- The factory error of group g, or zero without a valid factory record (11 R275, R276). -/
def Lane.isPending (l : Lane) : Bool := l.ts.birth.isNone

/-- The read-only fields of the Temper block (11 Tables 11.11 to 11.23). -/
def viewTs (l : Lane) (o : Nat) : Word :=
  let t := l.ts
  if o = 0x6008 then
    pack [(t.level, 30), (t.lSlack, 28), (t.lDref, 26), (t.lCmp, 24), (t.lSink, 22), (t.lXo, 20), (t.lMem, 18),
      (b2n t.birth.isNone, 10), (b2n t.xoBirth.isNone, 9), (t.critq, 0)]
  else if o = 0x600C then pack [(t.steps, 24), (l.vtarget % 4096, 12), (t.meas % 4096, 0)]
  else if o = 0x6010 then pack [(t.sidx, 16), (twos 16 t.smin, 0)]
  else if o = 0x6014 then pack [(twos 16 (t.xoBirth.getD 0), 16), (twos 16 t.xo, 0)]
  else if o = 0x6018 then
    pack [(b2n t.done, 31), (b2n (t.startAt.isSome || t.running.isSome), 30), (t.unusable, 17), (t.failMask, 0)]
  else if o = Reg.TS_BG then pack [(l.shift, 6), (t.gcell, 0)]
  else if 0x6030 ≤ o ∧ o < 0x6040 then
    let m := (o - 0x6030) / 4
    pack [(twos 16 ((t.birth.bind fun b => b.dref[m]?).getD 0), 16), (twos 16 (vget t.dref m 0), 0)]
  else if 0x6040 ≤ o ∧ o < 0x6054 then
    let g := (o - 0x6040) / 4
    pack [(twos 5 (vget t.trim g 0), 24), (twos 16 (l.cmpErr g), 0)]
  else if 0x6060 ≤ o ∧ o < 0x6070 then pack [(vget t.opens ((o - 0x6060) / 4) 0, 0)]
  else if 0x6080 ≤ o ∧ o < 0x60C4 then
    let r := vget t.tests ((o - 0x6080) / 4) initTest
    pack [(r.result, 29), (r.cell % 256, 16), (r.dur % 65536, 0)]
  else if 0x6100 ≤ o ∧ o < 0x61C0 then
    let k := (o - 0x6100) / 4
    pack [(twos 16 ((t.birth.bind fun b => b.slack[k]?).getD 0), 16), (twos 16 (vget t.slack k 0), 0)]
  else if 0x6200 ≤ o ∧ o < 0x6294 then
    let i := (o - 0x6200) / 4
    pack [(((t.birth.bind fun b => b.sink[i]?).getD 0) % 65536, 16), (vget t.sink i 0 % 65536, 0)]
  else 0

/-- A Sprue port of the lane: 0 A, 1 B. -/
def Lane.busOf (l : Lane) (b : Nat) : SprueBus := vget l.sp.bus b initBus

/-- The lane with a Sprue port changed. -/
def Lane.modBus (l : Lane) (b : Nat) (f : SprueBus → SprueBus) : Lane :=
  { l with sp := { l.sp with bus := vmod l.sp.bus b f } }

/-- The controller of a port is in normal operation (12 Table 12.2): the port is in use, the lane is in RUN with its image
applied and its pads free, and the controller is not bus-off. -/
def Lane.busNormal (l : Lane) (b : Nat) : Bool :=
  l.rbit (Reg.SP_CFG b) 31 && l.inRun && !l.pw.padLatch && !decide ((l.busOf b).err = 2)

/-- IDLEW in cycles (12 Table 12.13), lengthened after a RANK_CLASH (12 R297). -/
def Lane.idlew (l : Lane) (b : Nat) : Nat :=
  us (between 100 200000 (l.fld (Reg.SP_IDLE b) 0 18)) +
    (if (l.busOf b).clash then us (100 * l.fld (Reg.SP_CFG b) 20 6) else 0)

/-- The slot entry of a mode (12 R287). -/
def Lane.slotWord (l : Lane) (b m s : Nat) : Word := fget (fun _ => (0 : Word)) l.sp.sched (256 * b + 64 * m + s)

/-- LEN of a slot entry (12 Table 12.8). -/
def slotLen (w : Word) : Nat := field w 0 9

/-- T(n) of R286 in ns. The rates: 500 kbit/s or 1 Mbit/s, and 2, 4, 5 or 8 Mbit/s or no switching (12 Table 12.12). -/
def Lane.frameNs (l : Lane) (b n : Nat) : Nat :=
  let tn := if l.rbit (Reg.SP_BT b) 27 then 1000 else 2000
  let td := match l.fld (Reg.SP_BT b) 28 4 with
    | 1 => 500
    | 2 => 250
    | 3 => 200
    | 4 => 125
    | _ => tn
  34 * tn + ((if n ≤ 16 then 33 else 38) + 10 * n) * td

/-- A connection of the lane (13 R309). -/
def Lane.conn (l : Lane) (k : Nat) : Conn := vget l.env.conn k initConn

/-- The lane with a connection changed. -/
def Lane.modConn (l : Lane) (k : Nat) (f : Conn → Conn) : Lane :=
  { l with env := { l.env with conn := vmod l.env.conn k f } }

/-- Connection k is in use, inbound, on a path of its own (13 R309). -/
def Lane.inbound (l : Lane) (k : Nat) : Bool :=
  decide (k < 15) && l.rbit (Reg.SF_CCFG k) 31 && !l.rbit (Reg.SF_CCFG k) 30 && l.fld (Reg.SF_CCFG k) 28 2 != 3

/-- Connection k is in use and outbound (13 R309). -/
def Lane.outbound (l : Lane) (k : Nat) : Bool :=
  decide (k < 15) && l.rbit (Reg.SF_CCFG k) 31 && l.rbit (Reg.SF_CCFG k) 30 && l.fld (Reg.SF_CCFG k) 28 2 != 3

/-- The connection index of a slot entry; 15 where it does not fit the bus or the direction (13 R309). -/
def Lane.slotConn (l : Lane) (b c : Nat) : Nat := if l.outbound c && l.fld (Reg.SF_CCFG c) 28 2 == b then c else 15

/-- The checks of one enabled slot (12 R288). -/
def Lane.slotOk (l : Lane) (b : Nat) (s : Nat) (w : Word) : Bool :=
  let len := slotLen w
  let ax := (members (field w 23 6) 6).length
  let recs := l.slotConn b (field w 19 4) != 15
  let time := bit w 29
  let resp := bit w 30
  let np := if recs then 64 else if s == 0 && time then 32 else 4
  decide (10 ≤ len) && decide (len ≤ 400) && decide (ax ≤ 4) && !(time && recs && decide (3 < ax)) &&
    !(resp && l.slotConn b (field w 15 4) == 15) &&
    decide (l.frameNs b np + (if resp then 2000 + l.frameNs b 64 else 0) ≤ len * 5000)

/-- A mode of a bus holds an enabled slot. -/
def Lane.modeAny (l : Lane) (b m : Nat) : Bool := (List.range 64).any fun s => bit (l.slotWord b m s) 31

/-- A mode of a bus passes every check (12 R288). -/
def Lane.modePasses (l : Lane) (b m : Nat) : Bool :=
  let en := (List.range 64).filter fun s => bit (l.slotWord b m s) 31
  bit (l.slotWord b m 0) 31 && (en.all fun s => l.slotOk b s (l.slotWord b m s)) &&
    decide (5 * (en.map fun s => slotLen (l.slotWord b m s)).sum ≤ between 500 100000 (l.fld (Reg.SP_CYC b) 0 17))

/-- A mode of a bus is LOADED, by its last check (12 R288). -/
def Lane.modeLoaded (l : Lane) (b m : Nat) : Bool := (l.busOf b).loaded.testBit m

/-- The read-only fields of a Sprue port, and its window (12 Tables 12.14 to 12.20). -/
def viewSp (l : Lane) (o : Nat) : Word :=
  let b := (o - 0x6800) / 0x400
  let u := l.busOf b
  let word64 := fun (v : Nat) (hi : Bool) => BitVec.ofNat 32 (if hi then v / 2 ^ 32 else v)
  match (o - 0x6800) % 0x400 with
  | 0x14 =>
    pack [(u.held, 24), (u.bad, 20), (u.loaded, 16), (b2n u.announced, 3), (u.mode, 0)]
  | 0x20 => word64 u.ack false
  | 0x24 => word64 u.ack true
  | 0x28 => word64 u.seen false
  | 0x2C => word64 u.seen true
  | 0x34 => l.slotWord b (l.fld (Reg.SP_TWSEL b) 8 2) (l.fld (Reg.SP_TWSEL b) 0 6)
  | 0x38 =>
    let seen := match u.heardAt with
      | some t => decide (l.now < t + l.idlew b)
      | none => false
    pack [((if !l.busNormal b then 1 else if u.master then 3 else 2), 30), (u.err, 28), (u.slot, 22), (u.cycle, 14),
      (u.mrank, 10), (b2n seen, 9)]
  | 0x3C => pack [(u.tec, 24), (u.rec_, 16), (u.busOff, 8), (u.tdcv, 0)]
  | 0x44 => pack [(u.missing, 16), (u.late, 8), (u.yields, 0)]
  | 0x48 => pack [(u.foreign, 16), (u.badRec, 8), (u.echoCnt, 0)]
  | _ => 0

/-- AXM of connection k carries axis n (13 R309). -/
def Lane.carries (l : Lane) (k n : Nat) : Bool := l.inbound k && l.rbit (Reg.SF_CCFG k) (20 + n)

/-- The inbound connections that carry axis n (13 R316). -/
def Lane.covering (l : Lane) (n : Nat) : List Nat := (List.range 15).filter fun k => l.carries k n

/-- Axis n is without commands (13 R316): some connection carries it, and every one that does is in FAULT. -/
def Lane.without (l : Lane) (n : Nat) : Bool :=
  let ks := l.covering n
  !ks.isEmpty && ks.all fun k => (l.conn k).fault

/-- A RESUME may clear what R316 caused on axis n (13 R317). -/
def Lane.connAllows (l : Lane) (n : Nat) : Bool :=
  !l.env.caused.testBit n || (l.covering n).any fun k => !(l.conn k).fault

/-- The read-only fields of the envelope block (13 Tables 13.9 to 13.15). -/
def viewEnv (l : Lane) (o : Nat) : Word :=
  if o = 0x5408 then pack [(l.env.lastConn, 28), (l.env.lastKind, 24), (l.env.lastSeq % 65536, 0)]
  else if o = 0x540C then pack [(maskOf 6 l.without, 16), (maskOf 15 fun k => (l.conn k).fault, 0)]
  else if o < 0x5440 ∨ 0x5620 ≤ o then 0
  else
    let c := l.conn ((o - 0x5440) / 0x20)
    match (o - 0x5440) % 0x20 with
    | 0x10 => pack [(b2n c.sync, 31), (b2n c.fault, 30), (b2n (c.wdAt.isSome && l.fld (0x544C + (o - 0x5440) / 0x20 * 0x20) 0 24 != 0), 29), (c.consec, 16), (c.last % 65536, 0)]
    | 0x14 => pack [(c.nCheck, 24), (c.nFormat, 16), (c.nRepeat, 8), (c.nOld, 0)]
    | 0x18 => pack [(c.nJump, 24), (c.nAge, 16), (c.nFuture, 8), (c.nNotime, 0)]
    | 0x1C => pack [(c.nWdog, 24), (c.restarts, 16), (c.lost, 0)]
    | _ => 0

/-- CLK cycles since reset release (16 Table 16.8). -/
def Lane.clk (l : Lane) : Nat := (l.now - l.relAt) % 2 ^ 64

/-- SYS_PENDING (16 Table 16.9). -/
def Lane.pendingMask (l : Lane) : Nat := maskOf 32 fun b => l.status.any fun e => e.1 / 0x400 == b && e.2.flags != 0

/-- The read-only fields of the identity, key and lane-status blocks (16 Tables 16.3 to 16.14). -/
def viewSys (l : Lane) (host : Bool) (o : Nat) : Word :=
  match o with
  | 0x000 => 0x3C601D9C
  | 0x004 => pack [(Config.romVer.toNat, 24), (l.id.num, 16), (Config.stepping, 0)]
  | 0x008 => 0x64540F0E
  | 0x00C => if l.ts.factoryOk then Config.moduleSerial else 0
  | 0x010 => if l.ts.factoryOk then Config.dieSerial l.id.num else 0
  | 0x024 => BitVec.ofNat 32 l.clk
  | 0x028 => if host then l.sys.clkHiHost else l.sys.clkHiInt
  | 0x030 => BitVec.ofNat 32 l.pendingMask
  | 0x404 => pack [(l.sys.badKeys, 8), (b2n l.sys.keyInt, 1), (b2n l.sys.keyHost, 0)]
  | 0x804 => pack [(l.sys.refReason, 28), (b2n l.sys.refInternal, 27), (l.sys.refOff % 65536, 0)]
  | 0x808 => pack [(l.sys.refused, 16), (l.sys.stale, 0)]
  | _ => 0

/-- The read-only fields at an offset, by block (01 Table 1.12). -/
def viewReg (l : Lane) (host : Bool) (o : Nat) : Word :=
  if o < 0x1000 then viewSys l host o
  else if o < 0x1800 then viewTl l o
  else if o < 0x2000 then viewFb l o
  else if o < 0x2800 then viewCv l o
  else if o < 0x3000 then viewCm l o
  else if o < 0x4000 then viewLe l o
  else if o < 0x4800 then viewGd l o
  else if o < 0x5000 then viewLn l l.unlocked o
  else if o < 0x5400 then viewSf l o
  else if o < 0x5800 then viewEnv l o
  else if o < 0x6000 then viewIg l o
  else if o < 0x6800 then viewTs l o
  else if o < 0x7000 then viewSp l o
  else if o < 0x7800 then viewHr l o
  else viewPw l o

/-- What a read of a register returns (16 R376): the stored fields, SEQ and the flags, and the read-only fields. -/
def Lane.readReg (l : Lane) (host : Bool) (o : Nat) : Word :=
  let st := l.stat o
  l.reg o ||| (st.seq.zeroExtend 32 <<< 24) ||| st.flags ||| viewReg l host o

end Sys2Proof.Machine
end

