-- ==== Sys2Proof/Machine/Limits.lean ====
section
/-! DEFINITION. The setpoint limits of the safety functions (09 R217, Table 9.1), which the loop engines, the command
paths and the evaluations share. -/

namespace Sys2Proof.Machine

/-- The counter of unit n is in quadrature mode (09 R221, 03 Table 3.9). -/
def Lane.quadrature (l : Lane) (n : Nat) : Bool := l.fld (Reg.FB_CFG n) 0 2 == 1

/-- PMIN + PGUARD and PMAX − PGUARD: the inner edges (09 Table 9.1). -/
def Lane.innerLo (l : Lane) (n : Nat) : Int := l.sreg (Reg.SF_PMIN n) + (l.fld (Reg.SF_PGD n) 0 16 : Nat)

/-- PMAX − PGUARD. -/
def Lane.innerHi (l : Lane) (n : Nat) : Int := l.sreg (Reg.SF_PMAX n) - (l.fld (Reg.SF_PGD n) 0 16 : Nat)

/-- SLS monitoring is enabled (09 Table 9.10). -/
def Lane.slsOn (l : Lane) (n : Nat) : Bool := l.rbit (Reg.SF_CFG n) 31

/-- SLP runs: enabled, a quadrature counter, and PMIN < PMAX − 2 × PGUARD (09 R221, Table 9.13). -/
def Lane.slpOn (l : Lane) (n : Nat) : Bool :=
  l.rbit (Reg.SF_CFG n) 30 && l.quadrature n && decide (l.innerLo n < l.innerHi n)

/-- The direction SDI permits: 1 forward, −1 reverse, 0 where SDI does not run (09 R222, Table 9.10). -/
def Lane.sdiDir (l : Lane) (n : Nat) : Int :=
  if l.rbit (Reg.SF_CFG n) 29 && l.quadrature n then
    match l.fld (Reg.SF_CFG n) 27 2 with
    | 1 => 1
    | 2 => -1
    | _ => 0
  else 0

/-- A function is enabled and cannot run as configured (09 R221, R222, Tables 9.10, 9.13). -/
def Lane.sfcfgBad (l : Lane) (n : Nat) : Bool :=
  (l.rbit (Reg.SF_CFG n) 30 && !l.slpOn n) || (l.rbit (Reg.SF_CFG n) 29 && l.sdiDir n == 0)

/-- CAP of profile p in counts/s (09 Table 9.11). -/
def Lane.cap (l : Lane) (n p : Nat) : Nat := l.fld (Reg.SF_CAP n p) 0 24

/-- The cap that limits the setpoints of axis n: with SLS_EN, or on every enabled axis while LIMP is forced (09 R218). -/
def Lane.capNow (l : Lane) (n : Nat) : Option Nat :=
  if l.slsOn n || l.limp then some (l.cap n l.profNow) else none

/-- TGT held within the cap (09 Table 9.1). -/
def Lane.capTgt (l : Lane) (n : Nat) (v : Int) : Int :=
  match l.capNow n with
  | none => v
  | some c => clampAbs (256 * c) v

/-- TGT against the inner edges: a speed that leads out of the range reads 0 (09 Table 9.1). -/
def Lane.edgeTgt (l : Lane) (n : Nat) (v : Int) : Int :=
  let ap := (l.apos n).toInt
  let out := (decide (0 < v) && decide (l.innerHi n < ap)) || (decide (v < 0) && decide (ap < l.innerLo n))
  if l.slpOn n && out then 0 else v

/-- TGT against the permitted direction (09 Table 9.1). -/
def Lane.dirTgt (l : Lane) (n : Nat) (v : Int) : Int := if v * l.sdiDir n < 0 then 0 else v

/-- TGT, counts/s with 8 fraction bits, after the limits (09 Table 9.1). -/
def Lane.limitTgt (l : Lane) (n : Nat) (v : Int) : Int := l.dirTgt n (l.edgeTgt n (l.capTgt n v))

/-- PSP after the limits; `storing`: the SDI limit acts at storage only (09 Table 9.1). -/
def Lane.limitPsp (l : Lane) (n : Nat) (storing : Bool) (v : Int) : Int :=
  let v := if l.slpOn n then max (l.innerLo n) (min (l.innerHi n) v) else v
  let ap := (l.apos n).toInt
  if storing ∧ (v - ap) * l.sdiDir n < 0 then ap else v

/-- The interval of stage 0's output W, in counts/s: ±VMAX narrowed (09 Table 9.1). -/
def Lane.wBounds (l : Lane) (n : Nat) : Int × Int :=
  let vmax := l.fld (Reg.LE_VMAX n) 0 24
  let b : Int := match l.capNow n with
    | none => vmax
    | some c => min vmax c
  let ap := (l.apos n).toInt
  let hi := if (l.slpOn n ∧ l.innerHi n < ap) ∨ l.sdiDir n = -1 then 0 else b
  let lo := if (l.slpOn n ∧ ap < l.innerLo n) ∨ l.sdiDir n = 1 then 0 else -b
  (lo, hi)

/-- The stored setpoints of axis n limited again (09 R217). -/
def Lane.relimit (l : Lane) (n : Nat) : Lane :=
  l.modLoop n fun x => { x with tgt := l.limitTgt n x.tgt, psp := if x.pspSeen then l.limitPsp n false x.psp else x.psp }

/-- Every axis limited again: a limit has changed (09 R217). -/
def Lane.relimitAll (l : Lane) : Lane := l.each l.axes Lane.relimit

/-- A speed setpoint limited and stored (09 R217); one under RAMP is discarded (09 R226). -/
def Lane.storeTgt (l : Lane) (n : Nat) (v : Int) (st : Option Word) : Lane :=
  if (l.safetyOf n).ramp then l
  else l.modLoop n fun x => { x with tgt := l.limitTgt n v, tgtStamp := st, rest := false }

/-- A position setpoint limited and stored (09 R217); one under RAMP is discarded (09 R226). -/
def Lane.storePsp (l : Lane) (n : Nat) (v : Int) (st : Option Word) : Lane :=
  if (l.safetyOf n).ramp then l
  else l.modLoop n fun x => { x with psp := l.limitPsp n true v, pspStamp := st, pspSeen := true, rest := false }

end Sys2Proof.Machine
end

