-- ==== Sys2Proof/Machine/LoopMath.lean ====
section
/-! DEFINITION. The block-floating arithmetic of the loop engines (06 R136 to R139): exact fractions inside a stage,
one rounding at its end. -/

namespace Sys2Proof.Machine

/-- An exact number: numerator over a denominator that is not 0 (06 R137). -/
structure Frac where
  num : Int
  den : Nat
  deriving DecidableEq, Repr

/-- An integer as a fraction. -/
def Frac.ofInt (n : Int) : Frac := ⟨n, 1⟩

/-- The sum. -/
def Frac.add (a b : Frac) : Frac :=
  if a.den = b.den then ⟨a.num + b.num, a.den⟩ else ⟨a.num * b.den + b.num * a.den, a.den * b.den⟩

/-- The negation. -/
def Frac.neg (a : Frac) : Frac := ⟨-a.num, a.den⟩

/-- The difference. -/
def Frac.sub (a b : Frac) : Frac := a.add b.neg

/-- The product. -/
def Frac.mul (a b : Frac) : Frac := ⟨a.num * b.num, a.den * b.den⟩

/-- The quotient; 0 where the divisor is 0, which no use below reaches. -/
def Frac.div (a b : Frac) : Frac :=
  if b.num < 0 then ⟨-(a.num * b.den), a.den * b.num.natAbs⟩
  else if b.num = 0 then ⟨0, 1⟩ else ⟨a.num * b.den, a.den * b.num.natAbs⟩

/-- a < b. -/
def Frac.lt (a b : Frac) : Bool := decide (a.num * b.den < b.num * a.den)

/-- The magnitude. -/
def Frac.abs (a : Frac) : Frac := ⟨a.num.natAbs, a.den⟩

/-- The sign: −1, 0 or 1. -/
def Frac.sign (a : Frac) : Int := sgn a.num

/-- The smaller. -/
def Frac.min (a b : Frac) : Frac := if b.lt a then b else a

/-- `a` held between `lo` and `hi`. -/
def Frac.clamp (lo hi a : Frac) : Frac := if a.lt lo then lo else if hi.lt a then hi else a

/-- The nearest integer to `a × k`, ties away from zero (06 R137, R139). -/
def Frac.round (a : Frac) (k : Nat) : Int := rdiv (a.num * k) a.den

/-- The value m × 2^(e − 23) of a block-floating pair (06 R136). -/
def bfVal (m e : Int) : Frac :=
  if 23 ≤ e then ⟨m * 2 ^ (e - 23).toNat, 1⟩ else ⟨m, 2 ^ (23 - e).toNat⟩

/-- The mantissa nearest to `a` at exponent `e` (06 R137). -/
def mantAt (e : Int) (a : Frac) : Int :=
  if 23 ≤ e then rdiv a.num (a.den * 2 ^ (e - 23).toNat) else rdiv (a.num * 2 ^ (23 - e).toNat) a.den

/-- Whether a mantissa fits 24 bits (06 R136). -/
def fits24 (m : Int) : Bool := decide (-8388608 ≤ m) && decide (m ≤ 8388607)

/-- A mantissa saturated to 24 bits (06 R138). -/
def sat24 (m : Int) : Int := if m < -8388608 then -8388608 else if 8388607 < m then 8388607 else m

/-- What a stage leaves in its block: mantissas, the shared exponent, and whether it overflowed (06 R137, R138). -/
structure Block where
  m : List Int
  e : Int
  ovf : Bool
  deriving DecidableEq, Repr

/-- Renormalisation: the smallest exponent from −32 to 31 at which every rounded value fits; where none does, +31 with
saturation and OVF (06 R137, R138). -/
def renorm (vs : List Frac) : Block :=
  match (List.range 64).find? fun (k : Nat) => vs.all fun v => fits24 (mantAt (Int.ofNat k - 32) v) with
  | some k => { m := vs.map (mantAt ((k : Int) - 32)), e := (k : Int) - 32, ovf := false }
  | none => { m := vs.map fun v => sat24 (mantAt 31 v), e := 31, ovf := true }

/-- Element `i` of a block as a value. -/
def Block.val (b : Block) (i : Nat) : Frac := bfVal (b.m.getD i 0) b.e

/-- Element `i` of a block as a mantissa. -/
def Block.mant (b : Block) (i : Nat) : Int := b.m.getD i 0

/-- A value rounded to 24 bits on its own (06 R139, R144). -/
def quant24 (a : Frac) : Frac := (renorm [a]).val 0

/-- A duty: nearest integer to u × 32,768, saturated to ±32,767 (06 R139). -/
def dutyOf (u : Frac) : Int := clampAbs 32767 (u.round 32768)

end Sys2Proof.Machine
end

