-- ==== Sys2Proof/Machine/Crc.lean ====
section
/-! DEFINITION. Bytes and the check codes: the Lorderno check value (13 R308) and CRC-32 of IEEE 802.3 (11 R276). -/

namespace Sys2Proof.Machine

/-- A number as `w` bytes, low byte first (00 R11). -/
def leBytes : Nat → Nat → List Byte
  | 0, _ => []
  | w + 1, v => BitVec.ofNat 8 v :: leBytes w (v / 256)

/-- The number that bytes spell, low byte first (00 R11). -/
def leVal : List Byte → Nat
  | [] => 0
  | b :: t => b.toNat + 256 * leVal t

/-- The bytes of a word, low byte first (00 R11). -/
def wordBytes (w : Word) : List Byte := leBytes 4 w.toNat

/-- `n` bytes of a message from byte `i` on, as a number; a byte beyond the end counts as 0. -/
def leAt (bs : List Byte) (i n : Nat) : Nat := leVal ((bs.drop i).take n)

/-- The word at byte `i` of a message. -/
def wordAt (bs : List Byte) (i : Nat) : Word := BitVec.ofNat 32 (leAt bs i 4)

/-- One bit step of the check value (13 R308). -/
def checkBit (c : Word) : Word := if c.getLsbD 31 then (c <<< 1) ^^^ 0xF4ACFB13 else c <<< 1

/-- `n` bit steps. -/
def checkBits : Nat → Word → Word
  | 0, c => c
  | n + 1, c => checkBits n (checkBit c)

/-- One byte of the check value (13 R308). -/
def checkByte (c : Word) (b : Byte) : Word := checkBits 8 (c ^^^ (b.zeroExtend 32 <<< 24))

/-- The check value of a message, seeded with the connection identity (13 R308). -/
def checkVal (conn : Word) (bs : List Byte) : Word := bs.foldl checkByte conn

/-- One bit step of CRC-32 (11 R276), reflected. -/
def crcBit (c : Word) : Word := if c.getLsbD 0 then (c >>> 1) ^^^ 0xEDB88320 else c >>> 1

/-- `n` bit steps. -/
def crcBits : Nat → Word → Word
  | 0, c => c
  | n + 1, c => crcBits n (crcBit c)

/-- CRC-32 of IEEE 802.3 (11 R276, 15 R357). -/
def crc32 (bs : List Byte) : Word := (bs.foldl (fun c b => crcBits 8 (c ^^^ b.zeroExtend 32)) 0xFFFFFFFF) ^^^ 0xFFFFFFFF

/-- A check code of `w` bits with the bits shifted in at its low end: `poly` with its top bit (03 Table 3.5). -/
def shiftCrc (w poly seed : Nat) (bits : List Bool) : Nat :=
  bits.foldl (fun c b =>
    let c := 2 * c + b.toNat
    if 2 ^ w ≤ c then c ^^^ poly else c) seed

/-- The low `w` bits of a number, high bit first. -/
def bitsOf (w v : Nat) : List Bool := (List.range w).map fun i => v.testBit (w - 1 - i)

/-- One bit step of a CRC-16, high bit first (07 Table 7.1, 10 R237). -/
def crc16Bit (poly c : BitVec 16) : BitVec 16 := if c.getLsbD 15 then (c <<< 1) ^^^ poly else c <<< 1

/-- `n` bit steps. -/
def crc16Bits (poly : BitVec 16) : Nat → BitVec 16 → BitVec 16
  | 0, c => c
  | n + 1, c => crc16Bits poly n (crc16Bit poly c)

/-- One byte of a CRC-16. -/
def crc16Byte (poly c : BitVec 16) (b : Byte) : BitVec 16 := crc16Bits poly 8 (c ^^^ (BitVec.ofNat 16 (256 * b.toNat)))

/-- CRC-16 over words, each high byte first as it is sent: polynomial 0x1021, initial value 0xFFFF (07 Table 7.1). -/
def crc16 (ws : List Word) : BitVec 16 :=
  ws.foldl (fun c w => (wordBytes w).reverse.foldl (crc16Byte 0x1021) c) 0xFFFF

/-- The outer check of a line at an internal address (10 R237): its data bytes, then its address bits [31:5] as four bytes. -/
def outerCheck (line : Nat) (bs : List Byte) : BitVec 16 :=
  (bs ++ leBytes 4 (line / 32)).foldl (crc16Byte 0x8BB7) 0xFFFF

end Sys2Proof.Machine
end

