-- ==== Sys2Proof/Machine/Flags.lean ====
section
/-! DEFINITION. Status flags and what every event carries with it: SEQ and tokens (16 R380 to R383), MSI-X (14 R342), outbound
envelopes (13 R311) and EVT records (14 R333, R340). -/

namespace Sys2Proof.Machine

/-- The endpoint can issue requests (14 R322, R343): the link is up, Bus Master Enable is set, and the function is in D0. -/
def Lane.canIssue (l : Lane) : Bool := l.hr.dlActive && l.hr.bme && !l.hr.d3hot

/-- A message is sent to the host (14 R332). -/
def Lane.hostSend (l : Lane) (t : HostTx) : Lane := { l with hr := { l.hr with sent := l.hr.sent ++ [t] } }

/-- The mask bit of vector v (14 R346). -/
def Lane.vecMasked (l : Lane) (v : Nat) : Bool := l.rbit (0x740C + 0x10 * v) 0

/-- The MSI-X message of vector v (14 R342). -/
def Lane.msixSend (l : Lane) (v : Nat) : Lane :=
  let o := 0x7400 + 0x10 * v
  let l := l.hostSend (.msix v (l.reg (o + 4)) (l.reg o) (l.reg (o + 8)))
  { l with hr := { l.hr with msixLast := vmod l.hr.msixLast v fun _ => some l.now } }

/-- IMOD of the last message of vector v has not ended (14 R342). -/
def Lane.moderated (l : Lane) (v : Nat) : Bool :=
  match vget l.hr.msixLast v none with
  | some t => decide (l.now < t + us (l.fld Reg.HR_IMOD 0 16))
  | none => false

/-- Vector v fires (14 R342): sent, held back by IMOD, or kept pending while it is masked. -/
def Lane.msix (l : Lane) (v : Nat) : Lane :=
  if !l.hr.msixEn ∨ !l.canIssue then l
  else if l.vecMasked v then { l with hr := { l.hr with msixPend := l.hr.msixPend ||| BitVec.ofNat 16 (2 ^ v) } }
  else if l.moderated v then { l with hr := { l.hr with msixLate := l.hr.msixLate ||| BitVec.ofNat 16 (2 ^ v) } }
  else l.msixSend v

/-- The offset belongs to a per-unit register at `base + stride * n`, n below `count`. -/
def unitOf (base stride count off : Nat) : Option Nat :=
  if base ≤ off ∧ (off - base) % stride = 0 ∧ (off - base) / stride < count then some ((off - base) / stride) else none

/-- The group register and bit that a per-unit status register sets (03 Table 3.9, 05 Table 5.4, 06 Table 6.8,
09 Table 9.7). -/
def groupOf (off : Nat) : Option (Nat × Nat) :=
  match unitOf (Reg.FB_STATUS 0) 0x80 8 off with
  | some n => some (Reg.FB_GSTATUS, n)
  | none =>
    match unitOf (Reg.CM_STATUS 0) 0x80 6 off with
    | some n => some (Reg.CM_GSTATUS, n)
    | none =>
      match unitOf (Reg.LE_STATUS 0) 0x40 6 off with
      | some n => some (Reg.LE_GSTATUS, n)
      | none =>
        match unitOf (Reg.SF_STATUSN 0) 0x40 6 off with
        | some n => some (Reg.SF_STATUS, n)
        | none => none

/-- The flags of each status register that fire a vector (14 Table 14.11): vector and mask. -/
def vectorMasks (off : Nat) : List (Nat × Nat) :=
  if off = Reg.LN_STATUS then
    [(4, 2 ^ Bit.LN_TOKEN_RAISED + 2 ^ Bit.LN_TOKEN_DROPPED + 2 ^ Bit.LN_CLAIM_YIELD + 2 ^ Bit.LN_CLAIM_CANCELLED +
        2 ^ Bit.LN_SPLIT + 2 ^ Bit.LN_VIEW_DISAGREE),
      (5, 2 ^ Bit.LN_COND_CHANGED + 2 ^ Bit.LN_REPLACE + 2 ^ Bit.LN_PATH_LOST + 2 ^ Bit.LN_CMD_LOST)]
  else if (unitOf (Reg.SF_STATUSN 0) 0x40 6 off).isSome then
    [(6, 2 ^ Bit.SFN_CLAMPED + 2 ^ Bit.SFN_RAMP_ENTERED + 2 ^ Bit.SFN_SAFE_ENTERED + 2 ^ Bit.SFN_STOP_FAIL)]
  else if off = Reg.SF_ENVSTATUS then [(7, 2 ^ Bit.ENV_CONN_FAULT)]
  else if off = Reg.TL_WSTATUS then [(8, 2 ^ Bit.TLW_TIME_JUMP_REFUSED + 2 ^ Bit.TLW_PPS_MISSING)]
  else if off = Reg.PW_STATUS then [(9, 2 ^ Bit.PW_VWARN)]
  else if off = Reg.TS_STATUS then [(10, 2 ^ Bit.TS_WEAR_NOTICE + 2 ^ Bit.TS_CRITICAL)]
  else if off = Reg.IG_STATUS then [(11, 2 ^ Bit.IG_CE_STORM + 2 ^ Bit.IG_HARD_BIT + 2 ^ Bit.IG_REGION_BLOCKED)]
  else if off = Reg.SP_STATUS 0 ∨ off = Reg.SP_STATUS 1 then
    [((if off = Reg.SP_STATUS 0 then 12 else 13),
      2 ^ Bit.SP_MODE_SWITCHED + 2 ^ Bit.SP_MODE_HELD + 2 ^ Bit.SP_MASTER_YIELD + 2 ^ Bit.SP_BUS_OFF)]
  else if off = Reg.HR_STATUS then
    [(14, 2 ^ Bit.HR_IMG_DONE + 2 ^ Bit.HR_IMG_FAIL),
      (15, 2 ^ Bit.HR_DB_BAD + 2 ^ Bit.HR_RDFAIL + 2 ^ Bit.HR_TLM_DROP + 2 ^ Bit.HR_EVT_DROP + 2 ^ Bit.HR_TLM_BAD)]
  else []

/-- A status register in an event cycle (16 R380, R381): the flags set, SEQ counted once in the cycle, the tokens STALE. The
tokens as they stood before the cycle are kept for a write-back of the same cycle (16 R383). -/
def StatusReg.event (r : StatusReg) (now mask : Nat) : StatusReg :=
  let m := BitVec.ofNat 32 mask
  let first := decide (r.cyc ≠ some now)
  { seq := if first then r.seq + 1 else r.seq, flags := r.flags ||| m, hostTok := none, intTok := none, cyc := some now,
    fresh := if first then m else r.fresh ||| m, hostWas := if first then r.hostTok else r.hostWas,
    intWas := if first then r.intTok else r.intWas }

/-- An event of the register at `off` alone. -/
def Lane.eventAt (l : Lane) (off mask : Nat) : Lane := l.setStat off ((l.stat off).event l.now mask)

/-- The vectors of the flags that an event sets fire in its cycle (14 R342). -/
def Lane.fireVectors (l : Lane) (off mask : Nat) : Lane :=
  (vectorMasks off).foldl (fun l vm => if vm.2 &&& mask ≠ 0 then l.msix vm.1 else l) l

/-- An event of a status register with a mask of flags (16 R380): its group register follows, and its vectors fire. -/
def Lane.event (l : Lane) (off mask : Nat) : Lane :=
  let l := l.eventAt off mask
  let l := match groupOf off with
    | some (g, b) => l.eventAt g (2 ^ b)
    | none => l
  l.fireVectors off mask

/-- An event of one flag. -/
def Lane.flag (l : Lane) (off b : Nat) : Lane := l.event off (2 ^ b)

/-- An event where `c` holds. -/
def Lane.flagIf (l : Lane) (c : Bool) (off b : Nat) : Lane := if c then l.flag off b else l

/-- The connection index that SF_ENVCTRL holds for a ring: 0 CMD, 1 CPL, 2 TLM, 3 EVT; 15 where it does not fit (13 R309). -/
def Lane.ringConn (l : Lane) (k : Nat) : Nat :=
  let c := l.fld Reg.SF_ENVCTRL (4 * k) 4
  let fits := if k = 0 then l.inbound c else l.outbound c
  if fits && l.fld (Reg.SF_CCFG c) 28 2 == 2 then c else 15

/-- The identity a connection sends (13 R310). -/
def Lane.outIdent (l : Lane) (k : Nat) : Word := (l.reg (Reg.SF_CID k) &&& 0xFFFFFFFC) ||| BitVec.ofNat 32 l.id.num

/-- The SEQ of an outbound connection is consumed (13 R311). -/
def Lane.takeSeq (l : Lane) (k : Nat) : Lane :=
  l.modConn k fun c => { c with last := c.next, next := (c.next + 1) % 65536, begun := true }

/-- The envelope that outbound connection k closes over a message (13 R307, R308, R311). -/
def Lane.seal (l : Lane) (k : Nat) (body : List Byte) : List Byte :=
  let c := l.conn k
  let id := l.outIdent k
  let flags := b2n (!c.begun) + 2 * b2n (!l.tl.phaseValid)
  let m := body ++ wordBytes id ++ leBytes 2 c.next ++ leBytes 1 flags ++ leBytes 1 1 ++ wordBytes (stampOf l.wns)
  m ++ wordBytes (checkVal id m)

/-- Ring k is enabled (14 Table 14.14). -/
def Lane.ringOn (l : Lane) (k : Nat) : Bool := l.rbit Reg.HR_CTRL k

/-- A ring of the lane. -/
def Lane.ring (l : Lane) (k : Nat) : Ring := vget l.hr.ring k initRing

/-- The lane with a ring changed. -/
def Lane.modRing (l : Lane) (k : Nat) (f : Ring → Ring) : Lane := { l with hr := { l.hr with ring := vmod l.hr.ring k f } }

/-- N of a ring (14 R324). -/
def Lane.ringN (l : Lane) (k : Nat) : Nat := 2 ^ l.fld (Reg.HR_RING_LO k) 0 4

/-- Descriptors staged for a ring and not yet written. -/
def Lane.stagedFor (l : Lane) (k : Nat) : Nat := (l.hr.staged.filter fun d => d.ring == k).length

/-- An outbound ring has room for one more record beyond those staged (14 R331, R333). -/
def Lane.ringRoom (l : Lane) (k : Nat) : Bool :=
  let r := l.ring k
  decide ((r.dev + 65536 - r.host) % 65536 + l.stagedFor k < l.ringN k)

/-- A record's envelope is closed on its ring's connection, and it is staged (13 R311, 14 R331). -/
def Lane.stage (l : Lane) (k : Nat) (body : List Byte) : Lane :=
  let c := l.ringConn k
  let d : OutDesc := { ring := k, bytes := l.seal c body }
  let l := l.takeSeq c
  { l with hr := { l.hr with staged := l.hr.staged ++ [d] } }

/-- Bench mode is in force (08 R210). -/
def Lane.bench (l : Lane) : Bool := l.rbit Reg.LN_CFG 23 && l.unlocked

/-- LN_ROLE as read (08 Table 8.19). -/
def Lane.roleWord (l : Lane) : Word := l.lnRole l.unlocked

/-- The status register of a block whose EVT record names flag `flag`, by SRC (14 Table 14.7); the WCLK flags stand in
TL_WSTATUS. -/
def statusOf (src : Nat) : Nat :=
  match src with
  | 0x02 => Reg.SYS_LSTATUS
  | 0x04 => Reg.TL_WSTATUS
  | 0x06 => Reg.FB_GSTATUS
  | 0x08 => Reg.CV_STATUS
  | 0x0A => Reg.CM_GSTATUS
  | 0x0C => Reg.LE_GSTATUS
  | 0x10 => Reg.GD_STATUS
  | 0x12 => Reg.LN_STATUS
  | 0x14 => Reg.SF_STATUS
  | 0x15 => Reg.SF_ENVSTATUS
  | 0x16 => Reg.IG_STATUS
  | 0x18 => Reg.TS_STATUS
  | 0x1A => Reg.SP_STATUS 0
  | 0x1B => Reg.SP_STATUS 1
  | 0x1C => Reg.HR_STATUS
  | 0x1E => Reg.PW_STATUS
  | _ => 0

/-- DATA2 of every other event: the first per-unit state or status register of UNIT, by offset (14 Table 14.8). -/
def unitReg (src unit : Nat) : Option Nat :=
  match src with
  | 0x06 => if unit < 8 then some (Reg.FB_STATUS unit) else none
  | 0x08 => if unit < 4 then some (0x2080 + 4 * unit) else none
  | 0x0A => if unit < 6 then some (0x2870 + 0x80 * unit) else none
  | 0x0C => if unit < 6 then some (Reg.LE_STATUS unit) else none
  | 0x10 => if unit < 36 then some (0x4060 + 4 * (unit / 6)) else none
  | 0x14 => if unit < 6 then some (0x506C + 0x40 * unit) else none
  | 0x15 => if unit < 15 then some (0x5450 + 0x20 * unit) else none
  | _ => none

/-- DATA2 to DATA7 of an event by its block, unit and flag (14 Table 14.8). -/
def Lane.evtData (l : Lane) (src flag unit : Nat) : List Word :=
  if src = 0x12 then [l.lnCause, l.readReg true Reg.LN_REPLACE, 0, 0, 0, 0]
  else if src = 0x04 ∧ flag = Bit.TLW_TIME_JUMP_REFUSED then [sword l.tl.pendStep, sword l.tl.ppsErr, 0, 0, 0, 0]
  else
    match unitReg src unit with
    | some o => [l.readReg true o, 0, 0, 0, 0, 0]
    | none => [0, 0, 0, 0, 0, 0]

/-- The 48 bytes of an EVT record before its envelope (14 Table 14.7). -/
def EvtRec.body (e : EvtRec) (dropped : Nat) : List Byte :=
  [0x81, BitVec.ofNat 8 e.src, BitVec.ofNat 8 e.flag, BitVec.ofNat 8 e.unit] ++ leBytes 6 (secOf e.when) ++
    leBytes 4 (nsOf e.when) ++ leBytes 2 dropped ++ (e.data.take 8).flatMap wordBytes

/-- Queued EVT records leave for staging while their ring has room (13 R311, 14 R333); `fuel` bounds the records moved. -/
def Lane.drainEvt : Nat → Lane → Lane
  | 0, l => l
  | fuel + 1, l =>
    match l.hr.evtQueue with
    | [] => l
    | e :: t =>
      if l.ringOn 3 && l.ringRoom 3 && l.ringConn 3 != 15 then
        let l := l.stage 3 (e.body l.hr.evtDropped)
        Lane.drainEvt fuel { l with hr := { l.hr with evtQueue := t, evtDropped := 0 } }
      else l

/-- An EVT record is written (14 R340), or dropped where the queue is full (14 R333). -/
def Lane.evtPut (l : Lane) (e : EvtRec) : Lane :=
  if l.hr.evtQueue.length < 256 then
    Lane.drainEvt 257 { l with hr := { l.hr with evtQueue := l.hr.evtQueue ++ [e] } }
  else
    let l := (l.takeSeq (l.ringConn 3)).modRing 3 fun r => { r with drops := satAdd 0xFFFF r.drops 1 }
    { l with hr := { l.hr with evtDropped := satAdd 0xFFFF l.hr.evtDropped 1 } }.flag Reg.HR_STATUS Bit.HR_EVT_DROP

/-- An EVT record with data of its own (14 Table 14.8). -/
def Lane.evtWith (l : Lane) (src flag unit : Nat) (data : List Word) : Lane :=
  l.evtPut { src := src, flag := flag, unit := unit, when := l.wns,
             data := [l.readReg true (statusOf src), l.roleWord] ++ data }

/-- An EVT record of a block's flag (14 R340). -/
def Lane.evt (l : Lane) (src flag unit : Nat) : Lane := l.evtWith src flag unit (l.evtData src flag unit)

/-- A flag event with its EVT record. -/
def Lane.flagEvt (l : Lane) (off b src unit : Nat) : Lane := (l.flag off b).evt src b unit

end Sys2Proof.Machine
end

