-- ==== Sys2Proof/Machine/Schedule.lean ====
section
/-! DEFINITION. When things will happen: WCLK ahead in time, event entries, their occurrences and predictions (02 R44, R46,
R54, R55, R58). -/

namespace Sys2Proof.Machine

/-- The range of WCLK in 2^-32 ns: 2^48 seconds (02 R46). -/
def wclkMod : Nat := 2 ^ 48 * 1000000000 * 2 ^ 32

/-- What WCLK gains in a cycle with a slew term, in 2^-32 ns (02 R46): TRIM is clamped to ±3,435,973. -/
def Lane.winc (l : Lane) (slew : Int) : Nat :=
  (17179869184 + clampAbs 3435973 (l.sreg Reg.TL_WRATE + slew)).toNat

/-- Cycles of the next `d` in which the slew term still acts (02 R48). -/
def Lane.slewCycles (l : Lane) (d : Nat) : Nat := min d (l.tl.slewEnd - l.now)

/-- WCLK gained in the next `d` cycles, in 2^-32 ns. -/
def Lane.wgain (l : Lane) (d : Nat) : Nat :=
  l.winc l.tl.slew * l.slewCycles d + l.winc 0 * (d - l.slewCycles d)

/-- WCLK in ns at a cycle not before the present one. -/
def Lane.wclkAt (l : Lane) (cyc : Nat) : Nat := (l.tl.wclk + l.wgain (cyc - l.now)) / 2 ^ 32

/-- The first cycle in which WCLK reaches `target` ns (02 R54); the present one where it has. -/
def Lane.cycleAt (l : Lane) (target : Nat) : Nat :=
  let need := target * 2 ^ 32 - l.tl.wclk
  let s := l.slewCycles (l.tl.slewEnd - l.now)
  let a := l.winc l.tl.slew
  let b := l.winc 0
  if need ≤ a * s then l.now + (need + a - 1) / a else l.now + s + (need - a * s + b - 1) / b

/-- Entry k of the event table (02 R52). -/
def Lane.entry (l : Lane) (k : Nat) : Entry := fget (fun _ => initEntry) l.tl.entries k

/-- The lane with an entry changed. -/
def Lane.setEntry (l : Lane) (k : Nat) (e : Entry) : Lane :=
  { l with tl := { l.tl with entries := fset (fun _ => initEntry) l.tl.entries k e } }

/-- EN (02 Table 2.3). -/
def Entry.on (e : Entry) : Bool := bit e.w0 31

/-- BASE: 0–7 a Pattern timebase, 8 WCLK (02 Table 2.3). -/
def Entry.base (e : Entry) : Nat := field e.w0 27 4

/-- ACTION (02 Table 2.4). -/
def Entry.action (e : Entry) : Nat := field e.w0 23 4

/-- DIR (02 Table 2.3). -/
def Entry.dir (e : Entry) : Nat := field e.w0 21 2

/-- DELAY (02 Table 2.3). -/
def Entry.delay (e : Entry) : Nat := field e.w0 0 16

/-- ARG (02 Table 2.3). -/
def Entry.arg (e : Entry) : Nat := field e.w5 0 24

/-- The EDGE subtype: 0 PERIOD, 1 SECTOR, 2 GATE (02 Table 2.4). -/
def Entry.edgeKind (e : Entry) : Nat := field e.w5 22 2

/-- The WCLK target in ns (02 Table 2.3). -/
def Entry.target (e : Entry) : Nat :=
  (e.w2.toNat + 2 ^ 32 * field e.w3 0 16) * 1000000000 + field e.w1 0 30

/-- The entry with another WCLK target. -/
def Entry.withTarget (e : Entry) (t : Nat) : Entry :=
  { e with w1 := BitVec.ofNat 32 (nsOf t), w2 := BitVec.ofNat 32 (secOf t),
           w3 := (e.w3 &&& 0xFFFF0000) ||| BitVec.ofNat 32 (secOf t / 2 ^ 32) }

/-- REPEAT in ns (02 Table 2.3). -/
def Entry.interval (e : Entry) : Nat := field e.w4 0 30

/-- The occurrences of a PT entry: TARGET + k × STEP (02 Table 2.3). -/
def Entry.occs (e : Entry) : List Word :=
  (List.range (max 1 (field e.w5 24 8))).map fun k => e.w1 + BitVec.ofNat 32 (k * e.w4.toNat)

/-- The direction of travel is permitted (02 Table 2.3). -/
def Entry.permits (e : Entry) (fwd : Bool) : Bool := e.dir == 0 || (e.dir == 1 && fwd) || (e.dir == 2 && !fwd)

/-- The distance from `a` to `b` in the direction of travel, 1 to 2^32. -/
def ahead (fwd : Bool) (a b : Word) : Nat :=
  let d := if fwd then (b - a).toNat else (a - b).toNat
  if d = 0 then 2 ^ 32 else d

/-- HYST in Pattern units (02 Table 2.7). -/
def Lane.hyst (l : Lane) : Nat := 2 ^ (16 + l.fld Reg.TL_CTRL 12 4)

/-- LEAD in cycles (02 Table 2.7). -/
def Lane.lead (l : Lane) : Nat := max 560 (l.fld Reg.TL_CTRL 0 12)

/-- The place of a timebase: the revolution and the angle as one number of 48 bits (02 R42). -/
def Pt.place (p : Pt) : BitVec 48 := p.rev ++ p.angle

/-- The angle of a place. -/
def angleOf (x : BitVec 48) : Word := x.setWidth 32

/-- The place `d` Pattern units on from `x` in the direction of travel. -/
def onward (fwd : Bool) (x : BitVec 48) (d : Nat) : BitVec 48 := if fwd then x + BitVec.ofNat 48 d else x - BitVec.ofNat 48 d

/-- How far `b` lies beyond `a` in the direction of travel; negative before it. -/
def beyond (fwd : Bool) (a b : BitVec 48) : Int := if fwd then (b - a).toInt else (a - b).toInt

/-- The occurrences of an entry that remain spent at a place: those that the timebase has moved HYST beyond in the direction of
travel are eligible again (02 R57). -/
def keepSpent (hyst : Nat) (fwd : Bool) (x : BitVec 48) (sp : List (BitVec 48)) : List (BitVec 48) :=
  sp.filter fun o => decide (beyond fwd o x < (hyst : Int))

/-- The occurrences that a move of `d` Pattern units from the place `x` passes or reaches, in the order passed, but for those
spent (02 R55, R57). -/
def Entry.crossed (e : Entry) (fwd : Bool) (x : BitVec 48) (d : Nat) : List (BitVec 48) :=
  let ds := (e.occs.map fun o => ahead fwd (angleOf x) o).filter fun a => decide (a ≤ d)
  ((ds.mergeSort fun a b => decide (a ≤ b)).map fun a => onward fwd x a).filter fun o => !e.spent.contains o

/-- The distance from the place `x` to the next eligible occurrence ahead (02 R55). An occurrence that is spent is eligible a
revolution later. -/
def Entry.next (e : Entry) (fwd : Bool) (x : BitVec 48) : Nat :=
  (e.occs.map fun o =>
    let d := ahead fwd (angleOf x) o
    if e.spent.contains (onward fwd x d) then d + 2 ^ 32 else d).foldl min (2 ^ 33)

/-- The prediction of the occurrence that follows the place `x` (02 R55), its distance taken from the snapped angle: none while
unsynchronised, at rate 0, or in a direction not permitted. -/
def Entry.predictFrom (e : Entry) (p : Pt) (x : BitVec 48) : Option Pred :=
  let fwd := decide (0 < p.rate)
  if !p.valid ∨ p.rate = 0 ∨ !e.permits fwd then none
  else
    let d := e.next fwd x
    let delta := (beyond fwd p.snapPos x + (d : Int)).toNat
    some { occ := onward fwd x d, fwd := fwd, p := 16 * p.snapAt + (rdiv (4096 * (delta : Nat)) p.rate.natAbs).toNat,
           delta := delta, snap := p.snapAt }

/-- The base instant of a prediction: ceil(P / 16) (02 R55). -/
def Pred.base (p : Pred) : Nat := (p.p + 15) / 16

/-- The timestamp in sixteenths at which an EDGE entry would commit now (02 R54, R58): (timestamp, tap). A WCLK target that was
past at its commit has its base instant in the cycle after. -/
def Lane.edgeTime (l : Lane) (e : Entry) : Option (Nat × Nat) :=
  if e.base = 8 then (if e.done then none else some (max (l.cycleAt e.target) (e.commitAt + 1) + e.delay, 0))
  else e.pred.map fun p => (p.p / 16 + e.delay, p.p % 16)

/-- An EDGE entry's next command may commit now: its timestamp lies no more than LEAD cycles ahead (02 R58). -/
def Lane.edgeReady (l : Lane) (e : Entry) : Bool :=
  e.on && e.action == 3 && decide (e.commitAt < l.now) && e.edge.isNone &&
    (match l.edgeTime e with
     | some (ts, _) => decide (ts ≤ l.now + l.lead)
     | none => false)

/-- The EDGE PERIOD entries that are armed for axis n (02 Table 2.4). -/
def Lane.periodEntries (l : Lane) (n : Nat) : List Entry :=
  (l.tl.entries.map (·.2)).filter fun e =>
    e.on && e.action == 3 && e.edgeKind == 0 && e.arg.testBit n && !e.done

/-- An EDGE PERIOD entry is armed for axis n. -/
def Lane.periodArmed (l : Lane) (n : Nat) : Bool := !(l.periodEntries n).isEmpty

/-- The first period start of an entry at or after cycle `t` (02 R54, R58); of a PT-bound one its prediction. -/
def Lane.entryPeriod (l : Lane) (e : Entry) (t : Nat) : Option Nat :=
  if e.base = 8 then
    let c := t - e.delay
    if e.interval = 0 then
      let x := l.cycleAt e.target + e.delay
      if t ≤ x then some x else none
    else
      let past := l.wclkAt (max l.now (c - 1))
      let k := if past < e.target then 0 else (past - e.target) / e.interval + 1
      some (l.cycleAt (e.target + k * e.interval) + e.delay)
  else
    match e.pred with
    | some p => if t ≤ p.p / 16 + e.delay then some (p.p / 16 + e.delay) else none
    | none => none

/-- The smallest number of a list. -/
def minOf : List Nat → Option Nat
  | [] => none
  | a :: t => match minOf t with
    | some b => some (min a b)
    | none => some a

/-- The period starts of axis n that wait for their commit after their base instants (02 R58). -/
def Lane.periodDue (l : Lane) (n t : Nat) : List Nat :=
  l.tl.due.filterMap fun d =>
    match d.edge.bind EdgeDue.stamp with
    | some (ts, _) => if d.arg / 2 ^ 22 = 0 ∧ d.arg.testBit n ∧ t ≤ ts then some ts else none
    | none => none

/-- The first PWM period start of axis n at or after cycle `t`, from the armed PERIOD entries (02 R54, R58). -/
def Lane.periodAhead (l : Lane) (n t : Nat) : Option Nat :=
  minOf (l.periodDue n t ++ (l.periodEntries n).filterMap fun e => l.entryPeriod e t)

/-- The first period start of an axis at or after `t`: a fixed one, else one that an entry will give (08 R197, R201). -/
def Lane.periodStart (l : Lane) (n t : Nat) : Option Nat :=
  match minOf (((l.axis n).periods.map (·.start)).filter fun s => decide (t ≤ s)) with
  | some s => some s
  | none => l.periodAhead n t

/-- That start, or the cycle `t` itself where no period start of the axis is known (log 45). -/
def Lane.periodStartOr (l : Lane) (n t : Nat) : Nat := (l.periodStart n t).getD t

end Sys2Proof.Machine
end

