-- ==== Sys2Proof/Machine/Outbound.lean ====
section
/-! DEFINITION. What a lane writes to host memory: completions (14 R337 to R339), descriptors, the index block and its
vectors (14 R331, R332). -/

namespace Sys2Proof.Machine

/-- The command a completion answers (14 Table 14.5). -/
structure CmdRef where
  /-- TAG; 0 for ENV_FAIL. -/
  tag : Nat
  /-- CMD ring index. -/
  cmdIdx : Nat
  /-- Envelope SEQ; 0 for ENV_FAIL. -/
  cseq : Nat
  /-- TYPE; 0xFF for ENV_FAIL. -/
  ctype : Nat
  deriving DecidableEq, Repr

/-- The notes of a completion (14 Table 14.5). -/
def Lane.notes (l : Lane) (late shadow : Bool) : Nat :=
  b2n late + 2 * b2n (shadow || !l.isActive) + 4 * b2n l.bench + 8 * b2n (l.hr.viewFlag.testBit 1)

/-- The VIEW_DISAGREE note of a ring has been given (14 R341). -/
def Lane.viewGiven (l : Lane) (k : Nat) : Lane := { l with hr := { l.hr with viewFlag := l.hr.viewFlag &&& (63 - 2 ^ k) } }

/-- The 48 bytes of a completion (14 Table 14.5). -/
def Lane.cplBody (l : Lane) (c : CmdRef) (status reason notes : Nat) (result : List Nat) : List Byte :=
  [0x80, BitVec.ofNat 8 status] ++ leBytes 2 c.tag ++ leBytes 2 c.cmdIdx ++
    [BitVec.ofNat 8 reason, BitVec.ofNat 8 notes] ++ wordBytes (stampOf l.wns) ++ leBytes 2 c.cseq ++
    [BitVec.ofNat 8 c.ctype, 0] ++ ((result ++ List.replicate 8 0).take 8).map (BitVec.ofNat 8) ++ List.replicate 24 0

/-- An outcome is recorded, and its completion staged in the slot reserved for it (14 R330, R337, R338). -/
def Lane.complete (l : Lane) (c : CmdRef) (status reason : Nat) (late shadow : Bool) (result : List Nat) : Lane :=
  let l := { l with hr := { l.hr with reserved := l.hr.reserved - 1 } }
  if l.ringOn 1 then (l.stage 1 (l.cplBody c status reason (l.notes late shadow) result)).viewGiven 1 else l

/-- The command of a pending operation. -/
def PendOp.ref (p : PendOp) : CmdRef := { tag := p.tag, cmdIdx := p.cmdIdx, cseq := p.cseq, ctype := p.ctype }

/-- A pending operation ends with a status (14 R338); the outcome is kept for an ABORT (14 R339). -/
def Lane.endOp (l : Lane) (p : PendOp) (status : Nat) (late shadow : Bool) : Lane :=
  let l := { l with hr := { l.hr with
    pendOps := l.hr.pendOps.filter fun q => q.cmdIdx != p.cmdIdx,
    recorded := { tag := p.tag, cmdIdx := p.cmdIdx, status := status, cyc := l.now } :: l.hr.recorded } }
  l.complete p.ref status 0 late shadow p.result.toList

/-- The result bytes of a MODE with the REASON of axis n (14 Table 14.5): bits [3n+2:3n] from byte 16 on. -/
def startBytes (r : Vector Nat 8) (n reason : Nat) : Vector Nat 8 :=
  let v := vget r 0 0 + 256 * vget r 1 0 + 65536 * vget r 2 0
  let v := (v ||| (reason * 8 ^ n))
  (((r.set 0 (v % 256)).set 1 (v / 256 % 256)).set 2 (v / 65536 % 256))

/-- A START of operation `id` has been evaluated on axis n (14 R338): the last one ends the operation. -/
def Lane.startResult (l : Lane) (id : Option Nat) (n reason : Nat) : Lane :=
  match id with
  | none => l
  | some i =>
    match l.hr.pendOps.find? fun p => p.cmdIdx == i && p.ctype == 2 && p.open_.testBit n with
    | none => l
    | some p =>
      let p := { p with open_ := p.open_ &&& (63 - 2 ^ n), result := startBytes p.result n reason }
      if p.open_ = 0 then l.endOp p 0 false false
      else { l with hr := { l.hr with pendOps := l.hr.pendOps.map fun q => if q.cmdIdx = i then p else q } }

/-- The lane ceases to be ACTIVE: STARTs that await their cut-off complete HELD (14 R338), and the miss counters clear
(05 R128). -/
def Lane.holdStarts (l : Lane) : Lane :=
  let l : Lane := { l with cm := l.cm.map fun (a : CmAxis) =>
    { a with starts := [], pm := .replicate 3 0, pmSeen := .replicate 3 0, pmMax := .replicate 3 0, pmOver := .replicate 3 false } }
  (l.hr.pendOps.filter fun (p : PendOp) => p.ctype == 2).foldl (fun l p => l.endOp p 1 false true) l

/-- The index word of Table 14.3 (14 R326). -/
def indexWord (i : Nat) : Word := pack [(65535 - i % 65536, 16), (i % 65536, 0)]

/-- The index block (14 Table 14.3). -/
def Lane.indexBlock (l : Lane) : List Word :=
  (List.range 4).map (fun k => indexWord (l.ring k).dev) ++
    [stampOf l.wns, BitVec.ofNat 32 (secOf l.wns), l.roleWord, BitVec.ofNat 32 l.hr.ixCount] ++ List.replicate 8 0

/-- The index block is written, and the vectors of the changes it first shows fire (14 R331, R332, R342). -/
def Lane.writeIndex (l : Lane) : Lane :=
  if !l.canIssue then l
  else
    let news := l.hr.indexNews
    let l := l.hostSend (.index l.indexBlock)
    let l := { l with hr := { l.hr with ixCount := (l.hr.ixCount + 1) % 2 ^ 32, uncovered := none, indexNews := 0 } }
    l.each (members news 4) fun l v => l.msix v

/-- OUTBOUND_WRITE: the oldest staged descriptor whose ring has room is written to its slot, and PI advances (14 R331). -/
def opOutbound (l : Lane) : Lane :=
  if !l.canIssue then l
  else
    match l.hr.staged.find? fun d =>
        let r := l.ring d.ring
        l.ringOn d.ring && decide ((r.dev + 65536 - r.host) % 65536 < l.ringN d.ring) with
    | none => l
    | some d =>
      let r := l.ring d.ring
      let l := l.hostSend (.desc d.ring (r.dev % l.ringN d.ring) d.bytes)
      let l := l.modRing d.ring fun r => { r with dev := (r.dev + 1) % 65536 }
      let l := { l with hr := { l.hr with
        staged := l.hr.staged.erase d,
        uncovered := some (l.hr.uncovered.getD l.now),
        indexNews := l.hr.indexNews ||| 2 ^ (d.ring - 1) } }
      Lane.drainEvt 257 l

/-- INDEX_BLOCK_TIMER: 500 cycles after the first outbound write that no index block covers (14 R331). -/
def opIndexTimer (l : Lane) : Lane :=
  match l.hr.uncovered with
  | some t => if elapsed l.now t 500 then l.writeIndex else l
  | none => l

/-- MSIX_MODERATION_EXPIRY: IMOD of vector v ends with an event held back (14 R342). -/
def opModeration (l : Lane) (v : Nat) : Lane :=
  if l.hr.msixLate.getLsbD v && !l.moderated v then
    ({ l with hr := { l.hr with msixLate := l.hr.msixLate &&& ~~~(BitVec.ofNat 16 (2 ^ v)) } }).msix v
  else l

/-- A vector that is unmasked sends what it kept pending, as the PCI Express specification lays down (14 R346; log 17). -/
def Lane.unmasked (l : Lane) (v : Nat) : Lane :=
  if l.hr.msixPend.getLsbD v && !l.vecMasked v then
    ({ l with hr := { l.hr with msixPend := l.hr.msixPend &&& ~~~(BitVec.ofNat 16 (2 ^ v)) } }).msix v
  else l

end Sys2Proof.Machine
end

