-- ==== Sys2Proof/Machine/Ops.lean ====
section
/-! DEFINITION. Shared operations: words for the Runner port (07 R161 to R164), giving up the token (08 R196), triggers and
deferred causes (08 R196, R197), and replacement requests (08 R191). -/

namespace Sys2Proof.Machine

/-- Even parity in bit 0 of a Runner word (07 Table 7.2). -/
def withParity (n : Nat) : Word :=
  let ones := ((List.range 31).filter fun i => n.testBit (i + 1)).length
  BitVec.ofNat 32 (n / 2 * 2 + ones % 2)

/-- A Runner word (07 Table 7.2): GATE, LVL, TS in cycles and TAP. -/
def runnerWord (gate : Nat) (lvl : Bool) (ts tap : Nat) : Word :=
  withParity (gate * 2 ^ 26 + b2n lvl * 2 ^ 25 + ts % 2 ^ 20 * 2 ^ 5 + tap % 16 * 2)

/-- The key that orders ordinary words: timestamp and tap (07 R163). -/
def PortWord.key (p : PortWord) : Nat := 16 * p.ts.getD 0 + field p.word 1 4

/-- A word put in order of timestamp and tap, ties in the order formed (07 R163). -/
def putOrdered (p : PortWord) : List PortWord → List PortWord
  | [] => [p]
  | q :: t => if p.key < q.key then p :: q :: t else q :: putOrdered p t

/-- A class-1 word is formed (07 R163). -/
def Lane.sendFirst (l : Lane) (w : Word) : Lane :=
  { l with port := { l.port with c1 := l.port.c1 ++ [{ word := w, ts := none }] } }

/-- A command word is formed for an instant in sixteenths (07 R161, R163): urgent below 700 cycles of lead, else ordinary. TS
counts CLK from the lane's reset release. -/
def Lane.sendGate (l : Lane) (gate : Nat) (on : Bool) (t16 : Nat) : Lane :=
  let p : PortWord := { word := runnerWord gate on (t16 / 16 - l.relAt) (t16 % 16), ts := some (t16 / 16) }
  if t16 / 16 < l.now + 700 then { l with port := { l.port with c2 := l.port.c2 ++ [p] } }
  else { l with port := { l.port with c3 := putOrdered p l.port.c3 } }

/-- A TOKEN raise for T_r (07 Table 7.4). -/
def Lane.sendRaise (l : Lane) (tr : Nat) : Lane :=
  let p : PortWord := { word := runnerWord 62 true (tr - l.relAt) 5, ts := some tr }
  { l with port := { l.port with c3 := putOrdered p l.port.c3 } }

/-- The TOKEN drop word (07 Table 7.4). -/
def dropWord : Word := runnerWord 62 false 0x5A5A5 10

/-- A queued word is a TOKEN raise (07 Table 7.4). -/
def PortWord.isRaise (p : PortWord) : Bool := field p.word 26 6 == 62 && bit p.word 25

/-- A SAFE word with its masks (07 Table 7.4). -/
def safeWord (enter leave : Nat) : Word := withParity (60 * 2 ^ 26 + leave % 64 * 2 ^ 11 + enter % 64 * 2 ^ 5)

/-- The drop word is sent (07 R163): it goes ahead of every other word, and a raise that still waits in the port is taken back, so
that none follows the drop (08 R201). -/
def Lane.sendDrop (l : Lane) : Lane :=
  let l : Lane := { l with port := { l.port with
    c2 := l.port.c2.filter fun p => !p.isRaise, c3 := l.port.c3.filter fun p => !p.isRaise } }
  l.sendFirst dropWord

/-- A SAFE word is sent (07 R162, R163). -/
def Lane.sendSafe (l : Lane) (enter leave : Nat) : Lane := l.sendFirst (safeWord enter leave)

/-- An ISOLATE word is sent (07 Table 7.4). -/
def Lane.sendIsolate (l : Lane) (enter : Bool) : Lane := l.sendFirst (runnerWord 57 enter 0 0)

/-- The two CFG words of shadow word INDEX, low half first (07 Table 7.4, R184). -/
def cfgWords (index : Nat) (v : Word) : List PortWord :=
  [false, true].map fun hi =>
    let half := if hi then v.toNat / 65536 else v.toNat % 65536
    { word := withParity (59 * 2 ^ 26 + index * 2 ^ 21 + half * 2 ^ 5 + b2n hi * 2), ts := none }

/-- The indices of the configuration shadow that hold a word (07 R184): the writable GD_ registers, and GD_CLASS. -/
def shadowIndices : List Nat := [0, 2, 3, 4, 5, 6, 7, 11, 16, 17, 18, 19, 20, 21]

/-- The lane die's value of shadow word INDEX (07 R184). -/
def Lane.shadowWord (l : Lane) (i : Nat) : Word :=
  if i = 11 then pack [(l.fld Reg.LN_AXCFG 0 18, 0)] else l.reg (0x4000 + 4 * i)

/-- The INDEX of GD_FCLR (07 Table 7.4, Table 7.22). -/
def fclrIndex : Nat := 10

/-- The CFG words of a write of GD_FCLR are queued (07 R184); the register holds nothing, so no CRC covers it (log 35). -/
def Lane.sendFclr (l : Lane) (v : Word) : Lane :=
  { l with port := { l.port with c4 := l.port.c4 ++ cfgWords fclrIndex (v &&& 3) } }

/-- The CFG words of one register are queued (07 R184). -/
def Lane.sendCfg (l : Lane) (i : Nat) : Lane :=
  { l with port := { l.port with c4 := l.port.c4 ++ cfgWords i (l.shadowWord i) } }

/-- The whole shadow is queued, as after each alignment (07 R184). -/
def Lane.sendAllCfg (l : Lane) : Lane := l.each shadowIndices Lane.sendCfg

/-- CLASS of a cause code (08 Tables 8.3, 8.4, 8.12). -/
def causeClass (code : Nat) : Nat :=
  match code with
  | 0x05 | 0x11 => 2
  | 0x06 => 4
  | 0x12 | 0x13 => 3
  | 0x16 => 0
  | _ => 1

/-- The class of an item (08 Tables 8.12, 8.22): that of its cause, and for a lost path the path, 5 to 7 (log 19). -/
def itemClass (code detail : Nat) : Nat := if code = 0x13 then 5 + detail % 3 else causeClass code

/-- The axis that an item names, 7 for the whole lane (08 Table 8.22): a gate's axis, or the axis of the detail. -/
def causeAxis (code detail : Nat) : Nat :=
  match code with
  | 0x05 => if detail < 36 then detail / 6 else 7
  | 0x11 | 0x12 => if detail < 6 then detail else 7
  | _ => 7

/-- The item of a cause in lane `x` (08 Table 8.22). -/
def itemOf (x code detail : Nat) : Nat := x * 64 + itemClass code detail * 8 + causeAxis code detail

/-- LEVEL that a condition gives (08 R191): SOON, URGENT, QUENCHED. -/
def levelOf (cond : Nat) : Nat := max 1 cond

/-- A replacement request (08 R191, Table 8.22): the first and the second item are listed, and the level follows the
condition. -/
def Lane.request (l : Lane) (item : Nat) : Lane :=
  let known := l.ln.level != 0 && (l.ln.item1 == item || l.ln.item2 == item)
  let lvl := max l.ln.level (levelOf l.ln.cond)
  if known && lvl == l.ln.level then l
  else
    let l := { l with ln := { l.ln with
      level := lvl,
      item1 := if l.ln.level = 0 then item else l.ln.item1,
      item2 := if l.ln.level = 0 then 0 else if known ∨ l.ln.item2 ≠ 0 then l.ln.item2 else item } }
    (l.event Reg.LN_REPLACE 0).flag Reg.LN_STATUS Bit.LN_REPLACE

/-- LN_CAUSE and the ITEM of heartbeats take a cause (08 Tables 8.6, 8.21). -/
def Lane.setCause (l : Lane) (code detail : Nat) : Lane :=
  { l with ln := { l.ln with code := code, cls := causeClass code, detail := detail % 256,
                             item := itemOf l.id.num code detail } }

/-- The line leaves HOLD or CLAIM and the drop word goes out (08 R196, R201): TOKEN_DROPPED where the token counted as held,
else CLAIM_CANCELLED. A LEAVE that the lane owed at T_r stays owed (08 R210). -/
def Lane.dropToken (l : Lane) : Lane :=
  match l.ln.line with
  | .idle | .silent => l
  | .claim =>
    let l := if l.ln.forHandover then l.sendDrop else l
    let l := { l with ln := { l.ln with line := .idle, tr := none, forHandover := false,
                                        cancelled := satAdd 0xFF l.ln.cancelled 1 } }
    l.flag Reg.LN_STATUS Bit.LN_CLAIM_CANCELLED
  | .hold =>
    let was := l.ln.held
    let l := l.sendDrop
    let l := { l with ln := { l.ln with
      line := .idle, held := false, tr := none, holdSince := 0, handover := none, splitAt := none,
      promoting := none, holder := if l.ln.holder = l.id.num then 3 else l.ln.holder, releaseAt := some l.now,
      cancelled := if was then l.ln.cancelled else satAdd 0xFF l.ln.cancelled 1 } }
    let l := l.flag Reg.LN_STATUS (if was then Bit.LN_TOKEN_DROPPED else Bit.LN_CLAIM_CANCELLED)
    if was then l.holdStarts else l

/-- The loops of a lane that neither drives nor shadows stop (08 Table 8.1): its axes are IDLE. -/
def Lane.stopShadow (l : Lane) : Lane :=
  { l with
    cm := l.cm.map fun (a : CmAxis) => { a with drive := false, ds := none, periods := [], stopAt := none, starts := [] },
    le := { l.le with axis := l.le.axis.map fun (x : LoopAxis) => { x with waiting := false, flight := none } } }

/-- The lane becomes WITHDRAWN (08 R196): the gate-drive die is isolated. -/
def Lane.withdraw (l : Lane) : Lane :=
  let l := (l.sendIsolate true).stopShadow
  { l with ln := { l.ln with role := .withdrawn, handover := none, deferred := none } }

/-- The flag that the EVT record of a trigger names: the token dropped or the claim cancelled, else REPLACE (log 18). -/
def dropFlag (held claimed : Bool) : Nat :=
  if held then Bit.LN_TOKEN_DROPPED else if claimed then Bit.LN_CLAIM_CANCELLED else Bit.LN_REPLACE

/-- A trigger of Table 8.3 (08 R196): FAILED, the token dropped, isolated, WITHDRAWN, LN_CAUSE, an EVT record and a
request. Of triggers in one cycle LN_CAUSE takes the lowest code (10 Table 10.8). -/
def Lane.trigger (l : Lane) (code detail : Nat) : Lane :=
  let was := l.ln.failed
  let f := dropFlag (l.ln.line == .hold && l.ln.held) (l.ln.line == .hold || l.ln.line == .claim)
  let first := l.ln.trigAt != some l.now || decide (code < l.ln.code)
  let l := { l with ln := { l.ln with failed := true, trigAt := some l.now } }
  let l := if first then l.setCause code detail else l
  let l := l.dropToken
  let l := if l.ln.role == .withdrawn then l else l.withdraw
  let it := itemOf l.id.num code detail
  let l := if was && l.ln.level != 0 && (l.ln.item1 == it || l.ln.item2 == it) then l else l.request it
  l.evt 0x12 f 255

/-- The IMPAIRED bit of a deferred cause, if its result is IMPAIRED (08 Table 8.4). -/
def impairs (code : Nat) : Bool := code == 0x12 || code == 0x13 || code == 0x14 || code == 0x15 || code == 0x17

/-- The deferred cause withdraws its lane (08 Table 8.4). -/
def withdraws (code : Nat) : Bool := code == 0x10 || code == 0x11

/-- The Riser ports that Shakeout has not marked unusable, as a mask: port k leads to peer k (11 Table 11.2, log 21). -/
def Lane.riserPorts (l : Lane) : Nat := maskOf 2 fun k => !l.ts.unusable.testBit (3 + k)

/-- T_h: the first period start of TAXIS at least 1,024 cycles ahead, and the HANDOVER frame that carries it (08 R197). -/
def Lane.startHandover (l : Lane) (code : Nat) : Lane :=
  let th := l.periodStartOr l.taxis (l.now + 1024)
  { l with ln := { l.ln with
    handover := some { code := code, th := th, claimed := false }, deferred := none,
    sent := l.ln.sent ++ [.handover l.riserPorts (l.wclkAt th)] } }

/-- The health that a deferred cause gives (08 R189, Table 8.4). -/
def Lane.impair (l : Lane) (code : Nat) : Lane :=
  if withdraws code then { l with ln := { l.ln with failed := true } }
  else if impairs code then
    { l with ln := { l.ln with impaired := l.ln.impaired ||| BitVec.ofNat 8 (2 ^ (code - 0x10)) } }
  else l

/-- What follows a deferred cause in a lane without the token (08 R197, Table 8.2): WITHDRAWN, or SPARE for a STANDBY. -/
def Lane.settleRole (l : Lane) : Lane :=
  if l.ln.failed then (if l.ln.role == .withdrawn then l else l.dropToken.withdraw)
  else if l.ln.impaired != 0 then
    let l := if l.ln.line == .claim then l.dropToken else l
    if l.ln.role == .standby then { l with ln := { l.ln with role := .spare, axisGot := 0, laneGot := false } } else l
  else l

/-- A deferred cause of Table 8.4 (08 R197): a controlled handover where the lane holds the token and hears a HEALTHY
STANDBY; it waits for one where it hears none; at once in a lane without the token. -/
def Lane.deferCause (l : Lane) (code detail : Nat) : Lane :=
  let l := (l.setCause code detail).impair code
  let l := if code = 0x16 then l else l.request l.ln.item
  if l.ln.line == .hold then
    if l.ln.handover.isSome then l
    else if l.standbyPeer.isSome then l.startHandover code
    else { l with ln := { l.ln with deferred := some code } }
  else l.settleRole

/-- A cause whose result is IMPAIRED has cleared (08 R189). A HEALTHY holder no longer owes a handover for it (log 19). -/
def Lane.clearCause (l : Lane) (code : Nat) : Lane :=
  let left := l.ln.impaired &&& ~~~(BitVec.ofNat 8 (2 ^ (code - 0x10)))
  { l with ln := { l.ln with
    impaired := left,
    deferred := l.ln.deferred.filter fun c => !impairs c || l.ln.failed || left != 0 } }

/-- A write refused with a reason (16 R387): counted, captured, no EVT record and no vector. -/
def Lane.refuse (l : Lane) (host : Bool) (off reason : Nat) : Lane :=
  let l := { l with sys := { l.sys with
    refReason := reason, refInternal := !host, refOff := off % 65536, refused := satAdd 0xFFFF l.sys.refused 1 } }
  l.flag Reg.SYS_LSTATUS Bit.SYS_WRITE_REFUSED

end Sys2Proof.Machine
end

