-- ==== Sys2Proof/Machine/LoopEngine.lean ====
section
/-! DEFINITION. The loop engines: the stage chain of a pass, the START preset, banks and clears (06). -/

namespace Sys2Proof.Machine

/-- A mantissa of bank b of axis n at the exponent word ew (06 R147). -/
def Lane.coef (l : Lane) (n b w ew : Nat) : Frac :=
  bfVal (signed 24 (field (l.coefWord n b w) 0 24)) (signed 6 (field (l.coefWord n b ew) 0 6))

/-- VNOM of bank b (06 Table 6.4). -/
def Lane.vnom (l : Lane) (n b : Nat) : Nat := field (l.coefWord n b 0x52) 0 18

/-- Bank b of axis n is EMPTY (06 R149). -/
def Lane.bankEmpty (l : Lane) (n b : Nat) : Bool := l.le.empty.getLsbD (2 * n + b)

/-- q = VNOM / VDC with its own rounding, and whether VDC_BAD is set (06 R144). -/
def Lane.qOf (l : Lane) (n b : Nat) : Frac × Bool :=
  let cfg := l.reg (Reg.LE_CFG n)
  if !bit cfg 5 ∨ l.vnom n b = 0 then (.ofInt 1, false)
  else
    let w := l.res 0 (field cfg 0 5)
    let v := signed 18 (field w 0 18)
    if !bit w 31 ∨ v ≤ 0 then (.ofInt 1, true)
    else
      let q : Frac := ⟨l.vnom n b, v.toNat⟩
      let q' := Frac.clamp ⟨1, 4⟩ ⟨4, 1⟩ q
      (quant24 q', q.lt ⟨1, 4⟩ || Frac.lt ⟨4, 1⟩ q)

/-- The outer position loop runs in a pass (06 R146). -/
def Lane.outer (l : Lane) (n : Nat) : Bool := l.rbit (Reg.LE_CFG n) 31 && (l.cls n == 1 || l.cls n == 2)

/-- What stage 0 hands on: TGT, the mantissa of IO, E0, OSATDIR, its flags and an overflow (06 R140). -/
structure Outer where
  tgt : Int
  io : Int
  e0 : Int
  osat : Int
  flags : Nat
  ovf : Nat

/-- Stage 0 (06 R140, R141, 09 R226): skipped where RAMP was in force at the LOOP_START and while TGT rests at 0 after a RESUME
(09 R229), held on a faulted counter. -/
def stage0 (l : Lane) (n b : Nat) : Outer :=
  let x := l.loopOf n
  let a := l.axis n
  let e0 := vget x.st.e 0 (-32)
  let keep : Outer := { tgt := x.spared.getD x.tgt, io := x.st.io, e0 := e0, osat := x.st.osatDir, flags := 0, ovf := 0 }
  if x.ramping ∨ x.rest then { keep with tgt := 0 }
  else if !l.outer n then keep
  else if (l.unit n).cntFault then { keep with tgt := 0, flags := 2 ^ Bit.LE_POS_LOST }
  else
    let vmax := Frac.ofInt (l.fld (Reg.LE_VMAX n) 0 24)
    let ep := Frac.ofInt (x.psp - (l.apos n).toInt)
    let inc := (l.coef n b 0x54 0x55).mul ep
    let stop := (x.st.osatDir != 0 && inc.sign == x.st.osatDir) || (a.limited && inc.sign == sgn a.ref)
    let io0 := bfVal x.st.io e0
    let io := if stop then io0 else Frac.clamp vmax.neg vmax (io0.add inc)
    let w := ((l.coef n b 0x53 0x55).mul ep).add io
    let bd := l.wBounds n
    let hi := Frac.ofInt bd.2
    let lo := Frac.ofInt bd.1
    let osat := if hi.lt w then 1 else if w.lt lo then -1 else 0
    let blk := renorm [Frac.clamp lo hi w, io]
    { tgt := (blk.val 0).round 256, io := blk.mant 1, e0 := blk.e, osat := osat,
      flags := if osat = 0 then 0 else 2 ^ Bit.LE_OSAT, ovf := b2n blk.ovf }

/-- ACC or DEC per pass in counts/s with 8 fraction bits: rate × PER / 250,000, to nearest (05 R126; log 12). -/
def Lane.perPass (l : Lane) (n rate : Nat) : Int := rdiv (rate * l.per n * 256 : Nat) 250000

/-- One step of the ramp toward the setpoint (05 R126). -/
def ramp (acc dec ref tgt : Int) : Int :=
  if ref = 0 ∨ sgn ref = sgn tgt then
    if (ref.natAbs : Int) ≤ tgt.natAbs then ref + sgn tgt * min acc ((tgt.natAbs : Int) - ref.natAbs)
    else ref - sgn ref * min dec ((ref.natAbs : Int) - tgt.natAbs)
  else ref - sgn ref * min dec ref.natAbs

/-- Stage 1: REF, LIMITED and LIMKIND after the ramp (05 R126, R127; 09 R226 puts STOPDEC in place of DEC). -/
def stage1 (l : Lane) (n : Nat) (tgt : Int) : Int × Bool × Nat :=
  let a := l.axis n
  let free := a.limited && (decide (tgt.natAbs < a.ref.natAbs) || decide (sgn tgt * sgn a.ref < 0))
  let lim := a.limited && !free
  let smax := 256 * l.fld (Reg.CM_SMAX n) 0 24
  let dec := if (l.loopOf n).ramping then max 1 (l.fld (Reg.SF_RATE n) 0 16) else l.fld (Reg.CM_DEC n) 0 24
  let ref := if lim then a.ref
    else ramp (l.perPass n (l.fld (Reg.CM_ACC n) 0 24)) (l.perPass n dec) a.ref tgt
  (clampAbs smax ref, lim, if lim then a.limKind else 0)

/-- The gain K of the table at |ERR| (06 R140, R142). -/
def Lane.gain (l : Lane) (n b : Nat) (err : Frac) : Frac :=
  let esh := min 23 (field (l.coefWord n b 0x40) 8 5)
  let x : Frac := ⟨err.num.natAbs, err.den * 2 ^ esh⟩
  let i := x.num.natAbs / x.den
  let t := fun k => l.coef n b k 0x40
  if 63 ≤ i then t 63 else (t i).add ((x.sub (.ofInt i)).mul ((t (i + 1)).sub (t i)))

/-- One notch biquad, transposed direct form II: output and new states; a disabled one passes its input (06 R140, R143). -/
def notch (l : Lane) (n b base : Nat) (on : Bool) (x s1 s2 : Frac) : Frac × Frac × Frac :=
  if !on then (x, .ofInt 0, .ofInt 0)
  else
    let c := fun k => l.coef n b (base + k) 0x4E
    let y := ((c 0).mul x).add s1
    (y, (((c 1).mul x).sub ((c 3).mul y)).add s2, ((c 2).mul x).sub ((c 4).mul y))

/-- A pass of the stage chain on the lane as it stands (06 R135, R140): what it will have formed at its end. -/
def passRun (l : Lane) (n b : Nat) (capS capL jit : Nat) : PassOut :=
  let x := l.loopOf n
  let cfg := l.reg (Reg.LE_CFG n)
  let spd := l.speed n
  let o := stage0 l n b
  let r := stage1 l n o.tgt
  let ref := r.1
  let lim := r.2.1
  let b1 := renorm [⟨ref, 256⟩]
  let spdv := quant24 ⟨spd, 256⟩
  let b2 := renorm [(b1.val 0).sub spdv]
  let err := b2.val 0
  let b3 := renorm [(l.gain n b err).mul err]
  let g := b3.val 0
  -- stage 4
  let i0 := bfVal x.st.i (vget x.st.e 4 (-32))
  let inc := (l.coef n b 0x42 0x43).mul g
  let stop := lim || (x.st.satDir != 0 && inc.sign == x.st.satDir)
  let i1 := if stop then i0 else i0.add inc
  let isat := !stop && Frac.lt ⟨2, 1⟩ i1.abs
  let i2 := if isat then Frac.ofInt (2 * i1.sign) else i1
  let b4 := renorm [((l.coef n b 0x41 0x43).mul g).add i2, i2]
  -- stage 5
  let s := fun k => bfVal (vget x.st.notch k 0) (vget x.st.e 5 (-32))
  let n1 := notch l n b 0x44 (bit cfg 29) (b4.val 0) (s 0) (s 1)
  let n2 := notch l n b 0x49 (bit cfg 28) n1.1 (s 2) (s 3)
  let b5 := renorm [n2.1, n1.2.1, n1.2.2, n2.2.1, n2.2.2]
  -- stage 6
  let q := l.qOf n b
  let b6 := renorm [(b5.val 0).add (((l.coef n b 0x50 0x51).mul spdv).mul q.1)]
  let v := b6.val 0
  -- stage 7
  let dmax := l.fld (Reg.CM_DUTY n) 16 16
  let dmin := l.fld (Reg.CM_DUTY n) 0 16
  let ilim := l.fld (Reg.LE_ILIM n) 0 18
  let idc := (l.resVal 0 (field cfg 8 5)).natAbs
  let cur := ilim != 0 && decide (ilim < idc)
  let lc : Frac := ⟨max dmin x.st.dprev.natAbs * ilim, idc * 32768⟩
  let ld : Frac := ⟨dmax, 32768⟩
  let lv := if cur then Frac.min ld lc else ld
  let sat := lv.lt v.abs
  let u7 := if sat then (Frac.ofInt v.sign).mul lv else v
  let b7 := renorm [u7]
  let d := dutyOf (b7.val 0)
  let satDir := if sat then v.sign else 0
  let ovf := o.ovf + b2n b1.ovf + b2n b2.ovf + b2n b3.ovf + b2n b4.ovf + b2n b5.ovf + b2n b6.ovf + b2n b7.ovf
  { st := { i := b4.mant 1, io := o.io,
            notch := .ofFn fun k => b5.mant (k.val + 1),
            e := .ofFn fun k => [o.e0, b1.e, b2.e, b3.e, b4.e, b5.e, b6.e, b7.e].getD k.val (-32),
            satDir := satDir, osatDir := o.osat, dprev := d, duty := d, curLim := sat && cur && lc.lt ld },
    tgt := o.tgt, psp := x.psp, spd := spd, apos := l.apos n, ref := ref, limited := lim, limKind := r.2.2,
    volt := Frac.lt ld v.abs,
    flags := o.flags + b2n q.2 * 2 ^ Bit.LE_VDC_BAD + b2n cur * 2 ^ Bit.LE_CUR_LIMIT +
      b2n (decide (0 < ovf)) * 2 ^ Bit.LE_OVF + b2n isat * 2 ^ Bit.LE_ISAT + b2n sat * 2 ^ Bit.LE_SAT,
    ovf := ovf, jit := jit, capS := capS, capL := capL, shadow := !l.isActive }

/-- A pass whose active bank is EMPTY: D = 0 and SATDIR = 0, no stage (06 R149). -/
def passEmpty (l : Lane) (n : Nat) (capS capL jit : Nat) : PassOut :=
  let x := l.loopOf n
  let a := l.axis n
  { st := { x.st with satDir := 0, duty := 0, curLim := false }, tgt := x.tgt, psp := x.psp, spd := l.speed n,
    apos := l.apos n, ref := a.ref, limited := a.limited, limKind := a.limKind, volt := false,
    flags := 2 ^ Bit.LE_BANK_EMPTY, ovf := 0, jit := jit, capS := capS, capL := capL, shadow := !l.isActive }

/-- I, IO and the notch states cleared at exponent −32 (06 R153). -/
def Stages.cleared (s : Stages) : Stages :=
  { s with i := 0, io := 0, notch := .replicate 4 0,
           e := ((s.e.set 0 (-32)).set 4 (-32)).set 5 (-32) }

/-- The mirror record of axis n adopted at a pass start (06 R154). A mirrored PSP counts as received where the record carries the
stamp of the setpoint (06 R152, log 19). -/
def Lane.adoptPass (l : Lane) (n : Nat) : Lane :=
  match vget l.ln.axisRec n none with
  | none => l
  | some r =>
    let l := { l with ln := { l.ln with axisRec := vmod l.ln.axisRec n fun _ => none } }
    let l := l.modLoop n fun x =>
      { x with tgt := r.tgt, psp := r.psp, pspSeen := x.pspSeen || r.pspStamp.isSome, tgtStamp := r.tgtStamp, pspStamp := r.pspStamp,
               st := { x.st with i := r.i, io := r.io, notch := r.notch,
                                 e := ((x.st.e.set 4 r.e4).set 0 r.e0).set 5 r.e5 } }
    l.modAxis n fun a => { a with ref := r.ref, limited := r.limited, limKind := r.limKind }

/-- The stamp `own` is later than the stamp `mir` at this lane's WCLK (08 R207); a mirrored setpoint without a stamp is
the earlier one. -/
def Lane.later (l : Lane) (own : Word) (mir : Option Word) : Bool :=
  match mir with
  | none => true
  | some m => decide (expandStamp l.wns m < expandStamp l.wns own)

/-- The first pass of a lane that has become ACTIVE takes a command it accepted itself where its stamp is later (08 R207). -/
def Lane.chooseSetpoint (l : Lane) (n : Nat) : Lane :=
  if !l.isActive then l
  else
    let x := l.loopOf n
    let l := match x.heldTgt with
      | some (v, st) => if l.later st x.tgtStamp then l.storeTgt n v (some st) else l
      | none => l
    let l := match x.heldPsp with
      | some (v, st) => if l.later st x.pspStamp then l.storePsp n v (some st) else l
      | none => l
    l.modLoop n fun x => { x with heldTgt := none, heldPsp := none }

/-- The result that the pass of axis n waits for has been written since the previous pass start and is presented
(06 R133, 01 R34, R35): 2 cycles after the write. -/
def Lane.resultFresh (l : Lane) (n : Nat) : Bool :=
  let cfg := l.reg (Reg.LE_CFG n)
  if !bit cfg 13 then true
  else
    let t := l.resAt 0 (field cfg 8 5)
    t != 0 && decide (t + 2 ≤ l.now) &&
      (match (l.loopOf n).passAt with | none => true | some p => decide (p < t))

/-- PASS_START: an armed pass whose result is presented latches its inputs and runs (06 R133, R134). -/
def opPassStart (l : Lane) (n : Nat) : Lane :=
  if !((l.axis n).drive && (l.loopOf n).waiting && l.resultFresh n) then l
  else
    let l := (l.adoptPass n).chooseSetpoint n
    let x := l.loopOf n
    let b := l.fld (Reg.LE_BANK n) 0 1
    let l := l.modLoop n fun x =>
      { x with waiting := false, passAt := some l.now, bank := b, zero := false,
               st := if x.zero then x.st.cleared else x.st }
    let l := if b != x.bank then l.flag (Reg.LE_STATUS n) Bit.LE_BANK_SWITCHED else l
    let jit := field (l.res 0 (l.fld (Reg.LE_CFG n) 8 5)) 18 8
    let capS := vget l.tl.capS n 0
    let capL := vget l.tl.capL n 0
    if l.bankEmpty n b then
      let l := if x.emptyTold then l else l.evt 0x0C Bit.LE_BANK_EMPTY n
      l.modLoop n fun x => { x with flight := some (passEmpty l n capS capL jit), emptyTold := true }
    else l.modLoop n fun x => { x with flight := some (passRun l n b capS capL jit) }

/-- The end of a pass: its states, registers, flags and counters (06 R140, Tables 6.15 to 6.20). -/
def Lane.passDone (l : Lane) (n : Nat) (p : PassOut) : Lane :=
  let l := l.modLoop n fun x =>
    { x with st := p.st, usedTgt := p.tgt, usedPsp := p.psp, flight := none, last := some p,
             passes := (x.passes + 1) % 0x10000, ovf := satAdd 0xFF x.ovf p.ovf,
             satPass := satAdd 0xFF x.satPass (b2n (p.st.satDir != 0)) }
  let l := l.modAxis n fun a => { a with ref := p.ref, limited := p.limited, limKind := p.limKind }
  if p.flags = 0 then l else l.event (Reg.LE_STATUS n) p.flags

/-- The loop states cleared where a STOP or SAFE takes effect (06 R153); a pass in flight does not commit. -/
def Lane.loopStop (l : Lane) (n : Nat) : Lane :=
  let l := l.modLoop n fun x =>
    { x with st := { x.st.cleared with satDir := 0, osatDir := 0, dprev := 0 }, waiting := false, flight := none,
             rest := false }
  l.modAxis n fun a => { a with ref := 0, limited := false, limKind := 0 }

/-- A ZERO for axis n waits for its next pass start (06 R153). -/
def Lane.loopZero (l : Lane) (n : Nat) : Lane := l.modLoop n fun x => { x with zero := true }

/-- The steady state of one notch for a constant input (06 R152): output and states. -/
def notchSteady (l : Lane) (n b base : Nat) (on : Bool) (x : Frac) : Frac × Frac × Frac :=
  if !on then (x, .ofInt 0, .ofInt 0)
  else
    let c := fun k => l.coef n b (base + k) 0x4E
    let den := ((Frac.ofInt 1).add (c 3)).add (c 4)
    let g := if den.num = 0 then Frac.ofInt 1 else ((((c 0).add (c 1)).add (c 2))).div den
    let y := g.mul x
    (y, y.sub ((c 0).mul x), ((c 2).mul x).sub ((c 4).mul y))

/-- The preset at an accepted START with the speed v (06 R152), from the bank that the next pass uses; a block that overflows
counts (06 R138). -/
def Lane.loopPreset (l : Lane) (n : Nat) (v : Int) : Lane :=
  let b := l.fld (Reg.LE_BANK n) 0 1
  let cfg := l.reg (Reg.LE_CFG n)
  let q := l.qOf n b
  let vq := (quant24 ⟨v, 256⟩).mul q.1
  let ke := l.coef n b 0x4F 0x51
  let i := Frac.clamp ⟨-2, 1⟩ ⟨2, 1⟩ ((ke.sub (l.coef n b 0x50 0x51)).mul vq)
  let n1 := notchSteady l n b 0x44 (bit cfg 29) i
  let n2 := notchSteady l n b 0x49 (bit cfg 28) n1.1
  let b4 := renorm [i]
  let b5 := renorm [n2.1, n1.2.1, n1.2.2, n2.2.1, n2.2.2]
  let ap := (l.apos n).toInt
  let l := l.modLoop n fun x =>
    { x with st := { x.st with i := b4.mant 0, io := 0, notch := .ofFn fun k => b5.mant (k.val + 1),
                               e := ((x.st.e.set 0 (-32)).set 4 b4.e).set 5 b5.e,
                               satDir := 0, osatDir := 0, dprev := dutyOf (ke.mul vq) },
             psp := if x.pspSeen then x.psp else ap, emptyTold := false, waiting := false, flight := none,
             ovf := satAdd 0xFF x.ovf (b2n b4.ovf + b2n b5.ovf) }
  let l := l.modAxis n fun a => { a with ref := v, limited := false, limKind := 0 }
  let fl := 2 ^ Bit.LE_PRESET + b2n q.2 * 2 ^ Bit.LE_VDC_BAD +
    b2n (bit cfg 31 && l.cls n == 3) * 2 ^ Bit.LE_OUTER_IGNORED + b2n (b4.ovf || b5.ovf) * 2 ^ Bit.LE_OVF
  l.event (Reg.LE_STATUS n) fl

/-- The latches of an evaluation (09 R216): the sources of a pass (06 R134), and the SF_ words in force. -/
def Lane.evalLatch (l : Lane) (n : Nat) : EvalLatch :=
  { start := l.now, spd := l.speed n, apos := l.apos n, rev := (l.unit n).cnt.rev,
    spdLost := if l.sect n = 1 then (l.axis n).sectLost else (l.unit n).speedFault (l.fld (Reg.FB_CFG n) 8 2),
    cntLost := (l.unit n).cntFault,
    still := (l.unit n).est.state == .standstill && l.sect n != 1,
    prof := l.profNow, words := .ofFn fun k => l.reg (Reg.SF_CFG n + 4 * k.val), missed := false }

/-- An evaluation of an enabled axis begins at its LOOP_START, in IDLE and in DRIVE (09 R216). -/
def Lane.evalBegin (l : Lane) (n : Nat) : Lane :=
  if l.enabled n then l.modSafety n fun a => { a with pend := some (l.evalLatch n) } else l

/-- A RAMP recorded on the IDLE axis whose violation persists: it applies from the first pass in DRIVE (09 Table 9.5). -/
def Lane.rampRecorded (l : Lane) (n : Nat) : Bool :=
  (List.range 3).any fun f => (l.safetyOf n).recBy.testBit f && l.fld (Reg.SF_CFG n) (22 - 6 * f) 2 == 1

/-- The loop-start event of axis n: TL_CAPL is latched, and in DRIVE the pass is armed; one still waiting is skipped
(01 R34, 06 R133, 02 R61). A RAMP taken in this cycle or later affects the next pass only (09 R226). -/
def Lane.loopStart (l : Lane) (n : Nat) : Lane :=
  let l : Lane := { l with tl := { l.tl with capL := vmod l.tl.capL n fun _ => l.wns } }
  let l := l.evalBegin n
  if !(l.axis n).drive then l.modLoop n fun x => { x with waiting := false }
  else if (l.loopOf n).waiting then
    (l.modLoop n fun x => { x with skipped := satAdd 0xFFFF x.skipped 1 }).flag (Reg.LE_STATUS n) Bit.LE_LOOP_SKIPPED
  else
    let a := l.safetyOf n
    let late := a.ramp && decide (l.now ≤ a.rampAt)
    l.modLoop n fun x =>
      { x with waiting := true, ramping := (a.ramp && !late) || l.rampRecorded n, spared := if late then x.spared else none }

/-- What a bank word keeps of a window write (06 R147). -/
def bankKeep (w : Nat) (v : Word) : Word :=
  if w = 0x40 then v &&& 0x1F3F
  else if w = 0x43 ∨ w = 0x4E ∨ w = 0x51 ∨ w = 0x55 then v &&& 0x3F
  else if w = 0x52 then v &&& 0x3FFFF
  else v &&& 0xFFFFFF

/-- A write of LE_WDATA: the addressed word is stored, or refused for a protected bank (06 R148). -/
def Lane.windowWrite (l : Lane) (v : Word) : Lane :=
  let n := l.fld Reg.LE_WSEL 24 3
  let b := l.fld Reg.LE_WSEL 16 1
  let w := l.fld Reg.LE_WSEL 0 8
  if 6 ≤ n ∨ 0x56 ≤ w then l
  else if (l.axis n).drive && (b == l.fld (Reg.LE_BANK n) 0 1 || b == (l.loopOf n).bank) then
    l.flag Reg.LE_GSTATUS Bit.LEG_WIN_REFUSED
  else
    { l with le := { l.le with banks := fset (fun _ => (0 : Word)) l.le.banks (512 * n + 256 * b + w) (bankKeep w v),
                               empty := l.le.empty &&& ~~~(1#12 <<< (2 * n + b)) } }

end Sys2Proof.Machine
end

