-- ==== Sys2Proof/Machine/Timebase.lean ====
section
/-! DEFINITION. Pattern timebases, wall time and the event table (02). -/

namespace Sys2Proof.Machine

/-- The lane with its timeline changed. -/
def Lane.modTl (l : Lane) (f : Timeline → Timeline) : Lane := { l with tl := f l.tl }

/-- The lane with a Pattern timebase changed. -/
def Lane.modPt (l : Lane) (n : Nat) (f : Pt → Pt) : Lane := l.modTl fun t => { t with pt := vmod t.pt n f }

/-- A timebase `k` cycles of extrapolation later (02 R44): k cycles at once, with HELD where the boundary stops it. -/
def Pt.advance (p : Pt) (scale d : Nat) : Pt :=
  let r := p.rate.natAbs
  if !p.valid ∨ r = 0 ∨ scale = 0 then p
  else
    let k := min d (((scale - p.run) * 256 - 1 - p.acc) / r)
    let tot := p.acc + k * r
    let move := tot / 256
    let a := p.angle.toNat
    let fwd := decide (0 < p.rate)
    { p with acc := tot % 256, run := p.run + move,
             angle := if fwd then p.angle + BitVec.ofNat 32 move else p.angle - BitVec.ofNat 32 move,
             rev := if fwd then p.rev + BitVec.ofNat 16 ((a + move) / 2 ^ 32)
               else if a < move then p.rev - BitVec.ofNat 16 ((move - a + 2 ^ 32 - 1) / 2 ^ 32) else p.rev,
             held := p.held || decide (k < d) }

/-- The entries of a timebase that are armed, in index order (02 R56). -/
def Lane.boundTo (l : Lane) (b : Nat) : List Nat := (l.tl.entries.filter fun e => e.2.on && e.2.base == b).map (·.1)

/-- The entries bound to a timebase are owed a re-prediction: one a cycle in index order, from two cycles later on, changed by
`f` at once (02 R56). -/
def Lane.dirty (l : Lane) (b : Nat) (f : Entry → Entry) : Lane :=
  let ks := l.boundTo b
  l.each (List.range ks.length) fun l i =>
    let k := ks.getD i 0
    l.setEntry k { f (l.entry k) with dirtyAt := some (l.now + 2 + i) }

/-- What a snap that carries a timebase from the place `x` by `d` leaves with an entry bound to it (02 R55, R57, R58): the
occurrences passed, the error of a committed one, and those still spent. While a re-prediction is owed the move counts from the
snap before. -/
def Entry.carried (e : Entry) (hyst at_ : Nat) (dir : Bool) (p0 : Pt) (b : BitVec 48) : Entry :=
  let x := if e.dirtyAt.isSome && !e.fromNow then p0.snapPos else p0.place
  let fwd := if x = b then dir else decide (0 < (b - x).toInt)
  let e := { e with spent := keepSpent hyst dir p0.place e.spent, fromNow := false }
  let hits := if e.permits fwd then e.crossed fwd x (beyond fwd x b).toNat else []
  let done := e.edge.filter fun c => hits.contains c.occ
  let new := hits.filter fun o => done.all fun c => c.occ != o
  { e with spent := keepSpent hyst fwd b (e.spent ++ hits), missed := e.missed ++ new.map fun o => (o, fwd),
           edge := if done.isSome then none else e.edge,
           edgeErr := match done with
             | some c => some (if c.p < 16 * at_ then 16 * at_ - c.p else c.p - 16 * at_)
             | none => e.edgeErr }

/-- REV after a move to another angle the shorter way round (02 R42): a wrap moves it. -/
def Pt.revAt (p : Pt) (a : Word) : BitVec 16 :=
  let d := (a - p.angle).toInt
  if 0 < d ∧ a.toNat < p.angle.toNat then p.rev + 1
  else if d < 0 ∧ p.angle.toNat < a.toNat then p.rev - 1
  else p.rev

/-- A snap of timebase n (02 R43): PT = (COUNT mod CPR) × SCALE + OFFSET. CPR 0 leaves it unsynchronised. -/
def Lane.snapPt (l : Lane) (n : Nat) (count : Int) (rate : Int) : Lane :=
  let cpr := l.fld (Reg.TL_PT_CFG n) 0 16
  if cpr = 0 then l
  else
    let p := l.ptOf n
    let a : Word := BitVec.ofNat 32 ((count % (cpr : Int)).toNat * (l.reg (Reg.TL_PT_SCALE n)).toNat) + l.reg (Reg.TL_PT_OFFSET n)
    let rev := if p.valid then p.revAt a else p.rev
    let l := l.modPt n fun p =>
      { p with valid := true, held := false, angle := a, rev := rev, rate := rate, run := 0, acc := 0, snapAt := l.now,
               snapPos := rev ++ a }
    l.dirty n fun e =>
      if p.valid then e.carried l.hyst l.now (decide (0 < p.rate)) p (rev ++ a) else { e with fromNow := false }

/-- A timebase loses its synchronisation (02 R43): it holds 0 and fires no entry bound to it; REV stays. -/
def Lane.unsyncPt (l : Lane) (n : Nat) : Lane :=
  let l := l.modPt n fun p => { initPt with rev := p.rev }
  l.each (l.boundTo n) fun l k =>
    l.setEntry k { l.entry k with pred := none, dirtyAt := none, missed := [], edge := none, edgeErr := none }

/-- RATE from the speed estimate in counts/s with 8 fraction bits (02 R44): Pattern units per CLK with 8 fraction bits. -/
def Lane.ptRate (l : Lane) (n : Nat) (speed : Int) : Int := rdiv (speed * ((l.reg (Reg.TL_PT_SCALE n)).toNat : Int)) 250000000

/-- The rate of a timebase follows the estimator without a snap (02 R44): at rate 0 no prediction exists (02 R55), and a new
one is made at the next snap (02 R56). -/
def Lane.ratePt (l : Lane) (n : Nat) (rate : Int) : Lane :=
  if (l.ptOf n).rate = rate then l
  else
    let l := l.modPt n fun p => { p with rate := rate }
    if rate ≠ 0 then l
    else l.each (l.boundTo n) fun l k => l.setEntry k { l.entry k with pred := none }

/-- An OFFSET write steps its timebase by the difference (02 R45): occurrences stepped over are spent, predictions of them end. -/
def Lane.stepPt (l : Lane) (n : Nat) (d : Word) : Lane :=
  let p := l.ptOf n
  if !p.valid ∨ d = 0 then l
  else
    let fwd := decide (0 < d.toInt)
    let over_ := fun (e : Entry) => e.crossed fwd p.place d.toInt.natAbs
    let any := (l.boundTo n).any fun k => !(over_ (l.entry k)).isEmpty
    let l := l.modPt n fun p =>
      { p with angle := p.angle + d, rev := p.revAt (p.angle + d), snapPos := p.snapPos + d.signExtend 48 }
    (l.dirty n fun e =>
      let gone := over_ e
      { e with spent := e.spent ++ gone, fromNow := true, pred := e.pred.filter fun q => !gone.contains q.occ,
               edge := e.edge.filter fun c => !gone.contains c.occ }).flagIf any Reg.TL_STATUS Bit.TL_PT_STEPPED

/-- TL_PT_OFFSET_WRITE: the register takes the value and its timebase steps (02 R45). -/
def Lane.offsetWrite (l : Lane) (n : Nat) (v : Word) : Lane :=
  let d := v - l.reg (Reg.TL_PT_OFFSET n)
  (l.setReg (Reg.TL_PT_OFFSET n) v).stepPt n d

/-- A step of WCLK by `d` ns (02 R50): every WCLK-bound target moves by the same amount. -/
def Lane.stepWclk (l : Lane) (d : Int) : Lane :=
  let add := fun (m x : Nat) => (((x : Int) + d * ((m / (2 ^ 48 * 1000000000) : Nat) : Int)) % (m : Int)).toNat
  l.modTl fun t =>
    { t with wclk := add wclkMod t.wclk, added := t.added + d * 2 ^ 32,
             entries := t.entries.map fun ke =>
               if ke.2.base = 8 then
                 (ke.1, { ke.2.withTarget (add (2 ^ 48 * 1000000000) ke.2.target) with
                   sent := ke.2.sent.map (add (2 ^ 48 * 1000000000)) })
               else ke }

/-- e as TL_PPS_ERR holds it, saturating at ±2^31 − 1 (02 Table 2.24). -/
def satErr (e : Int) : Int := clampAbs (2 ^ 31 - 1) e

/-- The base rate learned from two accepted events (02 R48). -/
def Lane.learnRate (l : Lane) (e : Int) (cyc : Nat) (added : Int) : Lane :=
  match l.tl.prevRef with
  | none => l
  | some r =>
    if !l.rbit Reg.TL_WCFG 3 ∨ cyc ≤ r.cycle then l
    else
      let d := (e - r.e) * 2 ^ 32 - (added - r.added)
      let w := clampAbs 3435973 (l.sreg Reg.TL_WRATE - rdiv d (2 * (cyc - r.cycle)))
      l.setReg Reg.TL_WRATE (sword w)

/-- A reference event with error e in ns, captured in cycle `cyc` when slew and steps had added `added` (02 R48). -/
def Lane.refEventAt (l : Lane) (e : Int) (cyc : Nat) (added : Int) : Lane :=
  let l := l.modTl fun t => { t with ppsErr := satErr e }
  let stepped := fun (l : Lane) =>
    (l.stepWclk (-e)).modTl fun t =>
      { t with phaseValid := true, stepArmed := false, refusal := false, pendStep := 0,
               prevRef := none }
  if !l.tl.phaseValid then stepped l
  else if l.tl.stepArmed then stepped l
  else if max 100 (l.reg Reg.TL_TJUMP).toNat < e.natAbs ∧ !l.tl.slewing then
    let l := l.modTl fun t => { t with refusal := true, pendStep := satErr (-e), prevRef := none }
    (l.flag Reg.TL_WSTATUS Bit.TLW_TIME_JUMP_REFUSED).evt 0x04 Bit.TLW_TIME_JUMP_REFUSED 255
  else
    let l := l.learnRate e cyc added
    let small := decide (e.natAbs ≤ max 100 (l.reg Reg.TL_TJUMP).toNat)
    l.modTl fun t =>
      { t with refusal := false, pendStep := 0, slewing := t.slewing && !small,
               slew := rdiv (-e * 2 ^ 32) 250000000, slewEnd := l.now + 250000000,
               prevRef := some { e := e, cycle := cyc, added := added } }

/-- A reference event captured in this cycle (02 R48). -/
def Lane.refEvent (l : Lane) (e : Int) : Lane := l.refEventAt e l.now l.tl.added

/-- The reference that TL_WCFG.SRC names: 1 PPS, 2 and 3 Sprue A and B, 4 mirror; other codes act as none (02 Table 2.22). -/
def Lane.refSrc (l : Lane) : Nat := let s := l.fld Reg.TL_WCFG 0 3; if s ≤ 4 then s else 0

/-- The crystal window (11 Table 11.4): the mean TRIM of 64 consecutive accepted PPS events with no refusal pending. -/
def Lane.crystal (l : Lane) : Lane :=
  if l.refSrc ≠ 1 ∨ l.tl.refusal then l
  else
    let s : Int := l.ts.xoAcc.1 + clampAbs 3435973 (l.sreg Reg.TL_WRATE + l.tl.slew)
    if l.ts.xoAcc.2 + 1 < 64 then { l with ts := { l.ts with xoAcc := (s, l.ts.xoAcc.2 + 1) } }
    -- TRIM / 2^34 is the relative rate; 0.01 ppm is 10^-8
    else { l with ts := { l.ts with xoAcc := (0, 0), xoDone := true, xo := rdiv (-s * 100000000) (64 * 2 ^ 34) } }

/-- The PPS edge in progress steps WCLK by −e: the first phase step, or an armed STEP (02 R48). -/
def Lane.ppsSteps (l : Lane) : Bool := l.refSrc == 1 && (!l.tl.phaseValid || l.tl.stepArmed)

/-- A seconds value of TL_WSET applied at a PPS edge (02 R51): WCLK seconds equal the written ones from the edge, the step that
this edge may make of its own included. -/
def Lane.applyWset (l : Lane) : Lane :=
  if !l.rbit Reg.TL_WSET_HI 16 then l
  else
    let sec : Int := ((if l.ppsSteps then l.wns + 500000000 else l.wns) / 1000000000 : Nat)
    let want : Int := ((l.reg Reg.TL_WSET_LO).toNat + 2 ^ 32 * l.fld Reg.TL_WSET_HI 0 16 : Nat)
    let l := l.stepWclk ((want - sec) * 1000000000)
    (l.modTl fun t => { t with secValid := true }).setFld Reg.TL_WSET_HI 16 1 0

/-- PPS_EDGE: the PPS_x edge meets its first synchroniser stage in this cycle (02 R47). An early edge is ignored. -/
def opPps (l : Lane) : Lane :=
  if !l.alive then l
  else
    let early := match l.tl.ppsLast with
      | some t => decide (l.now < t + 225000000)
      | none => false
    if early then l.flag Reg.TL_WSTATUS Bit.TLW_PPS_GLITCH
    else
      let l := (l.modTl fun t => { t with ppsLast := some l.now, ppsMissed := false }).applyWset
      let near : Int := ((l.wns + 500000000) / 1000000000 : Nat)
      let e : Int := (l.wns : Int) - near * 1000000000
      if l.refSrc = 1 then (l.refEvent e).crystal else l

/-- PPS_MISSING: no edge has been accepted by 1.1 s after the last one (02 R47). -/
def opPpsMissing (l : Lane) : Lane :=
  match l.tl.ppsLast with
  | some t =>
    if elapsed l.now t 275000000 && !l.tl.ppsMissed && l.alive then
      (l.modTl fun t => { t with ppsMissed := true }).flag Reg.TL_WSTATUS Bit.TLW_PPS_MISSING
    else l
  | none => l

/-- A SLEW acceptance (02 R49). -/
def Lane.acceptSlew (l : Lane) : Lane :=
  if l.tl.refusal && !l.tl.stepArmed then
    l.modTl fun t => { t with refusal := false, pendStep := 0, slewing := true }
  else l

/-- A STEP acceptance (02 R49). -/
def Lane.acceptStep (l : Lane) : Lane :=
  if l.tl.refusal && !l.tl.stepArmed then l.modTl fun t => { t with stepArmed := true } else l

/-- The words in the event window. -/
def Lane.windowWord (l : Lane) (k : Nat) : Word := l.reg (Reg.TL_EVT_W k)

/-- The entry that the window spells (02 R52): it acts from the next cycle. -/
def Lane.windowEntry (l : Lane) : Entry :=
  { initEntry with w0 := l.windowWord 0, w1 := l.windowWord 1, w2 := l.windowWord 2, w3 := l.windowWord 3,
                   w4 := l.windowWord 4, w5 := l.windowWord 5, commitAt := l.now }

/-- The entry's contents are refused (02 R53), apart from the limit of 64 armed entries. -/
def Entry.bad (e : Entry) : Bool :=
  let cnt := field e.w5 24 8
  decide (8 < e.base) || decide (6 < e.action) || e.dir == 3 || (e.action == 3 && e.edgeKind == 3) ||
    (e.base == 8 && e.action == 3 && e.edgeKind == 1) ||
    (e.base == 8 && decide (1000000000 ≤ field e.w1 0 30)) ||
    (e.base == 8 && decide (1 ≤ e.interval) && decide (e.interval ≤ 399)) ||
    (decide (e.base < 8) && decide (2 ≤ cnt) && e.w4 == 0) ||
    (decide (e.base < 8) && decide (2 ^ 32 < cnt * e.w4.toNat))

/-- TL_EVT_READ: entry INDEX into the window (02 Table 2.10). -/
def Lane.evtRead (l : Lane) : Lane :=
  let e := l.entry (l.fld Reg.TL_EVT_SEL 0 8)
  ((((((l.setReg (Reg.TL_EVT_W 0) e.w0).setReg (Reg.TL_EVT_W 1) e.w1).setReg (Reg.TL_EVT_W 2) e.w2).setReg
    (Reg.TL_EVT_W 3) e.w3).setReg (Reg.TL_EVT_W 4) e.w4).setReg (Reg.TL_EVT_W 5) e.w5)

/-- The port of an action: 0 ADC, 1 LOOP, 2 RUNNER, 3 SERVICE (02 Table 2.4). -/
def portOf (action : Nat) : Nat :=
  match action with
  | 1 => 0
  | 2 => 1
  | 3 => 2
  | _ => 3

/-- Port p has not dispatched in this cycle (02 R59). -/
def Lane.portFree (l : Lane) (p : Nat) : Bool := vget l.tl.portAt p none != some l.now

/-- `n` actions are delayed by their port (02 R59). -/
def Lane.deferBy (l : Lane) (n : Nat) : Lane :=
  (l.modTl fun t => { t with deferred := satAdd 0xFFFF t.deferred n }).flagIf (decide (0 < n)) Reg.TL_STATUS Bit.TL_DEFERRED

/-- An action is due (02 R58, R59); NONE falls on no port, and a port that has dispatched in its cycle already delays it. -/
def Lane.addDue (l : Lane) (d : Due) : Lane :=
  if d.action = 0 then l
  else
    let late := decide (d.cyc ≤ l.now) && !l.portFree (portOf d.action) && !d.deferred
    (l.modTl fun t => { t with due := t.due ++ [{ d with deferred := d.deferred || late }] }).deferBy (b2n late)

/-- The next prediction of an entry beyond the place `x` (02 R55). -/
def Lane.refresh (l : Lane) (k : Nat) (x : BitVec 48) : Lane :=
  let e := l.entry k
  l.setEntry k { e with pred := if e.on then e.predictFrom (l.ptOf e.base) x else none }

/-- The distance of a committed prediction from an instant, both in sixteenths (02 R58). -/
def Commit.error (c : Commit) (p : Nat) : Nat := if c.p < p then p - c.p else c.p - p

/-- The next target of a WCLK entry that has fired, an EDGE entry with its commit (02 R54, R58): the first target + k × interval
after the present WCLK. -/
def Entry.stepTarget (e : Entry) (wns : Nat) : Entry :=
  if e.interval = 0 then { e with done := true }
  else e.withTarget (e.target + e.interval * ((wns - e.target) / e.interval + 1))

/-- The entry after its present occurrence has fired or committed (02 R54, R55, R57): the next target, or the occurrence spent
and the next one predicted. A prediction older than the last snap gives way to the re-prediction owed. -/
def Lane.nextOccurrence (l : Lane) (k : Nat) : Lane :=
  let e := l.entry k
  if e.base = 8 then l.setEntry k (e.stepTarget l.wns)
  else
    match e.pred with
    | none => l
    | some p =>
      let pt := l.ptOf e.base
      let e := { e with spent := keepSpent l.hyst p.fwd pt.place e.spent ++ [p.occ], edge := none, deferred := false,
                        missed := e.missed.filter fun m => m.1 != p.occ }
      l.setEntry k { e with pred := if p.snap = pt.snapAt then e.predictFrom pt p.occ else none }

/-- An EDGE entry reaches its base instant without a commit, with the timestamp and tap that its prediction fixes (02 R58): the
command waits until its timestamp is within LEAD. -/
def Lane.dueEdge (l : Lane) (k : Nat) : Lane :=
  let e := l.entry k
  let st := match e.pred with
    | some p => if e.base = 8 then (l.now + e.delay, 0) else (p.p / 16 + e.delay, p.p % 16)
    | none => (l.now + e.delay, 0)
  let l := l.addDue
    { entry := k, action := 3, arg := e.arg, cyc := max l.now (st.1 - l.lead), deferred := e.deferred,
      edge := some { stamp := some st, delay := e.delay, angle := (e.pred.map fun p => angleOf p.occ).getD 0,
                     fwd := (e.pred.map (·.fwd)).getD true } }
  l.nextOccurrence k

/-- ENTRY_BASE_INSTANT: an entry reaches its base instant (02 R54, R55): its DELAY starts, and its next occurrence is
chosen. An EDGE entry has mostly sent its command at its commit, and one bound to WCLK has taken its next target there. No
non-EDGE action fires beyond the next count boundary before a snap, after which its old base instant counts (02 R44, R56). -/
def opBaseInstant (l : Lane) (k : Nat) : Lane :=
  let e := l.entry k
  if !l.alive ∨ !e.on ∨ l.now ≤ e.commitAt then l
  else
    let act : Due := { entry := k, action := e.action, arg := e.arg, cyc := l.now + e.delay, deferred := false, edge := none }
    if e.base = 8 then
      if e.done ∨ l.wns < e.target then l
      else if e.action = 3 then l.dueEdge k
      else (l.nextOccurrence k).addDue act
    else
      match e.pred with
      | none => l
      | some p =>
        let snapAt := (l.ptOf e.base).snapAt
        let old := decide (p.snap < snapAt) && decide (snapAt ≤ p.base)
        if l.now < p.base then l
        else if e.action = 3 then (if e.edge.isNone then l.dueEdge k else l.nextOccurrence k)
        else if !old ∧ (l.reg (Reg.TL_PT_SCALE e.base)).toNat ≤ p.delta then l
        else (l.nextOccurrence k).addDue act

/-- The prediction error of a committed edge against the present prediction (02 R58). -/
def Lane.predError (l : Lane) (k err : Nat) : Lane :=
  let l := if l.tl.perrMax < err then
      l.modTl fun t => { t with perrMax := min 0xFFFFFF err, perrEntry := k }
    else l
  l.flagIf (decide (l.fld Reg.TL_CTRL 16 12 < err)) Reg.TL_STATUS Bit.TL_PRED_ERR

/-- The commit of entry k's present occurrence no longer concerns the occurrence ahead: it counts as fired (02 R57). -/
def Lane.settleEdge (l : Lane) (k : Nat) (c : Commit) : Lane :=
  let e := l.entry k
  l.setEntry k { e with edge := none, spent := e.spent ++ [c.occ] }

/-- A commit of entry k after its re-prediction (02 R58): its error against the later prediction, or, once the timebase has
turned, against the snap that turned it (02 Table 2.6); the entry is then free for its next occurrence. -/
def Lane.reviewEdge (l : Lane) (k : Nat) (c : Commit) : Lane :=
  let e := l.entry k
  let p := l.ptOf e.base
  match e.pred with
  | some q =>
    if q.occ = c.occ ∧ q.fwd = c.fwd then l.predError k (c.error q.p)
    else if q.fwd ≠ c.fwd then (l.settleEdge k c).predError k (c.error (16 * p.snapAt))
    else l.settleEdge k c
  | none =>
    if p.rate = 0 ∨ decide (0 < p.rate) = c.fwd then l
    else (l.settleEdge k c).predError k (c.error (16 * p.snapAt))

/-- RE_PREDICTION: the re-prediction of entry k completes (02 R55, R56): it fires once where snaps carried the timebase past
occurrences, for the last one passed. An occurrence whose command has committed keeps it (02 R58): its error is taken against
the snap that carried the timebase past it (02 Table 2.5, log 30). After an OFFSET write the next occurrence is the one ahead of
the timebase as it stands (02 R45). -/
def opRePredict (l : Lane) (k : Nat) : Lane :=
  let e := l.entry k
  match e.dirtyAt with
  | none => l
  | some d =>
    if l.now < d ∨ !l.alive then l
    else
      let p := l.ptOf e.base
      let l := l.setEntry k { e with dirtyAt := none, missed := [], edgeErr := none }
      let l := match e.missed.getLast? with
        | none => l
        | some (o, fwd) =>
          let l := l.modTl fun t => { t with passed := satAdd 0xFFFF t.passed e.missed.length }
          (l.flag Reg.TL_STATUS Bit.TL_PASSED).addDue
            { entry := k, action := e.action, arg := e.arg, cyc := if e.action = 3 then l.now else l.now + e.delay,
              deferred := false,
              edge := if e.action = 3 then some { stamp := none, delay := e.delay, angle := angleOf o, fwd := fwd } else none }
      let l := l.refresh k (if e.fromNow then p.place else p.snapPos)
      let l := match e.edgeErr with
        | some x => l.predError k x
        | none => l
      match e.edge with
      | some c => l.reviewEdge k c
      | none => l

/-- The due action that port `p` dispatches next: the lowest-numbered entry of those due (02 R59). -/
def Lane.nextDue (l : Lane) (p : Nat) : Option Due :=
  (l.tl.due.filter fun d => portOf d.action == p && decide (d.cyc ≤ l.now)).foldl (fun best d =>
    match best with
    | some b => if d.entry < b.entry then some d else best
    | none => some d) none

/-- The EDGE entries whose next command may commit now, in index order (02 R58). -/
def Lane.readyEdges (l : Lane) : List Nat := (l.tl.entries.filter fun x => l.edgeReady x.2).map (·.1)

/-- Port p dispatches in this cycle: every other action due on it is delayed and counted once (02 R59). -/
def Lane.usePort (l : Lane) (p : Nat) : Lane :=
  let waits := fun (d : Due) => portOf d.action == p && decide (d.cyc ≤ l.now) && !d.deferred
  let edges := if p = 2 then l.readyEdges.filter fun k => !(l.entry k).deferred else []
  let n := (l.tl.due.filter waits).length + edges.length
  let l := l.modTl fun t =>
    { t with portAt := vmod t.portAt p fun _ => some l.now,
             due := t.due.map fun d => if waits d then { d with deferred := true } else d }
  (l.each edges fun l k => l.setEntry k { l.entry k with deferred := true }).deferBy n

/-- The next due action of an action code is dispatched to `f` (02 R59); nothing where another is first, or the port has
dispatched in this cycle. -/
def Lane.dispatch (l : Lane) (action : Nat) (f : Lane → Due → Lane) : Lane :=
  let p := portOf action
  if !l.alive ∨ !l.portFree p then l
  else
    match l.nextDue p with
    | none => l
    | some d =>
      if d.action ≠ action then l
      else f ((l.modTl fun t => { t with due := t.due.erase d }).usePort p) d

/-- What a commit hands on (02 R58): ARG, the timestamp and tap, the occurrence's angle, and the direction of travel. -/
structure EdgeAt where
  arg : Nat
  ts : Nat
  tap : Nat
  occ : Word
  fwd : Bool
  deriving DecidableEq, Repr

/-- The EDGE subtype of an ARG (02 Table 2.4). -/
def edgeKindOf (arg : Nat) : Nat := arg / 2 ^ 22 % 4

/-- An EDGE that waited for its commit commits (02 R58). One that fired on a snap stands at this cycle + DELAY, raised to + 560;
a SECTOR edge is then the late boundary that R121 moves to commit + 560 and counts. -/
def Lane.commitDue (l : Lane) (d : Due) (x : EdgeDue) (f : Lane → EdgeAt → Lane) : Lane :=
  let l := (l.modTl fun t => { t with due := t.due.erase d }).usePort 2
  let at_ := match x.stamp with
    | some st => st
    | none => (if edgeKindOf d.arg = 1 then l.now + x.delay else max (l.now + x.delay) (l.now + 560), 0)
  f l { arg := d.arg, ts := at_.1, tap := at_.2, occ := x.angle, fwd := x.fwd }

/-- An EDGE entry commits on its prediction or its target, with the timestamp and tap fixed (02 R58). -/
def Lane.commitReady (l : Lane) (k ts tap : Nat) (f : Lane → EdgeAt → Lane) : Lane :=
  let e := l.entry k
  let occ := (e.pred.map (·.occ)).getD 0
  let fwd := (e.pred.map (·.fwd)).getD true
  let c : Commit := { ts := ts, tap := tap, occ := occ, fwd := fwd, p := (e.pred.map (·.p)).getD 0 }
  let e := { e with deferred := false }
  let l := (l.setEntry k (if e.base = 8 then { e.stepTarget l.wns with sent := some e.target } else { e with edge := some c })).usePort 2
  f l { arg := e.arg, ts := ts, tap := tap, occ := angleOf occ, fwd := fwd }

/-- An EDGE entry of a subtype commits (02 R58, R59): on its prediction within LEAD, or where it waited for its commit. Of all that
may commit in a cycle the lowest-numbered entry comes first. -/
def Lane.commitEdge (l : Lane) (k kind : Nat) (f : Lane → EdgeAt → Lane) : Lane :=
  if !l.alive ∨ !l.portFree 2 then l
  else
    let due := l.nextDue 2
    let below := (l.readyEdges.any fun j => decide (j < k)) || due.any fun d => decide (d.entry < k)
    if below then l
    else
      match due.filter fun d => d.entry == k with
      | some d =>
        match d.edge with
        | some x => if edgeKindOf d.arg = kind then l.commitDue d x f else l
        | none => l
      | none =>
        let e := l.entry k
        if !l.edgeReady e ∨ e.edgeKind ≠ kind then l
        else
          match l.edgeTime e with
          | some (ts, tap) => l.commitReady k ts tap f
          | none => l

/-- EDGE_GATE_COMMIT: one Runner command for the named gate and level (02 R58, Table 2.4). -/
def opGateCommit (l : Lane) (k : Nat) : Lane :=
  l.commitEdge k 2 fun l c =>
    let g := c.arg / 2 ^ 8 % 64
    if g < 36 then l.sendGate g (c.arg.testBit 14) (16 * c.ts + c.tap) else l

/-- The old contents of entry k that commit in this cycle stand, when a COMMIT replaces them (02 R62): the command follows as a due
one. -/
def Lane.edgeFires (l : Lane) (k : Nat) : Lane :=
  let e := l.entry k
  if !l.alive ∨ !l.edgeReady e then l
  else
    match l.edgeTime e with
    | none => l
    | some (ts, tap) =>
      let l := l.addDue
        { entry := k, action := 3, arg := e.arg, cyc := l.now, deferred := e.deferred,
          edge := some { stamp := some (ts, tap), delay := e.delay, angle := (e.pred.map fun p => angleOf p.occ).getD 0,
                         fwd := (e.pred.map (·.fwd)).getD true } }
      let l := l.nextOccurrence k
      l.setEntry k { l.entry k with sent := if e.base = 8 then some e.target else none }

/-- The new contents of an entry whose old ones have fired (02 R57, R62): fired and committed occurrences of the same base stay
fired, and a WCLK target still ahead whose command has been sent gives way to the next one. -/
def Entry.replaces (e old : Entry) (wns : Nat) : Entry :=
  if e.base ≠ old.base ∨ !old.on then e
  else if e.base = 8 then
    if e.action = 3 ∧ wns < e.target ∧ old.sent = some e.target then
      { (if e.interval = 0 then { e with done := true } else e.withTarget (e.target + e.interval)) with sent := old.sent }
    else { e with sent := old.sent }
  else { e with spent := old.spent ++ (old.edge.map (·.occ)).toList }

/-- A COMMIT of entry k (02 R53): refused with ENTRY_REJECTED, or stored with the prediction of the occurrence ahead of the
timebase (02 R55). Old contents that fire in its cycle have fired (02 R62). -/
def Lane.commitEntry (l : Lane) (k : Nat) (e : Entry) : Lane :=
  let others := (l.boundTo e.base).filter fun j => j != k
  if e.bad ∨ (e.on ∧ e.base < 8 ∧ 64 ≤ others.length) then l.flag Reg.TL_STATUS Bit.TL_ENTRY_REJECTED
  else
    let l := opBaseInstant ((opRePredict l k).edgeFires k) k
    let e := e.replaces (l.entry k) l.wns
    let p := l.ptOf e.base
    l.setEntry k { e with pred := if e.on ∧ e.base < 8 then e.predictFrom p p.place else none }

/-- TL_EVT_COMMIT (02 R53). -/
def Lane.evtCommit (l : Lane) : Lane := l.commitEntry (l.fld Reg.TL_EVT_SEL 0 8) l.windowEntry

/-- Time passes in a lane with its clock running: WCLK and the timebases (02 R44, R46). -/
def Lane.tick (l : Lane) (d : Nat) : Lane :=
  let gain := l.wgain d
  let slewed := l.winc l.tl.slew * l.slewCycles d - l.winc 0 * l.slewCycles d
  let slewedNeg := l.winc 0 * l.slewCycles d - l.winc l.tl.slew * l.slewCycles d
  let scale := fun n => (l.reg (Reg.TL_PT_SCALE n)).toNat
  { l with
    now := l.now + d,
    tl := { l.tl with
      wclk := (l.tl.wclk + gain) % wclkMod,
      added := l.tl.added + slewed - slewedNeg,
      pt := .ofFn fun (n : Fin 8) => (l.ptOf n.val).advance (scale n.val) d } }

end Sys2Proof.Machine
end

