-- ==== Sys2Proof/Machine/Commutator.lean ====
section
/-! DEFINITION. The commutator: sectors, gate patterns, the forming of periods and boundaries, back-EMF, START and STOP,
the limits of the ramp and the missing-phase test (05). -/

namespace Sys2Proof.Machine

/-- The phases of the forward-torque pattern P(s): switched high side and held low side, 0 U, 1 V, 2 W (05 Table 5.1). -/
def patHL (s : Nat) : Nat × Nat :=
  match s with
  | 0 => (0, 1)
  | 1 => (0, 2)
  | 2 => (1, 2)
  | 3 => (1, 0)
  | 4 => (2, 0)
  | _ => (2, 1)

/-- The floating phase of P(s) (05 Table 5.1). -/
def patF (s : Nat) : Nat := 3 - (patHL s).1 - (patHL s).2

/-- The gate number of a switch: side 0 HS, 1 LS (05 R113). -/
def gateNo (n p side : Nat) : Nat := 6 * n + 2 * p + side

/-- DMIN and DMAX as they stand (05 Table 5.7). -/
def Lane.dmin (l : Lane) (n : Nat) : Nat := l.fld (Reg.CM_DUTY n) 0 16

/-- The duty is full (05 R114). -/
def fullDuty (d : Int) : Bool := d.natAbs == 32767

/-- A duty has an on-window in a period, by the DMIN the period was formed with (05 R114, R132). DMIN is looked at before full
duty, so that a DMIN of 32,768 leaves no window at |D| = 32,767 either (log 33). -/
def Period.windowed (p : Period) (d : Int) : Bool := decide (p.dmin ≤ d.natAbs)

/-- The off edge of a period that starts at T, in sixteenths of a cycle (05 R114). -/
def Lane.offEdge (l : Lane) (n t : Nat) (d : Int) : Nat := 16 * t + (rdiv (d.natAbs * l.per n * 16 : Nat) 32768).toNat

/-- The first known period start of axis n at or after a cycle (05 R36, R119): one already fixed, or the one that the armed
PERIOD entry places (log 13). -/
def Lane.nextStart (l : Lane) (n t : Nat) : Option Nat :=
  let a := l.axis n
  match a.periods.find? fun p => decide (t ≤ p.start) with
  | some p => some p.start
  | none =>
    match l.periodAhead n t with
    | some s => some s
    | none =>
      if !l.periodArmed n then none
      else a.periods.getLast?.map fun p => p.start + l.per n * ((t - p.start + l.per n - 1) / max 1 (l.per n))

/-- A boundary that waits for the forming of the period that starts at `t16`, in sixteenths (05 R120). -/
def Boundary.waitsIn (b : Boundary) (t16 per : Nat) : Bool :=
  b.waits && decide (t16 < b.tb) && decide (b.tb ≤ t16 + 16 * per)

/-- The boundary once that period has been formed. -/
def Boundary.served (b : Boundary) (t16 per : Nat) : Boundary := if b.waitsIn t16 per then { b with waits := false } else b

/-- The period that contains an instant: the last that starts before it (05 R120). -/
def CmAxis.holder (a : CmAxis) (tb : Nat) : Option Period := (a.periods.filter fun p => decide (16 * p.start < tb)).getLast?

/-- A boundary among the committed ones in timestamp order; the next one leaves the sector that it enters. -/
def CmAxis.place (a : CmAxis) (b : Boundary) : CmAxis :=
  let later := a.bounds.filter fun x => decide (b.tb < x.tb)
  { a with
    rs := if later.isEmpty then some b.rs else a.rs,
    bounds := (a.bounds.filter fun x => !decide (b.tb < x.tb)) ++ b ::
      (match later with
        | [] => []
        | x :: t => { x with old := b.rs } :: t) }

/-- A period put into the list by its start; a start within half a period of a listed one is that period. -/
def putPeriod (half : Nat) (p : Period) : List Period → List Period
  | [] => [p]
  | q :: t =>
    if p.start + half ≤ q.start then p :: q :: t
    else if p.start < q.start + half then
      (if q.formed then { q with cut := q.cut || p.cut } else { p with cut := q.cut || p.cut }) :: t
    else q :: putPeriod half p t

/-- The period list with the entry that starts at T changed. -/
def modPeriod (t : Nat) (f : Period → Period) (ps : List Period) : List Period :=
  ps.map fun p => if p.start = t then f p else p

/-- The on-window of a period at an instant, in sixteenths (05 R114): from T_p to the off edge, or all of it at full duty. -/
def Lane.onAt (l : Lane) (n : Nat) (p : Period) (t16 : Nat) : Bool :=
  p.windowed p.duty && decide (16 * p.start ≤ t16) && (fullDuty p.duty || decide (t16 < l.offEdge n p.start p.duty))

/-- A period start that has not been formed. -/
def Lane.newPeriod (l : Lane) (n t : Nat) : Period :=
  { start := t, formed := false, duty := 0, rev := false, dmin := l.dmin n, ds := none, cut := false, shunt := none,
    judged := false }

/-- A period start that the TLE has fixed, or that the commutator forms ahead; old ones are dropped two periods later. -/
def Lane.addPeriod (l : Lane) (n t : Nat) : Lane :=
  l.modAxis n fun a =>
    let keep := a.periods.filter fun p => decide (l.now < p.start + 2 * l.per n)
    { a with periods := putPeriod (l.per n / 2) (l.newPeriod n t) keep,
             bounds := a.bounds.filter fun b => decide (16 * l.now < b.tb + 32 * l.per n),
             relit := a.relit.filter fun w => decide (16 * l.now < w.2) }

/-- The off words of every gate of axis n at an instant (05 R125, R129). -/
def Lane.allOff (l : Lane) (n t16 : Nat) : Lane := l.each (List.range 6) fun l g => l.sendGate (6 * n + g) false t16

/-- A release that waits for T_rel is taken back where the gates go off by then (09 R228): its first driven period is not driven. -/
def Lane.cancelRelease (l : Lane) (n t : Nat) : Lane :=
  match (l.safetyOf n).relAt with
  | some r =>
    if t ≤ r then (l.sendGate (37 + n) false (16 * r)).modSafety n fun s => { s with relAt := none, tRel := none } else l
  | none => l

/-- The off words of axis n at cycle `t`, at every later period start and boundary already sent and over every later on word of
a period formed again (05 R125, R129); the periods from there on are no longer formed. -/
def Lane.offFrom (l : Lane) (n t : Nat) : Lane :=
  let a := l.axis n
  let bs := ((a.bounds.filter fun b => decide (16 * t < b.tb) && !b.waits).map Boundary.tb) ++
    ((a.periods.filter fun p => decide (t < p.start) && p.formed).map fun p => 16 * p.start)
  let l := bs.foldl (fun l tb => l.allOff n tb) (l.allOff n (16 * t))
  let l := (a.relit.filter fun w => decide (16 * t < w.2)).foldl (fun l w => l.sendGate w.1 false w.2) l
  -- the first driven period no longer comes, so nothing releases the brake (09 R228)
  let l := l.cancelRelease n t
  l.modAxis n fun a =>
    { a with relit := [],
             periods := a.periods.map fun p => if t ≤ p.start then { p with formed := false, ds := none } else p }

/-- The duty that a period is formed with, after GEN_LIMIT and CLAMP (05 R116, 09 R225): the loop sees a substitution as
saturation in the duty's direction (06 R141). -/
def Lane.formDuty (l : Lane) (n : Nat) (d : Int) : Int × Lane :=
  let s := l.safetyOf n
  let gen := bit l.port.levels 17 && decide (d * l.speed n < 0)
  let clamp := (s.blockPos && decide (0 < d)) || (s.blockNeg && decide (d < 0))
  if gen || clamp then
    let l := l.modLoop n fun x => { x with st := { x.st with satDir := sgn d } }
    (0, if gen then l.flag (Reg.CM_STATUS n) Bit.CM_GEN_CLAMPED else l)
  else (d, l)

/-- The words of one boundary of axis n at `tb` for the duty of the period that contains it (05 R120). -/
def Lane.boundaryWords (l : Lane) (n : Nat) (p : Period) (tb old new : Nat) : Lane :=
  let o := patHL (patOf old p.rev)
  let w := patHL (patOf new p.rev)
  let l := if w.2 = o.2 then l else (l.sendGate (gateNo n o.2 1) false tb).sendGate (gateNo n w.2 1) true tb
  if w.1 = o.1 ∨ !l.onAt n p tb then l
  else
    let l := (l.sendGate (gateNo n o.1 0) false tb).sendGate (gateNo n w.1 0) true tb
    if fullDuty p.duty then l else l.sendGate (gateNo n w.1 0) false (l.offEdge n p.start p.duty)

/-- The correction of a period start already formed that a boundary precedes (05 R120). `rev` is the sign of the period before
it: where the sign changes at the start, the low sides that leave and enter there are corrected too (05 R115). -/
def Lane.correctStart (l : Lane) (n : Nat) (q : Period) (rev : Bool) (old new : Nat) : Lane :=
  let o := patHL (patOf old q.rev)
  let b := patHL (patOf new rev)
  let w := patHL (patOf new q.rev)
  let t16 := 16 * q.start
  let l := if rev = q.rev then l
    else
      (l.each ([o.2, b.2].filter (· ≠ w.2)) fun l x => l.sendGate (gateNo n x 1) false t16).sendGate (gateNo n w.2 1) true t16
  let l := l.each ([o.1, b.1].filter (· ≠ w.1)) fun l x => l.sendGate (gateNo n x 0) false t16
  let l := if w.1 = o.1 then l
    else if !q.windowed q.duty then l.sendGate (gateNo n w.1 0) false t16
    else
      let l := l.sendGate (gateNo n w.1 0) true t16
      if fullDuty q.duty then l else l.sendGate (gateNo n w.1 0) false (l.offEdge n q.start q.duty)
  l.modAxis n fun a =>
    { a with ds := some (patOf new q.rev),
             periods := modPeriod q.start (fun p => { p with ds := some (patOf new q.rev) }) a.periods }

/-- A boundary handled with the period that contains it, and the later starts already formed (05 R120). -/
def Lane.applyBoundary (l : Lane) (n : Nat) (p : Period) (tb old new : Nat) : Lane :=
  let l := l.boundaryWords n p tb old new
  let l := l.modAxis n fun a => { a with ds := some (patOf new p.rev) }
  let later := (l.axis n).periods.filter fun q => decide (tb ≤ 16 * q.start) && q.formed && q.ds.isSome
  later.foldl (fun l q => l.correctStart n q p.rev old new) l

/-- A revolution of axis n ends: each phase is judged against IMIN and PM_REV as they now stand (05 R128, R132). PM_REV 0 leaves
the counters as they are; PHASE_MISSING is set as a counter comes to stand at PM_REV or above. -/
def Lane.judgePhases (l : Lane) (n : Nat) : Lane :=
  let lim := l.fld (Reg.CM_PMISS n) 24 4
  let imin := l.fld (Reg.CM_PMISS n) 0 18
  let a := l.axis n
  let pm := fun p => if lim = 0 ∨ vget a.pmSeen p 0 = 0 then vget a.pm p 0
    else if imin ≤ vget a.pmMax p 0 then 0
    else if vget a.pmSeen p 0 = 3 then min 15 (vget a.pm p 0 + 1) else vget a.pm p 0
  let past := fun p => lim != 0 && decide (lim ≤ pm p)
  let hit := (List.range 3).any fun p => past p && !vget a.pmOver p false
  let l := l.modAxis n fun a =>
    { a with pm := .ofFn fun p => pm p.val, pmSeen := .replicate 3 0, pmMax := .replicate 3 0,
             pmOver := .ofFn fun p => past p.val }
  if !l.isActive ∨ !a.drive ∨ !hit then l
  else
    let l := (l.flag (Reg.CM_STATUS n) Bit.CM_PHASE_MISSING).evt 0x0A Bit.CM_PHASE_MISSING n
    l.deferCause 0x11 n

/-- A period of axis n that has ended is looked at for the missing-phase test (05 R128): its pattern tests the phase of its
high side, and it counts where that pattern stood for the whole period and the shunt was held inside the on-window. -/
def Lane.countPeriod (l : Lane) (n : Nat) (p : Period) : Lane :=
  match p.ds, p.shunt with
  | some ds, some (hold, v) =>
    let a := l.axis n
    let whole := !(a.bounds.any fun b => decide (16 * p.start < b.tb) && decide (b.tb < 16 * (p.start + l.per n)))
    if l.isActive && a.drive && p.windowed p.duty && whole && l.onAt n p (16 * hold) then
      let ph := (patHL ds).1
      l.modAxis n fun a =>
        { a with pmSeen := vmod a.pmSeen ph fun m => m ||| 2 ^ (ds % 2), pmMax := vmod a.pmMax ph fun m => max m v.natAbs }
    else l
  | _, _ => l

/-- The periods of axis n that have ended by cycle `t` and whose shunt result is known are looked at; without a result a period
waits the 44 cycles that a hold in its last cycle takes (04 R91). -/
def Lane.countPeriods (l : Lane) (n t : Nat) : Lane :=
  let ready := fun (p : Period) => p.formed && !p.judged && decide (p.start + l.per n ≤ t) &&
    (p.shunt.isSome || decide (p.start + l.per n + 44 ≤ t))
  let l := ((l.axis n).periods.filter ready).foldl (fun l p => l.countPeriod n p) l
  l.modAxis n fun a => { a with periods := a.periods.map fun p => if ready p then { p with judged := true } else p }

/-- The missing-phase test up to the present cycle (05 R128): the periods that have ended, and the revolutions. -/
def Lane.phasesDue (l : Lane) : Lane :=
  l.each (List.range 6) fun l n =>
    let done := (l.axis n).revs.filter fun tb => decide (tb ≤ 16 * l.now)
    let l := done.foldl (fun l tb => (l.countPeriods n (tb / 16)).judgePhases n) l
    (l.countPeriods n l.now).modAxis n fun a => { a with revs := a.revs.filter fun tb => !decide (tb ≤ 16 * l.now) }

/-- A CV0 result of entry e held at cycle `hold` reaches the period of each axis whose shunt entry it is (05 R128). -/
def Lane.shuntResult (l : Lane) (e hold : Nat) (v : Int) : Lane :=
  l.each (l.axes.filter fun n => l.fld (Reg.LE_CFG n) 8 5 == e) fun l n =>
    l.modAxis n fun a =>
      { a with periods := a.periods.map fun p =>
          if p.formed ∧ p.start ≤ hold ∧ hold < p.start + l.per n then { p with shunt := some (hold, v) } else p }

/-- The words of a boundary, where the period that contains it has been formed (05 R120). A STOP that takes effect before the
boundary leaves it nothing to send (05 R129). -/
def Lane.sendBound (l : Lane) (n tb old new : Nat) : Lane :=
  let a := l.axis n
  let ends := match a.stopAt with
    | some t => decide (16 * t ≤ tb)
    | none => false
  match a.holder tb with
  | some p =>
    if a.drive && !a.sectLost && !ends && p.formed && p.ds.isSome && decide (tb ≤ 16 * (p.start + l.per n)) then
      l.applyBoundary n p tb old new
    else l
  | none => l

/-- A boundary into sector `new` at `tb` takes its place among those committed, in timestamp order (05 R120, R131): the words
of one already committed behind it now leave the sector entered here. -/
def Lane.moveSector (l : Lane) (n new tb : Nat) : Lane :=
  let a := l.axis n
  match a.rsAt tb with
  | none => l.modAxis n fun a => { a with rs := some new, bemf := { a.bemf with lastB := tb } }
  | some old =>
    if old = new then l
    else
      let ready := match a.holder tb with
        | some p => p.formed && decide (tb ≤ 16 * (p.start + l.per n))
        | none => false
      let l := l.modAxis n fun a =>
        { a.place { tb := tb, rs := new, old := old, waits := a.drive && !ready } with
          revs := if new = 0 then a.revs ++ [tb] else a.revs, bemf := { a.bemf with lastB := max a.bemf.lastB tb } }
      let l := l.sendBound n tb old new
      match a.bounds.find? fun b => decide (tb < b.tb) with
      | some b => if b.waits then l else l.sendBound n b.tb new b.rs
      | none => l

/-- The rotor sector of axis n moves to `new` at `tb` (05 R120): words at once, or with the forming of the period that
contains it; late ones move to commit + 560 (05 R121). -/
def Lane.enterSector (l : Lane) (n new tb : Nat) : Lane :=
  if tb < 16 * (l.now + 560) then
    ((l.modAxis n fun a => { a with late := satAdd 0xFF a.late 1 }).flag (Reg.CM_STATUS n) Bit.CM_SECT_LATE).moveSector
      n new (16 * (l.now + 560))
  else l.moveSector n new tb

/-- The period that starts at T is formed with the duty d (05 R114, R115, R119): the gates that leave and enter the pattern,
and H's high side. -/
def Lane.formPeriod (l : Lane) (n t : Nat) (d0 : Int) : Lane :=
  let f := l.formDuty n d0
  let d := f.1
  let l := f.2.addPeriod n t
  let a := l.axis n
  match a.rsAt (16 * t) with
  | none => l
  | some rs =>
    let new := drivenPat rs d
    let w := patHL new
    let t16 := 16 * t
    let l := match a.ds with
      | some prev =>
        let o := patHL prev
        let l := if o.1 = w.1 then l else l.sendGate (gateNo n o.1 0) false t16
        if o.2 = w.2 then l else (l.sendGate (gateNo n o.2 1) false t16).sendGate (gateNo n w.2 1) true t16
      | none => l.sendGate (gateNo n w.2 1) true t16
    let p : Period := { l.newPeriod n t with formed := true, duty := d, rev := decide (d < 0), ds := some new }
    let l := if !p.windowed d then l.sendGate (gateNo n w.1 0) false t16
      else
        let l := l.sendGate (gateNo n w.1 0) true t16
        if fullDuty d then l else l.sendGate (gateNo n w.1 0) false (l.offEdge n t d)
    let l := l.modAxis n fun a =>
      { a with ds := some new,
               periods := modPeriod t (fun q => { p with cut := q.cut }) a.periods }
    -- the boundaries that waited for this forming (05 R120)
    let per := l.per n
    let mine := (l.axis n).bounds.filter fun b => b.waitsIn t16 per
    let l := l.modAxis n fun a => { a with bounds := a.bounds.map fun b => b.served t16 per }
    let l := mine.foldl (fun l b => l.applyBoundary n p b.tb b.old b.rs) l
    -- the first driven period after a START releases the brake (09 R228)
    let s := l.safetyOf n
    if s.awaitDrive && l.cls n == 2 && s.brk == 0 then
      (l.sendGate (37 + n) true t16).modSafety n fun s =>
        { s with awaitDrive := false, relAt := some t, tRel := some (l.wclkAt t) }
    else if s.awaitDrive then l.modSafety n fun s => { s with awaitDrive := false }
    else l

/-- H's high-side gate in a period just before an instant (05 R115, R120). -/
def Lane.highBefore (l : Lane) (n : Nat) (p : Period) (t16 : Nat) : Nat :=
  gateNo n (patHL (((l.axis n).patAt p (max (16 * p.start) (t16 - 1))).getD 0)).1 0

/-- A boundary of a period formed again that comes to lie inside or outside the on-window (05 R115, R120): inside, the high
sides change at Tb; outside, the one that would enter there stays off. -/
def Lane.rewindow (l : Lane) (n : Nat) (p q : Period) (b : Boundary) : Lane :=
  let o := (patHL (patOf b.old p.rev)).1
  let w := (patHL (patOf b.rs p.rev)).1
  if o = w ∨ l.onAt n p b.tb = l.onAt n q b.tb then l
  else if l.onAt n q b.tb then (l.sendGate (gateNo n o 0) false b.tb).sendGate (gateNo n w 0) true b.tb
  else l.sendGate (gateNo n w 0) false b.tb

/-- A period already formed is formed again with another duty (05 R119): superseding words for H's high side. The pattern, its
sign and DMIN stay as formed; H is the one that the boundaries committed since have left in force at the word's instant. -/
def Lane.reform (l : Lane) (n : Nat) (p : Period) (d0 : Int) : Lane :=
  let f := l.formDuty n d0
  let d := f.1
  let l := f.2
  if p.ds.isNone then l
  else
    let q := { p with duty := d }
    let offO := l.offEdge n p.start p.duty
    let offN := l.offEdge n p.start d
    let wo := p.windowed p.duty
    let wn := p.windowed d
    let fo := fullDuty p.duty
    let fn := fullDuty d
    let off := fun (l : Lane) (t : Nat) => l.sendGate (l.highBefore n p t) false t
    let relight := fun (l : Lane) =>
      (l.sendGate (l.highBefore n p offO) true offO).modAxis n fun a =>
        { a with relit := a.relit ++ [(l.highBefore n p offO, offO)] }
    let l' :=
      if wo && wn then
        if fo && fn then l
        else if fn then relight l
        else if fo then off l offN
        else if offO < offN then off (relight l) offN
        else if offN < offO then off l offN
        else l
      else if wo then off l (16 * p.start)
      else if wn then
        let l := l.sendGate (l.highBefore n p (16 * p.start)) true (16 * p.start)
        if fn then l else off l offN
      else l
    let mine := (l.axis n).bounds.filter fun b =>
      decide (16 * p.start < b.tb) && decide (b.tb ≤ 16 * (p.start + l.per n)) && !b.waits
    (mine.foldl (fun l b => l.rewindow n p q b) l').modAxis n fun a =>
      { a with periods := modPeriod p.start (fun x => { x with duty := d }) a.periods }

/-- The limit tests at the end of a pass (05 R127). -/
def Lane.limitTests (l : Lane) (n : Nat) (p : PassOut) : Lane :=
  let smax : Int := (256 * l.fld (Reg.CM_SMAX n) 0 24 : Nat)
  let v := p.spd
  let fast := decide (smax ≤ (v.natAbs : Int))
  if p.limited then
    let still := ((p.limKind % 2 = 1 && p.volt) : Bool) ||
      (decide (2 ≤ p.limKind) && decide (smax * 63 ≤ (v.natAbs : Int) * 64))
    if still then l else l.modAxis n fun a => { a with limited := false, limKind := 0 }
  else if p.volt || fast then
    let ref := sgn v * min (v.natAbs : Int) smax
    (l.modAxis n fun a => { a with limited := true, limKind := b2n p.volt + 2 * b2n fast, ref := ref }).flag
      (Reg.CM_STATUS n) Bit.CM_LIMITED
  else l

/-- DUTY_ARRIVAL: the pass of axis n completes, and its duty forms or re-forms the period it applies to (05 R119, R127;
01 R36). -/
def opDutyArrival (l : Lane) (n : Nat) : Lane :=
  match (l.loopOf n).flight with
  | none => l
  | some p =>
    let l := (l.passDone n p).limitTests n p
    let d := p.st.duty
    let l := l.modAxis n fun a => { a with duty := d, fresh := true }
    let a := l.axis n
    if !a.drive ∨ a.stopAt.isSome ∨ a.sectLost then l
    else
      -- the first start after the pass began, whose cut-off the duty may have missed (01 R36)
      let missed := match l.nextStart n ((l.loopOf n).passAt.getD l.now + 1) with
        | some t => decide (t < l.now + 700)
        | none => false
      let l := if missed then
          (l.modAxis n fun a => { a with deferred := satAdd 0xFFFF a.deferred 1 }).flag (Reg.CM_STATUS n)
            Bit.CM_DUTY_DEFERRED
        else l
      match l.nextStart n (l.now + 700) with
      | none => l
      | some t =>
        match a.periods.find? fun q => decide (q.start = t) && q.formed with
        | some q => l.reform n q d
        | none => l.formPeriod n t d

/-- The direction that the source of PTn has committed: reverse (05 R122). -/
def Lane.srcRev (l : Lane) (n : Nat) : Bool :=
  let u := l.unit n
  match l.fld (Reg.TL_PT_CFG n) 16 2 with
  | 0 => u.cnt.rev
  | 1 => u.hall.rev
  | 2 => u.sent.rev.getD false
  | _ => u.tooth.rev

/-- The sector of PTn as it stands, with the SOFF of its direction (05 R118, R122). -/
def Lane.sectorPt (l : Lane) (n : Nat) : Option Nat :=
  let p := l.ptOf n
  if !p.valid then none
  else
    let rev := if p.rate = 0 then l.srcRev n else decide (p.rate < 0)
    let soff := if rev then l.reg (Reg.CM_SOFFR n) else l.reg (Reg.CM_SOFFF n)
    some (6 * (p.angle - soff).toNat / 2 ^ 32)

/-- EDGE_SECTOR_COMMIT: a SECTOR occurrence at angle A commits with timestamp `tb` (05 R118). -/
def Lane.sectorCommit (l : Lane) (n : Nat) (angle : Word) (fwd : Bool) (tb : Nat) : Lane :=
  if l.sect n = 1 then l
  else
    let soff := if fwd then l.reg (Reg.CM_SOFFF n) else l.reg (Reg.CM_SOFFR n)
    let d := (angle - soff).toNat
    let k := (12 * d + 2 ^ 32) / 2 ^ 33
    -- distance from SOFF + k * 2^32 / 6, in sixths of a Pattern unit
    let dist := (6 * (d : Int) - (k : Int) * 2 ^ 32).natAbs
    if 2 ^ 32 / 4 < dist then l.flag (Reg.CM_STATUS n) Bit.CM_SECT_BAD
    else if (l.axis n).fallback then l
    else l.enterSector n (if fwd then k % 6 else (k + 5) % 6) tb

/-- The sector source of axis n is lost (05 R125): every gate off from the next period start, the axis stays in DRIVE. -/
def Lane.sectorLost (l : Lane) (n : Nat) : Lane :=
  if !(l.axis n).drive ∨ (l.axis n).sectLost then l
  else
    let t := (l.nextStart n (l.now + 700)).getD (l.now + 560)
    let l := l.offFrom n t
    let l := l.modAxis n fun a => { a with sectLost := true, lostAt := t, ds := none, rs := none }
    ((l.flag (Reg.CM_STATUS n) Bit.CM_SECT_LOST).evt 0x0A Bit.CM_SECT_LOST n).deferCause 0x12 n

/-- PTn has lost PT_VALID: fall back to a locked back-EMF, or lose the source (05 R125). -/
def Lane.ptLost (l : Lane) (n : Nat) : Lane :=
  let a := l.axis n
  if 6 ≤ n ∨ !a.drive ∨ a.fallback then l
  else
    match l.sect n with
    | 0 => l.sectorLost n
    | 2 =>
      if a.locked then
        (l.modAxis n fun a => { a with fallback := true }).flag (Reg.CM_STATUS n) Bit.CM_FALLBACK_ENTERED
      else l.sectorLost n
    | _ => l

/-- Every timebase whose unit can no longer serve it has lost PT_VALID: what the axes on it do (05 R125). `was` is the
mask of the timebases that were valid before. -/
def Lane.ptLosses (l : Lane) (was : Nat) : Lane :=
  l.each ((List.range 6).filter fun n => was.testBit n && !(l.ptOf n).valid) Lane.ptLost

/-- LOCKED of axis n clears (05 R124, R125). -/
def Lane.unlock (l : Lane) (n : Nat) : Lane :=
  let a := l.axis n
  let l := l.modAxis n fun a => { a with locked := false, bemf := { a.bemf with good := 0 } }
  if a.locked ∧ (l.sect n = 1 ∨ a.fallback) then l.sectorLost n else l

/-- A back-EMF boundary of axis n (05 R123): it moves the sector where back-EMF is the source in use. -/
def Lane.bemfBoundary (l : Lane) (n tb : Nat) (d : Int) : Lane :=
  let a := l.axis n
  let l := l.modAxis n fun a => { a with bemf := { a.bemf with lastB := tb } }
  match a.rs with
  | none => l
  | some rs => if l.sect n = 1 ∨ a.fallback then l.enterSector n ((rs + (if 0 ≤ d then 1 else 5)) % 6) tb else l

/-- The last boundary at or before an instant in sixteenths (05 R123). -/
def CmAxis.lastBound (a : CmAxis) (t16 : Nat) : Option Nat :=
  match (a.bounds.filter fun b => decide (b.tb ≤ t16)).getLast? with
  | some b => some b.tb
  | none => if 0 < a.bemf.lastB ∧ a.bemf.lastB ≤ t16 then some a.bemf.lastB else none

/-- BEMF_EVALUATE: the period's phase voltages are examined for a crossing (05 R123, R124), in the sector in force at their hold
instant. Where no sector is known yet, the one in which tracking starts is a free value (log 14). The divisions for t_zc and Tb
drop their remainder, and d is +1 while BSPD is 0 (log 33). -/
def opBemf (l : Lane) (n : Nat) : Lane :=
  if !(l.enabled n && (l.sect n == 1 || l.sect n == 2)) then l
  else
    let l := match (l.axis n).rs with
      | some _ => l
      | none => (l.modAxis n fun a => { a with rs := some (l.freeVal % 6) }).took
    let a := l.axis n
    let cfg := l.reg (Reg.CM_BEMF n)
    let zent := field cfg 11 5
    let ts := l.resAt 1 zent - 44
    let rs := (a.rsAt (16 * ts)).getD 0
    let blanked : Bool := match a.lastBound (16 * ts) with
      | some b => decide (16 * ts < b + 16 * field cfg 0 11)
      | none => false
    if blanked || l.resAt 1 zent == 0 then l
    else
      let v := fun p => l.resVal (p + 1) zent
      let hl := patHL rs
      let d : Int := if a.bspd < 0 then -1 else 1
      -- twice the floating phase less neutral, so that the half of the sum stays exact
      let x := 2 * v (patF rs) - v hl.1 - v hl.2
      let rising := (rs % 2 = 1) == (decide (0 ≤ d))
      let l := l.modAxis n fun a => { a with bemf := { a.bemf with prev := some (ts, x) } }
      match a.bemf.prev with
      | none => l
      | some (tp, xp) =>
        let crossed := if rising then decide (xp < 0) && decide (0 ≤ x) else decide (0 < xp) && decide (x ≤ 0)
        if !crossed then l
        else
          let tz := 16 * tp + 16 * (ts - tp) * xp.natAbs / (xp.natAbs + x.natAbs)
          match a.bemf.tzc with
          | none => l.modAxis n fun a => { a with bemf := { a.bemf with tzc := some tz } }
          | some last =>
            let tzz := tz - last
            let near := a.bemf.tzz != 0 && decide (4 * ((tzz : Int) - a.bemf.tzz).natAbs ≤ a.bemf.tzz)
            let good := if near then min 6 (a.bemf.good + 1) else 0
            let bspd := d * rdiv (250000000 * 256 * 16) tzz
            let l := l.modAxis n fun a =>
              { a with bspd := bspd, locked := a.locked || decide (6 ≤ good),
                       bemf := { a.bemf with tzc := some tz, tzz := tzz, good := good, miss := 0 } }
            let l := l.bemfBoundary n (tz + tzz * field cfg 24 8 / 256) d
            let fast := decide (tzz < 64 * l.per n)
            let l := if fast then l.flag (Reg.CM_STATUS n) Bit.CM_BEMF_FAST else l
            if fast ∨ bspd.natAbs < 256 * l.fld (Reg.CM_BMIN n) 0 24 then l.unlock n else l

/-- ZC_MISS: no crossing by the last boundary + Tzz, so a boundary is placed there (05 R124). -/
def opZcMiss (l : Lane) (n : Nat) : Lane :=
  let a := l.axis n
  let b := a.bemf
  if b.tzz = 0 ∨ 16 * l.now < b.lastB + b.tzz ∨ !(l.sect n == 1 || l.sect n == 2) then l
  else
    let l := l.modAxis n fun a => { a with bemf := { a.bemf with miss := b.miss + 1, good := 0 } }
    let l := l.flag (Reg.CM_STATUS n) Bit.CM_ZC_MISS
    let l := l.bemfBoundary n (b.lastB + b.tzz) (if a.bspd < 0 then -1 else 1)
    if max 1 (l.fld (Reg.CM_BEMF n) 20 4) ≤ b.miss + 1 then l.unlock n else l

/-- The axis enters IDLE: REF, LIMITED and the loop states clear (05 R129, 06 R153). -/
def Lane.axisIdle (l : Lane) (n : Nat) : Lane :=
  (l.loopStop n).modAxis n fun a =>
    { a with drive := false, fallback := false, sectLost := false, stopAt := none, ds := none, fresh := false,
             pm := .replicate 3 0, pmSeen := .replicate 3 0, pmMax := .replicate 3 0, pmOver := .replicate 3 false,
             differed := none,
             periods := a.periods.map fun p => { p with formed := false, ds := none } }

/-- A STOP for axis n (05 R129); in IDLE it is ignored. It precedes a START of its cycle. -/
def Lane.stopAxis (l : Lane) (n : Nat) : Lane :=
  let a := l.axis n
  if !a.drive ∨ a.stopAt.isSome then l
  else
    let l := if a.startSeen = some l.now then
        l.modAxis n fun a => { a with startSeen := none, starts := a.starts ++ [none] }
      else l
    match l.nextStart n (l.now + 700) with
    | some t => (l.offFrom n t).modAxis n fun a => { a with stopAt := some t, stopSeen := some l.now }
    | none => (l.offFrom n (l.now + 560)).axisIdle n

/-- STOP_PERIOD_START: the period start at which a STOP takes effect (05 R129, 06 R153). -/
def opStopPeriodStart (l : Lane) (n : Nat) : Lane :=
  match (l.axis n).stopAt with
  | some t => if t ≤ l.now then l.axisIdle n else l
  | none => l

/-- A START for axis n on the part of operation `tag` (none: CM_CMD or Sprue): discarded while SAFE is latched (09 R227),
not evaluated in a lane that is not ACTIVE (05 R129), ignored in DRIVE, otherwise queued for the next cut-off: so is the START
of a STOP's own cycle, which the STOP precedes. The Bool says that it was queued. -/
def Lane.startAxis (l : Lane) (n : Nat) (tag : Option Nat) : Bool × Lane :=
  let a := l.axis n
  if !l.enabled n ∨ !l.isActive then (false, l)
  else if (l.safetyOf n).safe then
    (false, l.flag (Reg.SF_STATUSN n) Bit.SFN_START_BLOCKED)
  else if a.drive ∧ (a.stopAt.isNone ∨ a.stopSeen ≠ some l.now) then (false, l.modAxis n fun a => { a with startSeen := some l.now })
  else (true, l.modAxis n fun a => { a with starts := a.starts ++ [tag] })

/-- CFG_BAD of an enabled axis as configured (05 R117). -/
def Lane.checkCfg (l : Lane) (n : Nat) : Lane := l.flagIf (l.enabled n && l.cfgBad n) (Reg.CM_STATUS n) Bit.CM_CFG_BAD

/-- A START is refused with a REASON (05 R130). -/
def Lane.refuseStart (l : Lane) (n reason : Nat) : Lane :=
  let l := l.modAxis n fun a => { a with reason := reason }
  if reason = 4 then (l.flag (Reg.CM_STATUS n) Bit.CM_CATCH_REFUSED).evt 0x0A Bit.CM_CATCH_REFUSED n
  else l.flag (Reg.CM_STATUS n) Bit.CM_START_REFUSED

/-- The rotor sector of axis n at the period start T as a cut-off reads it (05 R122): that of PTn in this cycle, moved by the
boundaries committed up to T. -/
def Lane.sectorAt (l : Lane) (n t : Nat) : Option Nat :=
  (l.sectorPt n).map fun s =>
    ((l.axis n).bounds.filter fun b => decide (16 * l.now < b.tb) && decide (b.tb ≤ 16 * t)).foldl (fun _ b => b.rs) s

/-- The axis takes a sector at an instant afresh (05 R130): boundaries already committed beyond it stand. -/
def CmAxis.takeSector (a : CmAxis) (rs t16 : Nat) : CmAxis :=
  match a.bounds.filter fun b => decide (t16 < b.tb) with
  | [] => { a with rs := some rs, bounds := [] }
  | b :: later => { a with bounds := ({ b with old := rs } :: later).map fun x => { x with waits := true } }

/-- The checks of a START at the cut-off of T (05 R130), and the REASON it ends with. A STOP of its cycle that has yet to take
effect is taken first: the axis goes through IDLE (05 R129, log 33). -/
def Lane.evalStart (l : Lane) (n t : Nat) : Nat × Lane :=
  if l.cfgBad n then (1, (l.flag (Reg.CM_STATUS n) Bit.CM_CFG_BAD).refuseStart n 1)
  else
    let bemf := l.sect n == 1
    let a := l.axis n
    let rs := if bemf then (if a.locked then a.rsAt (16 * t) else none) else l.sectorAt n t
    match rs with
    | none =>
      let r := if bemf then 3 else 2
      (r, l.refuseStart n r)
    | some rs =>
      let l := l.modAxis n fun a => if a.stopAt.isSome then a else { a with rs := some rs }
      let est := (l.unit n).est.state
      let rest := est == .standstill || est == .firstEdge || est == .reversal
      let v := if bemf then a.bspd else if rest then 0 else l.fbSpeed n
      if 256 * l.fld (Reg.CM_CATCH n) 0 24 < v.natAbs then (4, l.refuseStart n 4)
      else
        let l := (if a.stopAt.isSome then l.axisIdle n else l).loopPreset n v
        let l := l.modAxis n fun x =>
          { x.takeSector rs (16 * t) with
            drive := true, ds := none, reason := 0, fresh := false, differed := none, sectLost := false, fallback := false,
            periods := a.periods.map fun p => if p.start < t then p else { p with formed := false, ds := none } }
        (0, l.modSafety n fun s => { s with awaitDrive := true })

/-- The STARTs of axis n that wait for a cut-off are evaluated, each with its completion (05 R129, R130; 14 R338). -/
def Lane.evalStarts (l : Lane) (n t : Nat) : Lane :=
  let ts := (l.axis n).starts
  let l := l.modAxis n fun a => { a with starts := [] }
  ts.foldl (fun l tag =>
    if (l.axis n).drive ∧ (l.axis n).stopAt.isNone then l.startResult tag n 0
    else
      let r := l.evalStart n t
      r.2.startResult tag n r.1) l

/-- The sector check of a cut-off for the period start T (05 R122): a sector that differs at two cut-offs in turn is adopted at
T; boundaries committed beyond T stand. -/
def Lane.sectorCheck (l : Lane) (n t : Nat) : Lane :=
  let a := l.axis n
  if l.sect n = 1 ∨ a.fallback ∨ a.sectLost then l
  else
    match l.sectorAt n t, a.rsAt (16 * t) with
    | some s, some held =>
      if s = held then l.modAxis n fun a => { a with differed := none }
      else if a.differed.isNone then l.modAxis n fun a => { a with differed := some s }
      else
        let l := l.modAxis n fun a => { a with differed := none, resync := satAdd 0xFF a.resync 1 }
        (l.flag (Reg.CM_STATUS n) Bit.CM_SECT_RESYNC).moveSector n s (16 * t)
    | _, _ => l

/-- CUT_OFF: the cut-off of the next period start of axis n (05 R119, R122, R129). -/
def opCutOff (l : Lane) (n : Nat) : Lane :=
  if !l.enabled n then l
  else
    match l.nextStart n (l.now + 1) with
    | none => l
    | some t =>
      let l := l.addPeriod n t
      let a := l.axis n
      match a.periods.find? fun p => decide (p.start = t) with
      | none => l
      | some p =>
        if p.cut ∨ l.now + 700 < t then l
        else
          let l := l.modAxis n fun a => { a with periods := modPeriod t (fun p => { p with cut := true }) a.periods }
          if a.drive ∧ a.stopAt.isNone then
            let l := l.sectorCheck n t
            let a := l.axis n
            if a.fresh ∧ !p.formed ∧ !a.sectLost then l.formPeriod n t a.duty else l
          else l.evalStarts n t

end Sys2Proof.Machine
end

