-- ==== Sys2Proof/Machine/SafetyFn.lean ====
section
/-! DEFINITION. The safety functions: evaluation, reactions, the brake, RESUME, profiles and QUENCH (09, 08 R210). -/

namespace Sys2Proof.Machine

/-- SMARG in 1/64,000,000 counts/s (09 Table 9.12; log 10). -/
def Lane.smarg (l : Lane) (n : Nat) : Int := 64000000 * (l.fld (Reg.SF_SMARG n) 0 24 : Nat)

/-- LIM = CAP + SMARG of profile p, in 1/64,000,000 counts/s (09 R218). -/
def Lane.slsLim (l : Lane) (n p : Nat) : Int := 64000000 * (l.cap n p : Nat) + l.smarg n

/-- |SPD| with 8 fraction bits in 1/64,000,000 counts/s. -/
def absSpd (v : Int) : Int := 250000 * (v.natAbs : Int)

/-- A slide or stop-envelope step per evaluation: rate × PER / 250,000, in 1/64,000,000 counts/s (09 R219, R226). -/
def Lane.slideStep (l : Lane) (n rate : Nat) : Int := (rate * l.per n * 256 : Nat)

/-- M at a change of the profile in force (09 R219, Table 9.5): a higher LIM holds at once, a lower one slides and never raises M,
and so does LIMP whatever its LIM. A change to an equal LIM leaves M (log 36). -/
def Lane.profileChange (l : Lane) (old new : Nat) : Lane :=
  l.each (List.range 6) fun l n =>
    let lim := l.slsLim n new
    let was := l.slsLim n old
    l.modSafety n fun a =>
      { a with m := a.m.map fun m =>
          if l.limp ∨ lim < was then max lim (min m (absSpd a.spdLast + l.smarg n)) else if was < lim then lim else m }

/-- The profile in force follows its selection and LIMP (09 R217 to R219): PROF_CHANGED and M; the stored setpoints are limited
again in the cycle in which the profile or the forcing of LIMP changes. -/
def Lane.profileSync (l : Lane) : Lane :=
  let p := l.profNow
  if p = l.sf.prof ∧ l.limp = l.sf.limp then l
  else
    let l := if p = l.sf.prof then l
      else (l.profileChange l.sf.prof p).flag Reg.SF_STATUS Bit.SF_PROF_CHANGED
    let l : Lane := { l with sf := { l.sf with prof := p, limp := l.limp } }
    l.relimitAll

/-- SF_PROF_WRITE: a selection by SF_CTRL.PROF, a mode descriptor or a Sprue command (09 R218). -/
def Lane.selectProfile (l : Lane) (p : Nat) : Lane := (l.setFld Reg.SF_CTRL 0 2 p).profileSync

/-- The apply ramp of a BRAKE axis is fixed to begin 560 cycles after `t` (09 R227). -/
def Lane.applyBrake (l : Lane) (n t : Nat) (quench : Bool) : Lane :=
  let ta := t + 560
  l.modSafety n fun a =>
    { a with taAt := some ta, tA := some (l.wclkAt ta), rampK := 0, rampLow := false, forQuench := quench,
             bper := max 100 (l.fld (Reg.SF_BRAKE n) 0 16), bramp := l.fld (Reg.SF_BRAKE n) 16 16 }

/-- The release output of axis n is low and stays low: APPLIED, and no T_rel ahead (09 R228). -/
def SafeAxis.held (a : SafeAxis) : Bool := a.brk == 0 && a.relAt.isNone

/-- The class safe state of axis n is entered, with completion in this cycle (09 R227, 08 R210): a SAFE word at once for STEER
and AUX, and for a BRAKE axis that is APPLIED already; after the apply ramp for one that is or will be RELEASED (log 15). -/
def Lane.enterSafe (l : Lane) (n : Nat) (quench : Bool) : Lane :=
  let a := l.safetyOf n
  if l.cls n ≠ 2 ∨ a.held then l.sendSafe (2 ^ n) 0
  else if a.taAt.isNone then l.applyBrake n l.now quench
  else l

/-- The axis goes to IDLE as by a STOP that takes effect at once (09 R227, 05 R129): off words 560 cycles on, which is T_a on a
BRAKE axis whose ramp begins, and over every later word already sent. LEAVE thus returns to levels that are off. -/
def Lane.safeIdle (l : Lane) (n : Nat) : Lane :=
  let a := l.safetyOf n
  let l := if (l.axis n).drive then l.offFrom n (l.now + 560)
    else if l.cls n == 2 && !a.held && a.taAt.isNone then l.allOff n (16 * (l.now + 560))
    else l
  l.axisIdle n

/-- SAFE is taken on axis n (09 R227): the axis goes to IDLE, and its class safe state follows. -/
def Lane.takeSafe (l : Lane) (n : Nat) : Lane :=
  if (l.safetyOf n).safe then l
  else
    let l := (l.safeIdle n).enterSafe n false
    let l := l.modSafety n fun a => { a with safe := true, stopped := false, recBy := 0 }
    (l.flag (Reg.SF_STATUSN n) Bit.SFN_SAFE_ENTERED).evt 0x14 Bit.SFN_SAFE_ENTERED n

/-- RAMP is taken on axis n by a function with reaction time `rt` (09 R226). -/
def Lane.takeRamp (l : Lane) (n rt : Nat) (spd : Int) : Lane :=
  let a := l.safetyOf n
  if a.ramp ∨ a.safe then l
  else
    let l := l.modSafety n fun a =>
      { a with ramp := true, rampAt := l.now, rampRt := rt, stopped := false, stopCnt := 0, e := absSpd spd + l.smarg n }
    (l.modLoop n fun x => { x with tgt := 0, spared := some x.tgt }).flag (Reg.SF_STATUSN n)
      Bit.SFN_RAMP_ENTERED

/-- The stop envelope of an axis in RAMP at a later evaluation (09 R226). -/
def Lane.stopEnvelope (l : Lane) (n : Nat) (spd : Int) (still : Bool) : Lane :=
  let a := l.safetyOf n
  if !a.ramp ∨ a.safe then l
  else
    let e := max (l.smarg n) (a.e - l.slideStep n (max 1 (l.fld (Reg.SF_RATE n) 0 16)))
    let c := if e < absSpd spd then min 15 (a.stopCnt + 1) else 0
    let stopped := a.stopped || (decide ((l.axis n).ref = 0) && (decide (absSpd spd ≤ l.smarg n) || still))
    let l := l.modSafety n fun a => { a with e := e, stopCnt := c, stopped := stopped }
    let l := if c = a.rampRt then (l.flag (Reg.SF_STATUSN n) Bit.SFN_STOP_FAIL).takeSafe n else l
    -- a RAMP that a connection's loss caused takes SAFE on STOPPED (13 Table 13.4)
    if stopped ∧ l.env.caused.testBit n then l.takeSafe n else l

/-- The reaction time of a function, 1 to 15: 0 acts as 1 (09 Table 9.10). -/
def Lane.rtOf (l : Lane) (n f : Nat) : Nat := max 1 (l.fld (Reg.SF_CFG n) (18 - 6 * f) 4)

/-- The reaction of a function: 0 CLAMP, 1 RAMP, 2 and 3 SAFE (09 Table 9.10). -/
def Lane.rxOf (l : Lane) (n f : Nat) : Nat := l.fld (Reg.SF_CFG n) (22 - 6 * f) 2

/-- What an evaluation finds (09 R219 to R223): the violating functions and those whose input is lost, as masks. -/
structure Verdict where
  viol : Nat
  lost : Nat
  deriving DecidableEq, Repr

/-- The functions of axis n that run, as a mask: bit 0 SLS, 1 SLP, 2 SDI (09 R221, R222). -/
def Lane.running (l : Lane) (n : Nat) : Nat :=
  b2n (l.slsOn n) + 2 * b2n (l.slpOn n) + 4 * b2n (l.sdiDir n != 0)

/-- The lane with the SF_ words of axis n that an evaluation has latched (09 Table 9.5). -/
def Lane.asLatched (l : Lane) (n : Nat) (p : EvalLatch) : Lane :=
  (List.range 10).foldl (fun l k => l.setReg (Reg.SF_CFG n + 4 * k) (vget p.words k 0)) l

/-- The M that an evaluation works with (09 R219): LIM where it finds M unset, else the slide toward LIM. -/
def Lane.slideM (l : Lane) (n prof : Nat) : Int :=
  let lim := l.slsLim n prof
  match (l.safetyOf n).m with
  | none => lim
  | some m => if m ≤ lim then lim else max lim (m - l.slideStep n (l.fld (Reg.SF_RATE n) 16 16))

/-- The PREF that an evaluation works with (09 R222): the furthest position reached in the permitted direction. -/
def Lane.furthest (l : Lane) (n : Nat) (ap : Int) : Int :=
  match (l.safetyOf n).pref with
  | none => ap
  | some p => if l.sdiDir n = 1 then max p ap else if l.sdiDir n = -1 then min p ap else p

/-- The verdict of an evaluation on the latched values, with the M and the PREF it works with (09 R220 to R223). -/
def Lane.verdict (l : Lane) (n : Nat) (p : EvalLatch) (m pref : Int) : Verdict :=
  let ap := p.apos.toInt
  let run := l.running n
  let lost := (b2n p.spdLost + 2 * b2n p.cntLost + 4 * b2n p.cntLost) &&& run
  let sls := decide (m < absSpd p.spd)
  let slp := decide (ap < l.sreg (Reg.SF_PMIN n)) || decide (l.sreg (Reg.SF_PMAX n) < ap)
  let sdi := decide (((l.fld (Reg.SF_PGD n) 16 16 : Nat) : Int) < (pref - ap) * l.sdiDir n)
  { viol := ((b2n sls + 2 * b2n slp + 4 * b2n sdi) &&& run) ||| lost, lost := lost }

/-- The signs of duty that the violating functions in CLAMP block (09 R225): positive, negative. -/
def Lane.clampSigns (l : Lane) (n : Nat) (p : EvalLatch) (fs lost : Nat) : Bool × Bool :=
  let ap := p.apos.toInt
  let one := fun (f : Nat) (q : Bool) => fs.testBit f && (lost.testBit f || q)
  (one 0 (decide (0 < p.spd)) || one 1 (decide (l.sreg (Reg.SF_PMAX n) < ap)) || one 2 (decide (l.sdiDir n = -1)),
   one 0 (decide (p.spd < 0)) || one 1 (decide (ap < l.sreg (Reg.SF_PMIN n))) || one 2 (decide (l.sdiDir n = 1)))

/-- The reaction of function f, whose counter has reached its RT, is taken (09 R224). On an IDLE axis CLAMP and RAMP are recorded
(09 Table 9.5). -/
def Lane.takeReaction (l : Lane) (n f rx rt : Nat) (spd : Int) : Lane :=
  if rx < 2 ∧ !(l.axis n).drive then l.modSafety n fun a => { a with recBy := a.recBy ||| 2 ^ f }
  else
    match rx with
    | 0 =>
      let a := l.safetyOf n
      let l := if a.clampBy = 0 then l.flag (Reg.SF_STATUSN n) Bit.SFN_CLAMPED else l
      l.modSafety n fun a => { a with clampBy := a.clampBy ||| 2 ^ f }
    | 1 => l.takeRamp n rt spd
    | _ => l.takeSafe n

/-- What has been recorded on the axis while it was IDLE applies in DRIVE, where the violation persists (09 Table 9.5). -/
def Lane.takeRecorded (l lv : Lane) (n : Nat) (spd : Int) : Lane :=
  if !(l.axis n).drive then l
  else
    let fs := (List.range 3).filter fun f => (l.safetyOf n).recBy.testBit f
    let l := l.modSafety n fun a => { a with recBy := 0 }
    l.each fs fun l f => l.takeReaction n f (lv.rxOf n f) (lv.rtOf n f) spd

/-- The reactions of an evaluation of the ACTIVE lane (09 R224, R226, Table 9.5): those recorded, then of the functions `hit` whose
reaction is due those with the highest rank, then the stop envelope of a RAMP taken earlier. -/
def Lane.react (l lv : Lane) (n : Nat) (p : EvalLatch) (hit : List Nat) : Lane :=
  let was := (l.safetyOf n).ramp
  let rank := fun f => min 2 (lv.rxOf n f)
  let top := hit.filter fun f => hit.all fun g => decide (rank g ≤ rank f)
  let l := l.takeRecorded lv n p.spd
  let l := l.each top fun l f => l.takeReaction n f (lv.rxOf n f) (lv.rtOf n f) p.spd
  if was then l.stopEnvelope n p.spd p.still else l

/-- REF and TGT are 0 and stay so until a new setpoint (09 R229); a pass in flight hands on no REF of its own. -/
def Lane.restAxis (l : Lane) (n : Nat) : Lane :=
  (l.modLoop n fun x =>
    { x with tgt := 0, spared := none, rest := true,
             flight := x.flight.map fun p => { p with ref := 0, limited := false, limKind := 0 } }).modAxis n fun c =>
    { c with ref := 0, limited := false, limKind := 0 }

/-- A RESUME that waits for this evaluation (09 R229); in a lane that is not ACTIVE it is dropped, since its evaluations never act on
the actuator (09 R215; log 36). -/
def Lane.doResume (l : Lane) (n : Nat) (v : Verdict) : Lane :=
  let a := l.safetyOf n
  if !a.resume then l
  else
    let l := l.modSafety n fun a => { a with resume := false }
    if !l.isActive then l
    else if (!a.ramp && !a.safe) ∨ v.viol ≠ 0 ∨ v.lost ≠ 0 ∨ (a.safe ∧ l.ln.cond = 3) ∨ !l.connAllows n then
      l.flag (Reg.SF_STATUSN n) Bit.SFN_RESUME_REFUSED
    else
      let l := if a.safe then l.sendSafe 0 (2 ^ n) else l
      let l := if a.ramp then l.restAxis n else l
      let l := l.modSafety n fun a =>
        { a with ramp := false, stopped := false, safe := false, pref := none, cnt := .replicate 3 0, told := 0, stopCnt := 0 }
      { l with env := { l.env with caused := l.env.caused &&& (63 - 2 ^ n) } }

/-- The lane takes no reaction on its own evaluation: it is not ACTIVE (09 R230). A counter that reaches RT is only shown. -/
def Lane.shadowReactions (l : Lane) (n : Nat) (hit : List Nat) : Lane :=
  if hit = [] then l else l.flag (Reg.SF_STATUSN n) Bit.SFN_SHADOW_VIOL

/-- The known-answer test after every 256th evaluation (09 R231). -/
def Lane.knownAnswer (l : Lane) (ok : Bool) : Lane :=
  let k := (l.sf.evals + 1) % 256
  let l := { l with sf := { l.sf with evals := k } }
  if k ≠ 0 then l
  else if ok then { l with sf := { l.sf with kats := (l.sf.kats + 1) % 256 } }
  else (l.flag Reg.SF_STATUS Bit.SF_KAT_FAIL).trigger 0x08 0

/-- The deadline of an evaluation has passed without its completion (09 R231): DEADLINE and trigger 0x08. -/
def Lane.evalMissed (l : Lane) (n : Nat) : Lane := (l.flag Reg.SF_STATUS Bit.SF_DEADLINE).trigger 0x08 n

/-- The evaluation of axis n that began with the latches `p` completes (09 R216 to R231). A function whose counter stands at RT has
its reaction once (09 R224): `told` says which have had it; a counter run in shadow may stand there without (09 R230). The M of an
evaluation that a change of the profile has overtaken stays as the change left it (log 36). -/
def Lane.evaluate (l : Lane) (n : Nat) (p : EvalLatch) (katOk : Bool) : Lane :=
  let lv := l.asLatched n p
  let a := l.safetyOf n
  let m := lv.slideM n p.prof
  let pref := lv.furthest n p.apos.toInt
  let v := lv.verdict n p m pref
  let cnt := fun f => if v.viol.testBit f then min 15 (vget a.cnt f 0 + 1) else 0
  let atRt := fun f => v.viol.testBit f && decide (lv.rtOf n f ≤ cnt f)
  let told := a.told &&& v.viol
  let hit := (List.range 3).filter fun f => atRt f && !told.testBit f
  let reached := (List.range 3).filter fun f => atRt f && decide (vget a.cnt f 0 < lv.rtOf n f)
  let act := l.isActive
  let l := l.modSafety n fun a =>
    { a with pend := none, m := if p.prof = l.profNow then some m else a.m,
             pref := if lv.sdiDir n = 0 then none else some pref, spdLast := p.spd, cnt := .ofFn fun f => cnt f.val,
             viol := v.viol, inLost := v.lost != 0, evalAt := some l.now, recBy := a.recBy &&& v.viol,
             told := if act then told ||| maskOf 3 (hit.contains ·) else told,
             clampBy := if act ∧ a.clampBy &&& v.viol = 0 then 0 else a.clampBy }
  let bad := lv.sfcfgBad n && !bit (l.stat (Reg.SF_STATUSN n)).flags Bit.SFN_SFCFG_BAD
  let fl := b2n (v.viol.testBit 0) * 2 ^ Bit.SFN_SLS_VIOL + b2n (v.viol.testBit 1) * 2 ^ Bit.SFN_SLP_VIOL +
    b2n (v.viol.testBit 2) * 2 ^ Bit.SFN_SDI_VIOL + b2n (v.lost != 0) * 2 ^ Bit.SFN_INPUT_LOST +
    b2n bad * 2 ^ Bit.SFN_SFCFG_BAD
  let l := if fl = 0 then l else l.event (Reg.SF_STATUSN n) fl
  let l := if act then l.react lv n p hit else l.shadowReactions n reached
  let l := l.doResume n v
  let sg := lv.clampSigns n p ((l.safetyOf n).clampBy &&& v.viol) v.lost
  let l := if act then l.modSafety n fun a => { a with blockPos := sg.1, blockNeg := sg.2 } else l
  (l.relimit n).knownAnswer katOk

/-- The evaluation of axis n is the next of its LOOP_START to complete: axes that coincide are served in order (09 R216). -/
def Lane.evalTurn (l : Lane) (n : Nat) (p : EvalLatch) : Bool :=
  (List.range n).all fun j =>
    match (l.safetyOf j).pend with
    | some q => q.start != p.start
    | none => true

/-- SFE_EVALUATION: the evaluation that axis n began at its LOOP_START completes in this cycle (09 R216 to R231), and MAXCYC
measures it; later than 240 cycles it has missed its deadline. -/
def opEvaluate (l : Lane) (n : Nat) (katOk : Bool) : Lane :=
  match (l.safetyOf n).pend with
  | none => l
  | some p =>
    if !l.enabled n ∨ !l.evalTurn n p then l
    else
      let cyc := l.now - p.start
      let l := if 240 < cyc ∧ !p.missed then l.evalMissed n else l
      let l := l.evaluate n p katOk
      { l with sf := { l.sf with maxCyc := max l.sf.maxCyc (min 255 cyc) } }

/-- SFE_DEADLINE: an evaluation of axis n is not complete 240 cycles after its LOOP_START (09 R231). -/
def opSfeDeadline (l : Lane) (n : Nat) : Lane :=
  match (l.safetyOf n).pend with
  | none => l
  | some p =>
    if !l.enabled n ∨ p.missed ∨ l.now < p.start + 240 then l
    else (l.modSafety n fun a => { a with pend := a.pend.map fun q => { q with missed := true } }).evalMissed n

/-- SFE_EVAL_RATE_TIMEOUT: no evaluation of an enabled axis has completed for 4 × PER in RUN (09 R231). -/
def opSfeRate (l : Lane) (n : Nat) : Lane :=
  let since := match (l.safetyOf n).evalAt, l.pw.runAt with
    | some e, some r => some (max e r)
    | none, some r => some r
    | _, none => none
  match since with
  | some t =>
    if l.enabled n && l.inRun && elapsed l.now t (4 * l.per n) then
      (l.flag Reg.SF_STATUS Bit.SF_DEADLINE).trigger 0x08 n
    else l
  | none => l

/-- SF_RESUME: RESUME bits wait for the next evaluation of each axis, which acts on them or refuses them (09 R229). -/
def Lane.resumeAxes (l : Lane) (mask : Nat) : Lane :=
  l.each (members mask 6) fun l n =>
    if l.enabled n then l.modSafety n fun a => { a with resume := true } else l

/-- BRAKE_RELEASE: T_rel has come (09 R228). -/
def opBrakeRelease (l : Lane) (n : Nat) : Lane :=
  let a := l.safetyOf n
  match a.relAt with
  | some t => if t ≤ l.now ∧ a.brk = 0 then l.modSafety n fun a => { a with brk := 1, relAt := none } else l
  | none => l

/-- The end of an apply ramp: the output is low, and SAFE is sent (09 R228). -/
def Lane.rampEnd (l : Lane) (n : Nat) : Lane :=
  let l := l.modSafety n fun a =>
    { a with brk := 0, tRel := none, relAt := none, taAt := none, tA := none, rampLow := false, forQuench := false }
  if l.ln.role == .withdrawn then l else l.sendSafe (2 ^ n) 0

/-- BRAKE_APPLY_START: T_a has come, and the brake state becomes APPLYING (09 R228). The BRL words of a ramp period are
formed 560 cycles ahead of it, so those of period 0 are formed with T_a. -/
def opBrakeApply (l : Lane) (n : Nat) : Lane :=
  let a := l.safetyOf n
  match a.taAt with
  | some t => if t ≤ l.now ∧ !a.held ∧ a.brk ≠ 2 then l.modSafety n fun a => { a with brk := 2, relAt := none } else l
  | none => l

/-- The cycle in which WCLK of this lane reaches `w` ns, or reached it, at its present rate (09 R228). -/
def Lane.cycleOf (l : Lane) (w : Nat) : Nat :=
  if l.wns < w then l.cycleAt w else l.now - (l.wns - w) * 2 ^ 32 / l.wgain 1

/-- The start of ramp period k, stated in WCLK (09 R228): T_a + k × BPER. -/
def Lane.rampStart (l : Lane) (n : Nat) : Nat :=
  let a := l.safetyOf n
  if a.rampK = 0 then a.taAt.getD 0 else l.cycleOf (a.tA.getD 0 + 1000 * (a.rampK * a.bper))

/-- The high-time of ramp period k in sixteenths of a cycle, from WCLK at its present rate: BPER (1 − (k + 1) BPER / (1000 BRAMP))
µs, to the nearest (09 R228); 0 where the ramp ends. -/
def Lane.rampHigh (l : Lane) (n : Nat) : Nat :=
  let a := l.safetyOf n
  let lost := (a.rampK + 1) * a.bper
  if a.bramp = 0 ∨ 1000 * a.bramp ≤ lost then 0
  else (rdiv (16 * 2 ^ 32 * (a.bper * (1000 * a.bramp - lost)) : Nat) (a.bramp * l.wgain 1)).toNat

/-- BRAKE_RAMP_PERIOD: the words of the next ramp period k are formed against WCLK, from 700 cycles before its start; the ramp
ends at the start of the first period without a high-time (09 R228). -/
def opBrakeRamp (l : Lane) (n : Nat) : Lane :=
  let a := l.safetyOf n
  if a.taAt.isNone then l
  else
    let start := l.rampStart n
    let high := l.rampHigh n
    let from_ := max start (l.now + 560)
    if l.now + 700 < start then l
    else if high = 0 then
      let l := if a.rampLow then l
        else (l.sendGate (37 + n) false (16 * from_)).modSafety n fun a => { a with rampLow := true }
      if start ≤ l.now then l.rampEnd n else l
    else
      let l := (l.sendGate (37 + n) true (16 * from_)).sendGate (37 + n) false (16 * start + high)
      l.modSafety n fun a => { a with rampK := a.rampK + 1 }

/-- QUENCH is seen (08 R210): every enabled axis enters its class safe state, by one SAFE word but for the brakes that apply by
a ramp; a running ramp continues. -/
def Lane.quench (l : Lane) : Lane :=
  if l.ln.quenched ∨ l.ln.role == .withdrawn ∨ !l.inRun then l
  else
    let l : Lane := { l with ln := { l.ln with quenched := true } }
    let l := l.each l.axes Lane.safeIdle
    let ramped := fun n => l.cls n == 2 && !(l.safetyOf n).held
    let now := maskOf 6 fun n => l.enabled n && !ramped n
    let l := l.each (l.axes.filter ramped) fun l n => l.enterSafe n true
    if now = 0 then l else l.sendSafe now 0

/-- A condition other than QUENCH is adopted (08 R210): LEAVE of every axis, disabled ones too, but those whose SAFE reaction the
lane holds. -/
def Lane.unquench (l : Lane) : Lane :=
  if !l.ln.quenched then l
  else
    let l := { l with ln := { l.ln with quenched := false, leaveOwed := false } }
    l.sendSafe 0 (maskOf 6 fun n => !(l.enabled n && (l.safetyOf n).safe))

/-- The SAFE axes that the lane holds by reaction, as a mask (09 R230); a BRAKE axis counts once its ramp has ended. -/
def Lane.safeMask (l : Lane) : Nat :=
  maskOf 6 fun n => l.enabled n && (l.safetyOf n).safe && (l.cls n != 2 || (l.safetyOf n).brk == 0)

/-- The reaction of a connection's loss on an axis (13 R316): 1 RAMP, 2 the class safe state. -/
def Lane.connReact (l : Lane) (n kind : Nat) : Lane :=
  if !l.enabled n ∨ !l.isActive then l
  else if kind = 1 then l.takeRamp n (l.rtOf n 0) (l.speed n)
  else l.takeSafe n

/-- A connection reaction ranks above what the axis holds (13 R316): QUENCH above RAMP above HOLD. -/
def Lane.connOutranks (l : Lane) (n kind : Nat) : Bool :=
  !(l.safetyOf n).safe && decide ((if (l.safetyOf n).ramp then 1 else 0) < kind)

/-- The reaction is taken and remembered as caused by the connections (13 R316, R317); codes 2 and 3 act as QUENCH. -/
def Lane.connApply (l : Lane) (n kind : Nat) : Lane :=
  let k := min 2 kind
  if !l.isActive ∨ !l.enabled n ∨ !l.connOutranks n k then l
  else
    let l := l.connReact n k
    { l with env := { l.env with caused := l.env.caused ||| 2 ^ n } }

/-- The safety state of an axis as the LANE record carries it (09 R230). -/
def Lane.safeRec (l : Lane) (n : Nat) : SafeRec :=
  let a := l.safetyOf n
  { clampBy := a.clampBy, blockPos := a.blockPos, blockNeg := a.blockNeg, ramp := a.ramp, rampRt := a.rampRt,
    safe := a.safe, stopped := a.stopped, cnt := a.cnt, stopCnt := a.stopCnt, m := a.m, e := a.e, pref := a.pref,
    brk := a.brk, tRel := a.tRel, tA := a.tA, bper := a.bper, bramp := a.bramp }

/-- The first period of a ramp from cycle `ta` that starts at least 560 cycles from now (09 R228). -/
def Lane.joinAt (l : Lane) (ta bper : Nat) : Nat :=
  let d := us (max 1 bper)
  if l.now + 560 ≤ ta then 0 else (l.now + 560 - ta + d - 1) / d

/-- The brake state of an axis adopted from a LANE record (09 R228, R230, 07 R182): RELEASED forms the BRL high word at T_rel, or 560
cycles on; a T_a joins its ramp; APPLIED ends what still runs here. A ramp of this lane's own QUENCH stands. -/
def Lane.adoptBrake (l : Lane) (n : Nat) (r : SafeRec) : Lane :=
  let was := l.safetyOf n
  if was.forQuench ∧ was.taAt.isSome then l
  else
    let low := 16 * (l.now + 560)
    let copies := fun (l : Lane) => l.modSafety n fun a => { a with brk := r.brk, tRel := r.tRel, tA := r.tA, bper := r.bper, bramp := r.bramp }
    if l.cls n ≠ 2 then copies l
    else
      match r.tA with
      | some w =>
        if was.tA = some w then copies l
        else
          let ta := l.cycleOf w
          (copies l).modSafety n fun a =>
            { a with taAt := some ta, relAt := none, rampK := l.joinAt ta r.bper, rampLow := false }
      | none =>
        if r.brk = 1 ∨ r.tRel.isSome then
          let t := (r.tRel.map l.cycleOf).getD l.now
          let t := if l.now + 700 ≤ t then t else l.now + 560
          let high := was.brk = 1 ∨ was.relAt.isSome
          let l := if high then l else l.sendGate (37 + n) true (16 * t)
          (copies l).modSafety n fun a =>
            { a with relAt := if r.brk = 1 then none else if high then was.relAt else some t, taAt := none, rampLow := false }
        else if was.taAt.isSome then
          copies ((if was.rampLow then l else l.sendGate (37 + n) false low).rampEnd n)
        else
          (copies (if was.held then l else l.sendGate (37 + n) false low)).modSafety n fun a => { a with relAt := none }

/-- The safety state of an axis adopted from a LANE record, over the lane's own copies (09 R230). A counter that stands at RT in it
has had its reaction in the lane that sent it. -/
def Lane.adoptSafe (l : Lane) (n : Nat) (r : SafeRec) : Lane :=
  if !l.enabled n then l
  else
    let was := l.safetyOf n
    let l := l.modSafety n fun a =>
      { a with clampBy := r.clampBy, blockPos := r.blockPos, blockNeg := r.blockNeg, ramp := r.ramp,
               rampAt := if was.ramp then was.rampAt else l.now,
               rampRt := r.rampRt, safe := r.safe, stopped := r.stopped, cnt := r.cnt, stopCnt := r.stopCnt,
               m := r.m, e := r.e, pref := r.pref,
               told := maskOf 3 fun f => decide (l.rtOf n f ≤ vget r.cnt f 0) }
    let l := l.adoptBrake n r
    if r.safe ∧ !was.safe then
      let l := l.safeIdle n
      if l.cls n = 2 ∧ !(l.safetyOf n).held then l else l.sendSafe (2 ^ n) 0
    else if !r.safe ∧ was.safe ∧ !l.ln.quenched then l.sendSafe 0 (2 ^ n)
    else l

end Sys2Proof.Machine
end

