-- ==== Sys2Proof/Machine/Feedback.lean ====
section
/-! DEFINITION. Position and speed feedback: counters, index, toothed wheels, Hall, SENT, the speed estimator, the
cross-checks and sensor faults (03). -/

namespace Sys2Proof.Machine

/-- Unit n is not idle: FU0 to FU5 serve the axes, and the unit of a disabled axis is idle (01 R30). -/
def Lane.unitOn (l : Lane) (n : Nat) : Bool := l.enabled n || n == 6 || n == 7

/-- MODE of unit n: 1 quadrature (FU0 to FU5 only), 2 toothed, 0 off (03 Table 3.10); off in an idle unit. -/
def Lane.fbMode (l : Lane) (n : Nat) : Nat :=
  let m := l.fld (Reg.FB_CFG n) 0 2
  if !l.unitOn n then 0 else if m = 2 ∧ n < 8 then 2 else if m = 1 ∧ n < 6 then 1 else 0

/-- HALL_EN of unit n; FU6 and FU7 have no Hall decoder (03 Table 3.1). -/
def Lane.hallOn (l : Lane) (n : Nat) : Bool := decide (n < 6) && l.unitOn n && l.rbit (Reg.FB_CFG n) 6

/-- SENT_EN of unit n; FU6 and FU7 have no SENT receiver (03 Table 3.1). -/
def Lane.sentOn (l : Lane) (n : Nat) : Bool := decide (n < 6) && l.unitOn n && l.rbit (Reg.FB_CFG n) 7

/-- SSRC: 0 counter, 1 Hall, 2 SENT, 3 none; FU6 and FU7 have only the counter (03 Tables 3.1, 3.10). -/
def Lane.ssrc (l : Lane) (n : Nat) : Nat :=
  let s := l.fld (Reg.FB_CFG n) 8 2
  if 6 ≤ n ∧ s ≠ 0 then 3 else s

/-- QCPR (03 Table 3.10). -/
def Lane.qcpr (l : Lane) (n : Nat) : Nat := l.fld (Reg.FB_CFG n) 16 16

/-- SRC of PTn (02 Table 2.2). -/
def Lane.ptSrc (l : Lane) (n : Nat) : Nat := l.fld (Reg.TL_PT_CFG n) 16 2

/-- The timebase source of PTn matches the speed source of FUn (03 R82). -/
def Lane.srcMatch (l : Lane) (n : Nat) : Bool :=
  match l.ptSrc n with
  | 0 => l.ssrc n == 0 && l.fbMode n == 1
  | 1 => l.ssrc n == 1
  | 2 => l.ssrc n == 2
  | _ => l.ssrc n == 0 && l.fbMode n == 2

/-- TSS in cycles (03 Table 3.19). -/
def Lane.tss (l : Lane) (n : Nat) : Nat := us (max 100 (l.fld (Reg.FB_TSS n) 0 20))

/-- The fault latch of a source: 0 counter, 1 Hall, 2 SENT (03 R85). -/
def Unit.faultOf (u : Unit) (src : Nat) : Bool :=
  match src with
  | 0 => u.cntFault
  | 1 => u.hallFault
  | _ => u.sentFault

/-- The unit with a fault latch set or cleared. -/
def Unit.withFault (u : Unit) (src : Nat) (v : Bool) : Unit :=
  match src with
  | 0 => { u with cntFault := v }
  | 1 => { u with hallFault := v }
  | _ => { u with sentFault := v }

/-- The source of a timebase: 0 counter (quadrature or toothed), 1 Hall, 2 SENT (02 Table 2.2). -/
def ptSource (src : Nat) : Nat := if src = 3 then 0 else src

/-- A sensor fault (03 R85): latched once, flagged, with an EVT record; the timebases that follow the source clear PT_VALID;
a deferred cause on an enabled axis (08 Table 8.4). -/
def Lane.sensorFault (l : Lane) (n src : Nat) : Lane :=
  if (l.unit n).faultOf src then l
  else
    let l := l.modUnit n fun u => u.withFault src true
    let l := l.flagEvt (Reg.FB_STATUS n) Bit.FB_SENSOR_FAULT 0x06 n
    let l := if ptSource (l.ptSrc n) = src ∧ (l.ptOf n).valid then
        let was := 2 ^ n
        (l.unsyncPt n).ptLosses was
      else if l.ssrc n = src then l.ratePt n 0
      else l
    if n < 6 ∧ l.enabled n then l.deferCause 0x12 n else l

/-- The rate handed to PTn follows the speed of FUn (03 R82), without a snap. -/
def Lane.followRate (l : Lane) (n : Nat) : Lane :=
  if l.srcMatch n then l.ratePt n (l.ptRate n (l.fbSpeed n)) else l

/-- A feedback event of a source presents COUNT: PTn snaps where it follows that source, and a timebase source that does not match
the speed source is a conflict (02 R43, 03 R82). -/
def Lane.present (l : Lane) (n src : Nat) (count : Int) : Lane :=
  if !l.srcMatch n then l.flag (Reg.FB_STATUS n) Bit.FB_SRC_CONFLICT
  else if l.ptSrc n ≠ src then l.followRate n
  else l.snapPt n count (l.ptRate n (l.fbSpeed n))

/-- The limit of SPEED with its 8 fraction bits: 8,388,607.996 counts/s (03 R83). -/
def spdMax : Nat := 2 ^ 31 - 1

/-- n counts in `dt` cycles as SPEED, before saturation (03 R80): n × 250,000,000 / dt with 8 fraction bits. -/
def spdOf (rev : Bool) (n dt : Nat) : Int :=
  let v := rdiv (64000000000 * (n : Int)) (max 1 dt)
  if rev then -v else v

/-- An interval estimate made by the estimator; it reaches CROSS: window mode begins (03 R81). -/
def Estimator.estimate (e : Estimator) (rev : Bool) (n t cross : Nat) : Estimator :=
  let v := spdOf rev n (t - e.tPrev)
  let win := decide (cross ≠ 0) && decide (256 * cross ≤ v.natAbs)
  { e with state := .run, speed := clampAbs spdMax v, tPrev := t, winMode := win, tRef := t, tLast := t, n := 0, rev := rev }

/-- A committed update of n counts with its edge at t (03 R80). -/
def Estimator.commit (e : Estimator) (rev : Bool) (n : Nat) (reversal : Bool) (t cross : Nat) : Estimator :=
  let e := { e with lastUpd := t }
  if reversal then { e with state := .reversal, speed := 0, tPrev := t, winMode := false, rev := rev }
  else
    match e.state with
    | .standstill => { e with state := .firstEdge, speed := 0, tPrev := t, winMode := false, rev := rev }
    | .deHold => if e.deFirst then { e with deFirst := false, tPrev := t } else e.estimate rev n t cross
    | .firstEdge | .reversal => e.estimate rev n t cross
    | .run =>
      if e.winMode then { e with tPrev := t, tLast := t, n := e.n + n } else e.estimate rev n t cross

/-- The edge time of what is presented now (03 R65): three cycles before. -/
def Lane.edgeCycle (l : Lane) : Nat := l.now - 3

/-- The estimator of unit n takes a committed update of its source (03 R80, R83). -/
def Lane.update (l : Lane) (n src k : Nat) (rev reversal : Bool) : Lane :=
  if l.ssrc n ≠ src then l
  else
    let cross := l.fld (Reg.FB_SPDCFG n) 0 24
    let l := l.modUnit n fun u => { u with est := u.est.commit rev k reversal l.edgeCycle cross }
    l.flagIf (decide (spdMax ≤ (l.unit n).est.speed.natAbs)) (Reg.FB_STATUS n) Bit.FB_SPD_SAT

/-- A double edge or Hall skip of the speed source (03 R80): DE_HOLD, except at standstill. -/
def Lane.hold (l : Lane) (n src : Nat) : Lane :=
  if l.ssrc n ≠ src then l
  else l.modUnit n fun u =>
    if u.est.state = .standstill then u
    else { u with est := { u.est with state := .deHold, deFirst := true, winMode := false } }

/-- The count d = ±1 under the one-count hysteresis (03 R68): the counter after it, the counts committed, and whether a
reversal commits. -/
def Counter.count (c : Counter) (rev : Bool) : Counter × Nat × Bool :=
  let d : Word := if rev then 0xFFFFFFFF else 1
  if !c.pending then
    if rev = c.rev then ({ c with pos := c.pos + d }, 1, false) else ({ c with pending := true }, 0, false)
  else if rev = c.rev then ({ c with pending := false }, 0, false)
  else ({ c with pos := c.pos + 2 * d, rev := rev, pending := false }, 2, true)

/-- The pending count as a number: against DIR (03 R68). -/
def Counter.pend (c : Counter) : Word := if !c.pending then 0 else if c.rev then 1 else 0xFFFFFFFF

/-- One single-line count of travel in the double-edge window (03 R67): it restarts at every QCPR counts; 0 disables it. -/
def Counter.travel (c : Counter) (qcpr : Nat) : Counter :=
  if qcpr ≤ c.winTravel + 1 then { c with winTravel := 0, winDe := 0 } else { c with winTravel := c.winTravel + 1 }

/-- The gated index condition at these line levels (03 R69): QZ active, and with ZGEN also {QA, QB} at ZGATE. -/
def Lane.indexGate (l : Lane) (n : Nat) (qz a b : Bool) : Bool :=
  (qz != l.rbit (Reg.FB_IDX n) 4) && (!l.rbit (Reg.FB_IDX n) 3 || decide (l.fld (Reg.FB_IDX n) 0 2 = 2 * b2n a + b2n b))

/-- {QA, QB} becomes `a`, `b`: an index condition that stood gated on them holds on only at ZGATE (03 R69). -/
def Lane.quadLines (l : Lane) (n : Nat) (a b : Bool) : Lane :=
  let held := (l.unit n).cnt.idxHeld && l.indexGate n (!l.rbit (Reg.FB_IDX n) 4) a b
  l.modUnit n fun u => { u with cnt := { u.cnt with idxHeld := held } }

/-- QUAD_COUNT: {QA, QB} goes from one sample to the next by exactly one line (03 R66, R68). -/
def opQuad (l : Lane) (n : Nat) (a0 b0 a1 b1 : Bool) : Lane :=
  if !l.alive ∨ l.fbMode n ≠ 1 ∨ (a0 == a1) = (b0 == b1) then l
  else
    let rev := a1 == b0
    let l := (l.quadLines n a1 b1).modUnit n fun u => { u with cnt :=
      { u.cnt with raw := if rev then u.cnt.raw - 1 else u.cnt.raw + 1 } }
    if (l.unit n).cntFault then l
    else
      let q := l.qcpr n
      let r := ((l.unit n).cnt.travel q).count rev
      let l := l.modUnit n fun u => { u with cnt := r.1 }
      if r.2.1 = 0 then l
      else (l.update n 0 1 rev r.2.2).present n 0 r.1.pos.toInt

/-- DOUBLE_EDGE: QA and QB change in the same sample (03 R67). -/
def opDoubleEdge (l : Lane) (n : Nat) : Lane :=
  if !l.alive ∨ l.fbMode n ≠ 1 then l
  else
    let l := l.modUnit n fun u => { u with cnt := { u.cnt with
      deTotal := satAdd 0xFFFF u.cnt.deTotal 1,
      winDe := if l.qcpr n = 0 then 0 else u.cnt.winDe + 1,
      idxHeld := u.cnt.idxHeld && !l.rbit (Reg.FB_IDX n) 3 } }
    let l := (l.hold n 0).flag (Reg.FB_STATUS n) Bit.FB_DOUBLE_EDGE
    if l.fld (Reg.FB_LIM n) 0 8 < (l.unit n).cnt.winDe then l.sensorFault n 0 else l

/-- A value before the changes of this cycle, from the record of them (03 R70, Table 3.7). -/
def asWas {α : Type} (now : Nat) (was : Option (Nat × α)) (v : α) : α :=
  match was with
  | some (t, x) => if t = now then x else v
  | none => v

/-- The record of a value before its first change in this cycle. -/
def noteWas {α : Type} (now : Nat) (was : Option (Nat × α)) (v : α) : Option (Nat × α) := some (now, asWas now was v)

/-- The index resets the counter: POS + PENDING becomes IDXVAL as it stood before this cycle; XOFF and SOFF start again (03 R69,
R84, Table 3.7). -/
def Lane.indexReset (l : Lane) (n : Nat) : Lane :=
  let v := asWas l.now (l.unit n).cnt.idxValWas (l.reg (Reg.FB_IDXVAL n))
  let l := l.modUnit n fun u =>
    { u with cnt := { u.cnt with pos := v - u.cnt.pend },
             xchk := { u.xchk with xoff := none, soff := none, hRun := 0, sRun := 0 } }
  l.present n 0 (l.unit n).cnt.pos.toInt

/-- An index event: the index position is captured, and the counter resets as IDXMODE and the arming state say (03 R69, R70). An
ARM or DISARM of this cycle acts after it. A faulted counter keeps its POS (log 31). -/
def Lane.indexEvent (l : Lane) (n : Nat) : Lane :=
  let l := l.modUnit n fun u => { u with cnt := { u.cnt with idxPos := u.cnt.pos + u.cnt.pend } }
  let l := l.flag (Reg.FB_STATUS n) Bit.FB_INDEX_SEEN
  let c := (l.unit n).cnt
  let arm := asWas l.now c.armWas c.arm
  if (l.unit n).cntFault then l
  else
    match l.fld (Reg.FB_IDX n) 8 2 with
    | 1 => l.indexReset n
    | 2 =>
      if arm = .armed then
        (l.indexReset n).modUnit n fun u => { u with cnt := { u.cnt with arm := if c.arm = arm then .fired else c.arm } }
      else l
    | _ => l

/-- INDEX_EVENT: the levels of QZ, QA and QB as presented in this cycle (03 R69): the index event comes when the gated condition
becomes true. In toothed mode QZ is ignored. -/
def opIndex (l : Lane) (n : Nat) (qz a b : Bool) : Lane :=
  if !l.alive ∨ l.fbMode n ≠ 1 then l
  else
    let held := (l.unit n).cnt.idxHeld
    let gate := l.indexGate n qz a b
    let l := l.modUnit n fun u => { u with cnt := { u.cnt with idxHeld := gate } }
    if gate && !held then l.indexEvent n else l

/-- The arming state of unit n changes by a command; an index event of this cycle sees the one before (03 R70). -/
def Lane.setArm (l : Lane) (n : Nat) (a : ArmState) : Lane :=
  l.modUnit n fun u => { u with cnt := { u.cnt with armWas := noteWas l.now u.cnt.armWas u.cnt.arm, arm := a } }

/-- ARM (03 Table 3.3): true where it is taken. -/
def Lane.armIndex (l : Lane) (n : Nat) : Lane × Bool :=
  if (l.unit n).cnt.arm = .disarmed then (l.setArm n .armed, true)
  else (l.flag (Reg.FB_STATUS n) Bit.FB_ARM_REFUSED, false)

/-- DISARM (03 Table 3.3). -/
def Lane.disarmIndex (l : Lane) (n : Nat) : Lane := l.setArm n .disarmed

/-- GAP, clamped to its range (03 Table 3.14). -/
def Lane.gap (l : Lane) (n : Nat) : Nat := between 0x140 0x300 (l.fld (Reg.FB_TOOTH n) 16 10)

/-- REFTYPE: an extra-tooth wheel (03 Table 3.14). -/
def Lane.extraWheel (l : Lane) (n : Nat) : Bool := l.rbit (Reg.FB_TOOTH n) 15

/-- MISS; 0 for an extra-tooth wheel (03 Table 3.14). -/
def Lane.miss (l : Lane) (n : Nat) : Nat := if l.extraWheel n then 0 else max 1 (l.fld (Reg.FB_TOOTH n) 8 2)

/-- NTOOTH (03 Table 3.14). -/
def Lane.nTooth (l : Lane) (n : Nat) : Nat := l.fld (Reg.FB_TOOTH n) 0 8

/-- THRESH with 8 fraction bits from an interval (03 R72). -/
def Lane.threshOf (l : Lane) (n iv : Nat) : Nat :=
  if l.extraWheel n then (rdiv (65536 * (iv : Int)) (l.gap n)).toNat else iv * l.gap n

/-- The direction of a tooth: reverse (03 R74). -/
def Lane.toothRev (l : Lane) (n : Nat) (qb : Bool) : Bool :=
  match l.fld (Reg.FB_CFG n) 10 2 with
  | 0 => if n < 6 then (l.unit n).hall.rev else false
  | 1 => if n < 6 then !qb else false
  | 2 => false
  | _ => true

/-- A tooth count that does not match (03 R72, R73): three in a row fault the counter. -/
def Lane.mismatch (l : Lane) (n : Nat) : Lane :=
  let l := l.modUnit n fun u =>
    { u with tooth := { u.tooth with mmTotal := satAdd 0xFF u.tooth.mmTotal 1, misRun := min 3 (u.tooth.misRun + 1) } }
  let l := l.flag (Reg.FB_STATUS n) Bit.FB_COUNT_MISMATCH
  if (l.unit n).tooth.misRun = 3 then l.sensorFault n 0 else l

/-- The tooth position and the estimator after a classified tooth: `pos` and n counts (03 R72). -/
def Lane.placeTooth (l : Lane) (n pos k : Nat) (rev reversal : Bool) : Lane :=
  if (l.unit n).cntFault then l
  else
    let l := l.modUnit n fun u => { u with cnt := { u.cnt with pos := BitVec.ofNat 32 pos, rev := rev } }
    let l := l.update n 0 k rev reversal
    if (l.unit n).tooth.sync then l.present n 3 (pos : Int) else l

/-- A reference tooth (03 R72, R73, R84). -/
def Lane.refTooth (l : Lane) (n : Nat) (rev reversal : Bool) : Lane :=
  let tt := (l.unit n).tooth
  let nt := l.nTooth n
  let l := if !tt.sync then
      l.modUnit n fun u => { u with xchk := { u.xchk with xoff := none, soff := none, hRun := 0, sRun := 0 } }
    else
      let l := l.modUnit n fun u => { u with tooth := { u.tooth with teethLast := u.tooth.teeth } }
      if tt.teeth ≠ nt then l.mismatch n
      else l.modUnit n fun u => { u with tooth := { u.tooth with misRun := 0 } }
  let l := l.modUnit n fun u => { u with tooth := { u.tooth with teeth := 1, sync := true } }
  l.placeTooth n (if rev then nt - 1 else 0) (l.miss n + 1) rev reversal

/-- An ordinary tooth (03 R72). -/
def Lane.ordTooth (l : Lane) (n : Nat) (rev reversal : Bool) : Lane :=
  let cpr := max 1 (l.nTooth n + l.miss n)
  let p := (l.unit n).cnt.pos.toNat % cpr
  let pos := if rev then (p + cpr - 1) % cpr else (p + 1) % cpr
  let l := l.placeTooth n pos 1 rev reversal
  let l := l.modUnit n fun u => { u with tooth := { u.tooth with teeth := min 256 (u.tooth.teeth + 1) } }
  let tt := (l.unit n).tooth
  if tt.sync && decide (l.nTooth n < tt.teeth) then
    (l.mismatch n).modUnit n fun u => { u with tooth := { u.tooth with teeth := 1 } }
  else l

/-- TOOTH: an edge of the train, with the level of QBn; TEDGE selects the edge that is a tooth (03 R72). -/
def opTooth (l : Lane) (n : Nat) (falling qb : Bool) : Lane :=
  if !l.alive ∨ l.fbMode n ≠ 2 ∨ falling ≠ l.rbit (Reg.FB_TOOTH n) 14 ∨ (l.unit n).cntFault then l
  else
    let tt := (l.unit n).tooth
    let t := l.edgeCycle
    match tt.tLast with
    | none =>
      let rev := l.toothRev n qb
      (l.modUnit n fun u => { u with tooth := { u.tooth with tLast := some t, rev := rev } }).ordTooth n rev false
    | some t0 =>
      let iv := t - t0
      let judged := decide (2 ≤ tt.ivs) && tt.thresh.isSome
      let th := tt.thresh.getD 0
      let l := l.flagIf (judged && tt.owed.isSome) (Reg.FB_STATUS n) Bit.FB_TOOTH_FAST
      if l.extraWheel n && !tt.extra && judged && decide (256 * iv ≤ th) then
        l.modUnit n fun u => { u with tooth := { u.tooth with extra := true } }
      else
        let rev := l.toothRev n qb
        let reversal := rev != tt.rev
        let isRef := if l.extraWheel n then tt.extra else judged && decide (th ≤ 256 * iv)
        let l := l.modUnit n fun u => { u with tooth := { u.tooth with
          tLast := some t, iv := iv, ivs := min 2 (u.tooth.ivs + 1), owed := some iv, rev := rev, extra := false } }
        if isRef then l.refTooth n rev reversal else l.ordTooth n rev reversal

/-- THRESH_LOAD: the FBE loads the threshold for the next tooth (03 R72). -/
def opThreshLoad (l : Lane) (n : Nat) : Lane :=
  match (l.unit n).tooth.owed with
  | none => l
  | some iv =>
    if !l.alive then l
    else
      let th := l.threshOf n iv
      l.modUnit n fun u => { u with tooth := { u.tooth with thresh := some th, owed := none } }

/-- The Hall cross-check runs: both sources enabled and sound, a tolerance, and QCPR (03 R84, Table 3.10). -/
def Lane.hallCheckOn (l : Lane) (n : Nat) : Bool :=
  let u := l.unit n
  l.hallOn n && decide (l.fbMode n ≠ 0) && decide (l.qcpr n ≠ 0) && decide (l.fld (Reg.FB_XCHK n) 0 8 ≠ 0) &&
    !u.cntFault && !u.hallFault

/-- The SENT cross-check runs (03 R84). -/
def Lane.sentCheckOn (l : Lane) (n : Nat) : Bool :=
  let u := l.unit n
  l.sentOn n && decide (l.fbMode n ≠ 0) && decide (l.qcpr n ≠ 0) && decide (l.fld (Reg.FB_XCHK n) 8 8 ≠ 0) &&
    !u.cntFault && !u.sentFault

/-- XLIM; 0 acts as 1 (03 Table 3.20). -/
def Lane.xlim (l : Lane) (n : Nat) : Nat := max 1 (l.fld (Reg.FB_XCHK n) 16 4)

/-- Blame for persistent checks (03 R84). -/
def Lane.blame (l : Lane) (n : Nat) : Lane :=
  let x := (l.unit n).xchk
  let h := l.hallCheckOn n && x.xoff.isSome
  let s := l.sentCheckOn n && x.soff.isSome
  let ph := h && decide (l.xlim n ≤ x.hRun)
  let ps := s && decide (l.xlim n ≤ x.sRun)
  if ph && ps then l.sensorFault n 0
  else if ph then
    if !s then (l.sensorFault n 0).sensorFault n 1 else if x.sRun = 0 then l.sensorFault n 1 else l
  else if ps then
    if !h then (l.sensorFault n 0).sensorFault n 2 else if x.hRun = 0 then l.sensorFault n 2 else l
  else l

/-- The cross-check at a committed Hall transition across boundary k | k + 1 (03 R84): HDIFF is the counter's angle minus the
boundary (log 31). -/
def Lane.hallCheck (l : Lane) (n k : Nat) : Lane :=
  if !l.hallCheckOn n then l
  else
    let u := l.unit n
    let q := l.qcpr n
    let m := (u.cnt.pos.toInt % (q : Int)).toNat
    let el := rdiv ((m * max 1 (l.fld (Reg.FB_HOFF n) 16 4) * 65536 : Nat) : Int) q
    let bd : Int := (l.fld (Reg.FB_HOFF n) 0 16 : Nat) + rdiv (((k + 1) * 65536 : Nat) : Int) 6
    match u.xchk.xoff with
    | none => l.modUnit n fun u => { u with xchk := { u.xchk with xoff := some ((bd - el) % 65536).toNat } }
    | some xo =>
      let d := signed 16 ((el + (xo : Int) - bd) % 65536).toNat
      let bad := decide (256 * l.fld (Reg.FB_XCHK n) 0 8 < d.natAbs)
      let l := l.modUnit n fun u => { u with xchk := { u.xchk with
        hdiff := d, hRun := if bad then min 15 (u.xchk.hRun + 1) else 0 } }
      (l.flagIf bad (Reg.FB_STATUS n) Bit.FB_XCHK_HALL).blame n

/-- An invalid or skip event of the Hall decoder (03 R76): more than HALL_LIM of them within six valid transitions fault it. -/
def Lane.hallEvent (l : Lane) (n : Nat) : Lane :=
  let l := l.modUnit n fun u => { u with hall := { u.hall with events := 0 :: u.hall.events } }
  if l.fld (Reg.FB_LIM n) 8 8 < (l.unit n).hall.events.length then l.sensorFault n 1 else l

/-- The index of Hall state s by MAP; none for an invalid state (03 R76, Table 3.15). -/
def Lane.hallIndex (l : Lane) (n s : Nat) : Option Nat :=
  if s = 0 ∨ 7 ≤ s then none
  else
    let i := l.fld (Reg.FB_HALL n) (3 * s - 3) 3
    if i < 6 then some i else none

/-- A Hall index change of one position under its own hysteresis (03 R76, R68): the decoder after it, and whether it commits
and reverses. -/
def Hall.step (h : Hall) (i : Nat) (rev : Bool) : Hall × Bool × Bool :=
  -- an event drops out once six valid transitions have followed it
  let t := { h with seen := i, events := (h.events.map (· + 1)).filter fun a => decide (a < 6) }
  if !h.hasDir then ({ t with idx := i, rev := rev, hasDir := true }, true, false)
  else if !h.pending then
    if rev = h.rev then ({ t with idx := i }, true, false) else ({ t with pending := true }, false, false)
  else if rev = h.rev then ({ t with pending := false }, false, false)
  else ({ t with idx := i, rev := rev, pending := false }, true, true)

/-- HALL_CHANGE: the synchronised Hall state becomes s = {HW, HV, HU} (03 R76). -/
def opHall (l : Lane) (n s : Nat) : Lane :=
  if !l.alive ∨ !l.hallOn n ∨ (l.unit n).hallFault then l
  else
    let h := (l.unit n).hall
    match l.hallIndex n s with
    | none =>
      let l := l.modUnit n fun u => { u with hall := { u.hall with
        idx := 7, seen := 7, pending := false, invalidAt := some (u.hall.invalidAt.getD l.edgeCycle) } }
      (l.flag (Reg.FB_STATUS n) Bit.FB_HALL_INVALID).hallEvent n
    | some i =>
      let l := l.modUnit n fun u => { u with hall := { u.hall with invalidAt := none } }
      if h.seen = 7 then
        (l.modUnit n fun u => { u with hall := { u.hall with idx := i, seen := i, pending := false } }).present n 1 (i : Int)
      else
        match (i + 6 - h.seen) % 6 with
        | 0 => l
        | 1 | 5 =>
          let rev := decide ((i + 6 - h.seen) % 6 = 5)
          let r := (l.unit n).hall.step i rev
          let l := l.modUnit n fun u => { u with hall := r.1 }
          if !r.2.1 then l
          else
            let l := (l.update n 1 1 rev r.2.2).present n 1 (i : Int)
            l.hallCheck n (if rev then i else (i + 5) % 6)
        | _ =>
          let l := l.modUnit n fun u => { u with hall := { u.hall with idx := i, seen := i, pending := false } }
          let l := ((l.hold n 1).flag (Reg.FB_STATUS n) Bit.FB_HALL_SKIP).present n 1 (i : Int)
          l.hallEvent n

/-- HALL_INVALID_TIMEOUT: an invalid state has persisted for TSS (03 R76). -/
def opHallTimeout (l : Lane) (n : Nat) : Lane :=
  match (l.unit n).hall.invalidAt with
  | none => l
  | some t => if l.alive && l.hallOn n && elapsed l.now t (l.tss n) then l.sensorFault n 1 else l

/-- The value of a SENT nibble: its interval ÷ tick − 12, rounded (03 R78). -/
def nibbleOf (sync iv : Nat) : Nat := min 15 ((rdiv (56 * iv : Nat) sync).toNat - 12)

/-- A nibble interval lies within 11.5 to 27.5 ticks (03 R78). -/
def nibbleOk (sync iv : Nat) : Bool := decide (23 * sync ≤ 112 * iv) && decide (112 * iv ≤ 55 * sync)

/-- The fast-channel CRC of data nibbles (03 Table 3.5): seed 0b0101 and an appended zero nibble, with the polynomial
x⁴ + x³ + x² + 1 of SAE J2716 (log 20, PRESUMED). -/
def sentCrc (data : List Nat) : Nat := shiftCrc 4 0x1D 5 ((data ++ [0]).flatMap (bitsOf 4))

/-- The CRC nibble of a frame matches its data nibbles; the status nibble is not covered (03 R78; log 20). -/
def SentFrame.crcOk (f : SentFrame) : Bool :=
  let vs := f.nibbles.map (nibbleOf f.sync)
  sentCrc ((vs.drop 1).dropLast) == vs.getLastD 0

/-- The kind of error of a SENT frame (03 R78, Table 3.5): 0 none, 1 TICK, 2 NIB, 3 CRC. -/
def Lane.sentError (l : Lane) (n : Nat) (f : SentFrame) : Nat :=
  let jump : Bool := match (l.unit n).sent.prevSync with
    | some p => decide (p < 64 * ((f.sync : Int) - p).natAbs)
    | none => false
  let want := if l.rbit (Reg.FB_SENT n) 0 then 8 else 5
  let pauseOk := match f.pause with
    | some p => l.rbit (Reg.FB_SENT n) 1 && decide (12 * f.sync ≤ 56 * p) && decide (56 * p ≤ 768 * f.sync)
    | none => !l.rbit (Reg.FB_SENT n) 1
  if f.sync < 35000 ∨ 56000 < f.sync ∨ jump then 1
  else if f.nibbles.length ≠ want ∨ !f.nibbles.all (nibbleOk f.sync) ∨ !pauseOk then 2
  else if !f.crcOk then 3
  else 0

/-- The SENT cross-check at an accepted frame (03 R84). -/
def Lane.sentCheck (l : Lane) (n angle : Nat) : Lane :=
  if !l.sentCheckOn n then l
  else
    let u := l.unit n
    let q := l.qcpr n
    let lat := rdiv (l.fbSpeed n * (l.fld (Reg.FB_XCHK n) 20 12 : Nat)) 256000000
    let m := (((l.apos n).toInt - lat) % (q : Int)).toNat
    let me := rdiv ((m * 4096 : Nat) : Int) q
    match u.xchk.soff with
    | none => l.modUnit n fun u => { u with xchk := { u.xchk with soff := some (((angle : Int) - me) % 4096).toNat } }
    | some so =>
      let d := signed 12 (((angle : Int) - me - (so : Int)) % 4096).toNat
      let bad := decide (l.fld (Reg.FB_XCHK n) 8 8 < d.natAbs)
      let l := l.modUnit n fun u => { u with xchk := { u.xchk with
        sdiff := d, sRun := if bad then min 15 (u.xchk.sRun + 1) else 0 } }
      (l.flagIf bad (Reg.FB_STATUS n) Bit.FB_XCHK_SENT).blame n

/-- The 6-bit CRC of an enhanced serial message (03 Table 3.5): over bits 2 and 3 of its frames 7 to 18 in turn, polynomial
x⁶ + x⁴ + x³ + 1, seed 0b010101 and six appended zeros, as SAE J2716 has it (log 20, PRESUMED). -/
def serialCrc (fr : List (Bool × Bool)) : Nat :=
  shiftCrc 6 0x59 0x15 (((fr.drop 6).flatMap fun x => [x.2, x.1]) ++ List.replicate 6 false)

/-- A list of bits, high bit first, as a number. -/
def bitsVal (bs : List Bool) : Nat := bs.foldl (fun a b => 2 * a + b.toNat) 0

/-- Bits 3 of 18 frames spell the start of an enhanced serial message: six ones, then zeros at frames 7, 13 and 18 (log 20,
PRESUMED). -/
def serialStarts (b3 : List Bool) : Bool :=
  (b3.take 6).all (fun b => b) && !b3.getD 6 true && !b3.getD 12 true && !b3.getD 17 true

/-- The serial message that an accepted frame may complete (03 R78, Table 3.27): C, ID and DATA as bits 3 and 2 of 18 status nibbles
spell them; one whose CRC fails is counted in SER. -/
def Lane.sentSerial (l : Lane) (n st : Nat) : Lane :=
  if !l.rbit (Reg.FB_SENT n) 2 then l.modUnit n fun u => { u with sent := { u.sent with serial := [] } }
  else
    let hist := ((st.testBit 3, st.testBit 2) :: (l.unit n).sent.serial).take 18
    let fr := hist.reverse
    let b3 := fr.map (·.1)
    let b2 := fr.map (·.2)
    if hist.length < 18 ∨ !serialStarts b3 then l.modUnit n fun u => { u with sent := { u.sent with serial := hist } }
    else if serialCrc fr ≠ bitsVal (b2.take 6) then
      l.modUnit n fun u => { u with sent := { u.sent with serial := [], errSer := satAdd 0xFF u.sent.errSer 1 } }
    else
      let c := b3.getD 7 false
      let hi := bitsVal ((b3.drop 8).take 4)
      let lo := bitsVal ((b3.drop 13).take 4)
      let data := bitsVal (b2.drop 6)
      l.modUnit n fun u => { u with sent := { u.sent with
        serial := [], serC := c, serNew := true, serId := if c then hi else 16 * hi + lo,
        serData := if c then 4096 * lo + data else data } }

/-- A SENT frame is accepted (03 R78 to R80, R84): a faulted source keeps its ANGLE. A difference of 0 is no committed update
(log 31). -/
def Lane.sentAccept (l : Lane) (n : Nat) (f : SentFrame) : Lane :=
  let nib := fun i => nibbleOf f.sync (f.nibbles.getD i 0)
  let angle := (nib 1 * 256 + nib 2 * 16 + nib 3) % 4096
  let s := (l.unit n).sent
  let d := signed 12 (angle + 4096 - s.angle)
  let had := decide (1 ≤ s.accRun) || s.valid
  let l := (l.modUnit n fun u => { u with sent := { u.sent with
    accRun := min 2 (u.sent.accRun + 1), valid := u.sent.valid || decide (1 ≤ u.sent.accRun),
    lastAt := l.now, lost := false } }).sentSerial n (nib 0)
  if (l.unit n).sentFault then l
  else
    let l := l.modUnit n fun u => { u with sent := { u.sent with
      angle := angle, status := nib 0 % 16,
      aux := if l.rbit (Reg.FB_SENT n) 0 then (nib 4 * 256 + nib 5 * 16 + nib 6) % 4096 else u.sent.aux } }
    let l := if !had ∨ d = 0 then l
      else
        let rev := decide (d < 0)
        let l := l.update n 2 d.natAbs rev (s.rev == some !rev)
        l.modUnit n fun u => { u with sent := { u.sent with rev := some rev } }
    let l := if (l.unit n).sent.valid then l.present n 2 (angle : Int) else l
    l.sentCheck n angle

/-- SENT_FRAME: a frame completes, and is accepted or discarded (03 R78). -/
def opSent (l : Lane) (n : Nat) (f : SentFrame) : Lane :=
  if !l.alive ∨ !l.sentOn n then l
  else
    let err := l.sentError n f
    let l := l.modUnit n fun u => { u with sent := { u.sent with prevSync := some f.sync } }
    if err = 0 then l.sentAccept n f
    else
      let l := l.modUnit n fun u => { u with sent := { u.sent with
        accRun := 0, serial := [],
        errTick := satAdd 0xFF u.sent.errTick (b2n (err == 1)),
        errNib := satAdd 0xFF u.sent.errNib (b2n (err == 2)),
        errCrc := satAdd 0xFF u.sent.errCrc (b2n (err == 3)) } }
      l.flag (Reg.FB_STATUS n) Bit.FB_SENT_ERR

/-- SENT_TO in cycles (03 Table 3.17). -/
def Lane.sentTo (l : Lane) (n : Nat) : Nat := us (max 500 (l.fld (Reg.FB_SENT n) 16 16))

/-- SENT_TIMEOUT: no accepted frame for SENT_TO (03 R79). -/
def opSentTimeout (l : Lane) (n : Nat) : Lane :=
  let s := (l.unit n).sent
  if l.alive && l.sentOn n && !s.lost && elapsed l.now s.lastAt (l.sentTo n) then
    let l := l.modUnit n fun u => { u with sent := { u.sent with lost := true, valid := false, accRun := 0, prevSync := none, serial := [] } }
    (l.flag (Reg.FB_STATUS n) Bit.FB_SENT_LOST).sensorFault n 2
  else l

/-- SPEED_DECAY: the check at every 128 cycles after t_prev, in RUN only (03 R80). -/
def opDecay (l : Lane) (n : Nat) : Lane :=
  let e := (l.unit n).est
  let k := (l.now - e.tPrev) / 128 * 128
  if !l.alive ∨ e.state ≠ .run ∨ k = 0 then l
  else
    let bound := (spdOf false 1 k).natAbs
    if e.speed.natAbs ≤ bound then l
    else (l.modUnit n fun u => { u with est := { u.est with speed := clampAbs bound u.est.speed } }).followRate n

/-- STANDSTILL_TIMEOUT: no committed update for TSS (03 R80). -/
def opStandstill (l : Lane) (n : Nat) : Lane :=
  let e := (l.unit n).est
  if l.alive && e.state != .standstill && elapsed l.now e.lastUpd (l.tss n) then
    (l.modUnit n fun u => { u with est := { u.est with state := .standstill, speed := 0, winMode := false } }).followRate n
  else l

/-- WIN: the window of unit n in cycles (03 R81). -/
def Lane.window (l : Lane) (n : Nat) : Nat := 2 ^ (10 + l.fld (Reg.FB_SPDCFG n) 24 3)

/-- SPEED_WINDOW_END: a grid window ends in window mode (03 R81). A double edge has left RUN, and so discarded its window. The end
of the cycle in which window mode was entered is not after the entry. -/
def opWindowEnd (l : Lane) (n : Nat) : Lane :=
  let e := (l.unit n).est
  if !l.alive ∨ !e.winMode ∨ (l.now - l.relAt) % l.window n ≠ 0 ∨ e.winEnd = some l.now ∨ (e.n = 0 ∧ e.tRef + 3 = l.now) then l
  else
    let l := l.modUnit n fun u => { u with est := { u.est with winEnd := some l.now } }
    if e.n = 0 then l.modUnit n fun u => { u with est := { u.est with winMode := false } }
    else
      let v := spdOf e.rev e.n (e.tLast - e.tRef)
      let cross := l.fld (Reg.FB_SPDCFG n) 0 24
      let stay := decide (cross ≠ 0) && decide (cross * 7 * 256 ≤ v.natAbs * 8)
      let l := l.modUnit n fun u => { u with est := { u.est with
        speed := clampAbs spdMax v, tRef := u.est.tLast, n := 0, winMode := stay } }
      (l.flagIf (decide (spdMax ≤ v.natAbs)) (Reg.FB_STATUS n) Bit.FB_SPD_SAT).followRate n

/-- A channel judged open that charges its lane: an axis channel of an enabled axis, or the DC-link voltage with VEN set (11
Table 11.2 row 9). -/
def Lane.openCharged (l : Lane) (m ch : Nat) : Bool :=
  (decide (ch ≤ 5) && l.enabled ch) || (m == 0 && ch == 8 && l.axes.any fun n => l.rbit (Reg.LE_CFG n) 5)

/-- A cause 0x12 stands: a latched fault or a lost sector source of an enabled axis, or an open channel (08 Table 8.4, 11
R261). -/
def Lane.sensorCause (l : Lane) : Bool :=
  (l.axes.any fun n =>
    let u := l.unit n
    u.cntFault || u.hallFault || u.sentFault || (l.axis n).sectLost) ||
  (List.range 4).any fun m => (List.range 10).any fun ch => (vget l.ts.opens m 0).testBit ch && l.openCharged m ch

/-- IMPAIRED by a sensor cause clears once no such cause stands (08 R189, Table 8.4). -/
def Lane.sensorsClear (l : Lane) : Lane :=
  if !l.ln.impaired.getLsbD 2 || l.sensorCause then l else l.clearCause 0x12

/-- A source of unit n restarts from its state after reset (03 R85, Table 3.6): RAW, the arming, AOFF and IDXVAL stay, and so
do the totals that Table 3.6 does not name (DE_TOTAL, MM_TOTAL, the SENT error counters) and IDXPOS. The
estimator restarts with its source, the timebase that follows it is unsynchronised, and a counter's clear unsets the SDI
reference (09 R222). -/
def Lane.restart (l : Lane) (n src : Nat) : Lane :=
  let l := l.modUnit n fun u =>
    let u := u.withFault src false
    let u := { u with xchk := initXchk }
    let u := if l.ssrc n = src then { u with est := initEst } else u
    match src with
    | 0 =>
      { u with
        cnt := { initCounter with raw := u.cnt.raw, arm := u.cnt.arm, deTotal := u.cnt.deTotal, idxPos := u.cnt.idxPos,
                                  armWas := u.cnt.armWas, idxValWas := u.cnt.idxValWas, idxHeld := u.cnt.idxHeld },
        tooth := { initTooth with mmTotal := u.tooth.mmTotal } }
    | 1 => { u with hall := initHall }
    | _ =>
      { u with sent := { initSent l.now with errSer := u.sent.errSer, errCrc := u.sent.errCrc, errTick := u.sent.errTick,
                                             errNib := u.sent.errNib } }
  let l := if src = 0 then l.modSafety n fun a => { a with pref := none } else l
  let l := if ptSource (l.ptSrc n) = src ∧ (l.ptOf n).valid then (l.unsyncPt n).ptLosses (2 ^ n) else l.followRate n
  l.sensorsClear

/-- Each set bit of a clear restarts its source (03 R85); FU6 and FU7 have only the counter (03 Table 3.1). -/
def Lane.fclr (l : Lane) (n mask : Nat) : Lane :=
  l.each (members mask 3) fun l s => if n < 6 ∨ (n < 8 ∧ s = 0) then l.restart n s else l

end Sys2Proof.Machine
end

