-- ==== Sys2Proof/Machine/Convert.lean ====
section
/-! DEFINITION. Interleaved conversion: requests and holds, the monitor round, correction, spare turns and slice loss (04). -/

namespace Sys2Proof.Machine

/-- Temper critical (11 R272): CRITQ, the EVT record of Table 14.8 with the wear figure, and trigger 0x09 with the quantity. -/
def Lane.temperCritical (l : Lane) (q : Nat) (figure : Int) : Lane :=
  let l : Lane := { l with ts := { l.ts with critq := q } }
  let l := l.flag Reg.TS_STATUS Bit.TS_CRITICAL
  (l.evtWith 0x18 Bit.TS_CRITICAL q [sword figure, l.readReg true 0x6008, 0, 0, 0, 0]).trigger 0x09 q

/-- The lane with its conversion block changed. -/
def Lane.modCv (l : Lane) (f : Conversion → Conversion) : Lane := { l with cv := f l.cv }

/-- TRAINED sets once every usable slice has an accepted turn (04 R107). -/
def Converter.train (c : Converter) : Converter :=
  { c with trained := c.trained || (members c.usable 5).all fun i => decide (0 < (vget c.slice i noSlice).turns) }

/-- A slice that enters a position takes its new coefficients (04 R105). -/
def Slice.enter (x : Slice) : Slice := { x with coef := x.next.getD x.coef, next := none }

/-- A fault of a slice's cell: the lane's EVT record and flags, and the level of Table 4.3 (04 R108). The spare takes its
position, as at a swap. -/
def Lane.sliceFail (l : Lane) (m s : Nat) : Lane :=
  let c := l.conv m
  if 4 ≤ m ∨ !(vget c.slice s noSlice).usable then l
  else
    let held := (List.range 4).filter fun p => vget c.pos p none == some s
    let heir := if held = [] then none else if c.spare = some s then none else c.spare
    let l := l.modConv m fun c => Converter.train { c with
      slice := match heir with
        | some h => vmod (vmod c.slice s fun x => { x with usable := false }) h Slice.enter
        | none => vmod c.slice s fun x => { x with usable := false },
      pos := c.pos.map fun p => if p = some s then heir else p,
      spare := if c.spare = some s ∨ heir.isSome then none else c.spare,
      swapOwed := false, insvcAt := l.now, insvcDone := 0 }
    let n := (l.conv m).count
    let fl := 2 ^ Bit.CV_SLICE_LOST + b2n (n == 4) * 2 ^ Bit.CV_NO_SPARE + b2n (n == 2) * 2 ^ Bit.CV_CONV_DEGRADED +
      b2n (n == 1) * 2 ^ Bit.CV_CONV_FAILED
    let l := (l.event Reg.CV_STATUS fl).evt 0x08 Bit.CV_SLICE_LOST m
    if n = 2 then l.deferCause 0x10 m
    else if n = 1 then l.trigger 0x0A m
    else l

/-- Descriptor k is an enabled CONTROL sequence of the given TRIG code (04 R93, R95). -/
def Lane.controlOf (l : Lane) (k trig : Nat) : Bool :=
  let w := l.reg (Reg.CV_SEQ k)
  decide (l.seqLen k ≠ 0) && !bit w 30 && field w 27 3 == trig

/-- The ranges of two enabled descriptors overlap (04 R93). -/
def Lane.seqMeets (l : Lane) (i j : Nat) : Bool :=
  let fi := l.fld (Reg.CV_SEQ i) 22 5
  let fj := l.fld (Reg.CV_SEQ j) 22 5
  decide (i ≠ j) && decide (l.seqLen i ≠ 0) && decide (l.seqLen j ≠ 0) &&
    decide (fi < fj + l.seqLen j) && decide (fj < fi + l.seqLen i)

/-- A write of CV_SEQk has landed: the higher-numbered descriptor of an overlap is disabled (04 R93). -/
def Lane.seqOverlap (l : Lane) (k : Nat) : Lane :=
  let off := if (List.range k).any fun i => l.seqMeets i k then [k]
    else (List.range 16).filter fun j => decide (k < j) && l.seqMeets k j
  let l := off.foldl (fun l j => l.setFld (Reg.CV_SEQ j) 31 1 0) l
  l.flagIf (!off.isEmpty) Reg.CV_STATUS Bit.CV_SEQ_OVERLAP

/-- A CONTROL sequence has a request pending or running (04 R95). -/
def Lane.seqBusy (l : Lane) (k : Nat) : Bool :=
  (l.cv.reqs.any fun r => r.k == k) || (match l.cv.run with | some r => r.k == k | none => false)

/-- A request of CONTROL sequence k for a trigger cycle `t` (04 R95): dropped and counted where one is pending or running. -/
def Lane.seqRequest (l : Lane) (k t : Nat) : Lane :=
  if l.seqBusy k then
    (l.modCv fun c => { c with trigLost := satAdd 0xFFFF c.trigLost 1 }).flag Reg.CV_STATUS Bit.CV_TRIG_LOST
  else l.modCv fun c =>
    { c with reqs := c.reqs ++ [{ k := k, tn := t + l.fld (Reg.CV_SEQ k) 0 16, arrived := false }] }

/-- ADC_TRIG names a sequence (04 R95): TRIG_BAD where it is none that the TLE can request. In DOZE it is ignored (04 R110). -/
def Lane.adcTrig (l : Lane) (k : Nat) : Lane :=
  if !l.awake then l
  else if k < 16 ∧ l.controlOf k 0 then l.seqRequest k l.now
  else l.flag Reg.CV_STATUS Bit.CV_TRIG_BAD

/-- The PWM period start of axis n is committed with its timestamp: the sequences that it triggers (04 R95). -/
def Lane.periodRequests (l : Lane) (n ts : Nat) : Lane :=
  if !l.awake then l
  else l.each ((List.range 16).filter fun k => l.controlOf k (n + 1)) fun l k => l.seqRequest k ts

/-- NOMINAL_INSTANT of CONTROL sequence k: the monitor is suspended (04 R97). -/
def opNominal (l : Lane) (k : Nat) : Lane :=
  if !l.awake ∨ !(l.cv.reqs.any fun r => r.k == k && !r.arrived && decide (r.tn ≤ l.now)) then l
  else l.modCv fun c =>
    { c with suspended := true, reqs := c.reqs.map fun r => if r.k = k then { r with arrived := true } else r }

/-- grid(j, S) (04 R94). -/
def grid (j s : Nat) : Nat := 40 * (j / max 1 s) + 10 * (j % max 1 s)

/-- ZERO of a channel code on a converter (04 Table 4.1); a loop-back entry takes that of the next entry's channel. -/
def zeroOf (m ch : Nat) : Nat := if (m = 0 ∧ ch ≤ 5) ∨ (m = 1 ∧ ch = 8) then 8192 else 0

/-- The channel code is reserved on a converter (04 Table 4.1). -/
def chReserved (m ch : Nat) : Bool :=
  !(decide (ch ≤ 5) || ch == 8 || (ch == 9 && decide (2 ≤ m)) || (decide (0x20 ≤ ch) && decide (ch ≤ 0x28)))

/-- The channel code of entry e on converter m (04 Table 4.14). -/
def Lane.chOf (l : Lane) (m e : Nat) : Nat := l.fld (Reg.CV_ENT m e) 0 6

/-- A result register takes a value at the present cycle (04 R102). -/
def Lane.setRes (l : Lane) (m e : Nat) (w : Word) : Lane :=
  l.modCv fun c => { c with
    res := fset (fun _ => (0 : Word)) c.res (32 * m + e) w,
    resAt := fset (fun _ => 0) c.resAt (32 * m + e) l.now }

/-- ZERO of the channel that entry e converts (04 R101): a loop-back entry has that of the next entry's channel. The last entry
has none after it, and its own ZERO counts (log 32). -/
def Lane.zeroAt (l : Lane) (m e : Nat) : Nat :=
  zeroOf m (if l.chOf m e = 0x28 ∧ e < 31 then l.chOf m (e + 1) else l.chOf m e)

/-- Entry e holds on converter m in slice s (04 R91, R92, R94). An entry of a reserved code makes no conversion: its register is
written in the hold cycle with VALID 0 and JIT (04 R98; the cycle and its other fields, zero, are the model's, log 32). -/
def Lane.holdOn (l : Lane) (m e s : Nat) (seq : Option Nat) (jit : Nat) : Lane :=
  let ch := l.chOf m e
  if (l.conv m).failed then l
  else if chReserved m ch then l.setRes m e (pack [(min 255 jit, 18)])
  else
    l.modCv fun v => { v with flights := v.flights ++
      [{ m := m, slice := s, entry := some e, ch := ch, zero := l.zeroAt m e, cyc := l.now, seq := seq, jit := jit }] }

/-- CENT of axis n (06 Table 6.9). -/
def Lane.cent (l : Lane) (n : Nat) : Nat := l.fld (Reg.LE_CFG n) 8 5

/-- TL_CAPSn after the hold of entry e (02 R61). -/
def Lane.capOf (l : Lane) (e n : Nat) : Nat := if l.enabled n && l.cent n == e then l.wns else vget l.tl.capS n 0

/-- The hold of a CENT entry latches WCLK for its axis (02 R61). -/
def Lane.capture (l : Lane) (e : Nat) : Lane :=
  { l with tl := { l.tl with capS := .ofFn fun (n : Fin 6) => l.capOf e n.val } }

/-- The occupied positions of a converter with their slices, in order (04 R94). -/
def Converter.held (c : Converter) : List (Nat × Nat) := c.occ.filterMap fun p => (vget c.pos p none).map fun s => (p, s)

/-- Entry FIRST + j of the running CONTROL sequence holds in all four converters (04 R94, R97), on the positions as they were
at t0: a slice that fails meanwhile loses no hold (04 R109). -/
def Lane.controlHold (l : Lane) (r : SeqRun) : Lane :=
  let e := l.fld (Reg.CV_SEQ r.k) 22 5 + r.j
  let l := l.each (List.range 4) fun l m =>
    match (vget r.occ m [])[r.j % max 1 r.s]? with
    | some (p, s) => (l.holdOn m e s (some r.k) r.jit).modConv m fun c => { c with lastPos := p }
    | none => l
  let l := l.capture e
  let done := decide (l.seqLen r.k ≤ r.j + 1)
  let waits := l.cv.reqs.any fun q => q.arrived
  l.modCv fun c => { c with
    run := if done then none else some { r with j := r.j + 1 },
    resumeAt := if done ∧ !waits then l.now + 10 else c.resumeAt }

/-- Every occupied position is idle: no conversion is younger than 40 cycles (04 R91). -/
def Lane.allIdle (l : Lane) : Bool := l.cv.flights.all fun f => decide (f.cyc + 40 ≤ l.now)

/-- The request that is served next: the earliest nominal instant, then the lower number (04 R95). -/
def nextReq (rs : List SeqReq) : Option SeqReq :=
  (rs.filter fun r => r.arrived).foldl (fun best r =>
    match best with
    | some b => if r.tn < b.tn ∨ (r.tn = b.tn ∧ r.k < b.k) then some r else best
    | none => some r) none

/-- A jitter is recorded (04 R98, R99). -/
def Lane.noteJit (l : Lane) (k jit : Nat) : Lane :=
  let l := l.modCv fun c => { c with
    jitMax := max c.jitMax (min 0xFFFF jit),
    jitSeq := if c.jitMax < min 0xFFFF jit then k else c.jitSeq,
    overrun := if 40 < jit then satAdd 0xFFFF c.overrun 1 else c.overrun }
  let fl := b2n (decide (0 < jit)) * 2 ^ Bit.CV_JITTER + b2n (decide (40 < jit)) * 2 ^ Bit.CV_OVERRUN
  if fl = 0 then l else l.event Reg.CV_STATUS fl

/-- CONTROL_SEQ_START: entry 0 of the next requested sequence holds at t0 (04 R97). With a FAILED converter the grid is that
of its one position (04 R94). -/
def opSeqStart (l : Lane) : Lane :=
  if !l.awake ∨ l.cv.run.isSome ∨ !l.allIdle then l
  else
    match nextReq l.cv.reqs with
    | none => l
    | some q =>
      let jit := l.now - q.tn
      let r : SeqRun := { k := q.k, t0 := l.now, s := max 1 l.gridS, jit := jit, j := 0, occ := .ofFn fun m => (l.conv m.val).held }
      let l := l.modCv fun c => { c with reqs := c.reqs.erase q }
      (l.noteJit q.k jit).controlHold r

/-- CONTROL_HOLD: the next entry of the running sequence reaches its grid instant (04 R94). -/
def opControlHold (l : Lane) : Lane :=
  match l.cv.run with
  | none => l
  | some r => if l.awake && decide (r.t0 + grid r.j r.s ≤ l.now) then l.controlHold r else l

/-- The monitor round after the entry (d, i) has been held (04 R96): ROUNDS counts its end. -/
def Lane.monAdvance (l : Lane) (d i : Nat) : Lane :=
  if i + 1 < l.seqLen d then l.modCv fun c => { c with monDesc := d, monEntry := i + 1 }
  else
    match l.monitors.find? fun k => decide (d < k) with
    | some k => l.modCv fun c => { c with monDesc := k, monEntry := 0 }
    | none =>
      l.modCv fun c => { c with monDesc := (l.monitors.head?).getD 0, monEntry := 0, rounds := (c.rounds + 1) % 65536 }

/-- The position of converter m that takes the next monitor hold: the next occupied one in order, not one whose slice goes
out (04 R96, R104). -/
def Converter.nextPos (c : Converter) : Nat :=
  let free := c.occ.filter fun p => !(c.swapOwed && p == c.turnPos)
  match free.find? fun p => decide (c.lastPos < p) with
  | some p => p
  | none => free.headD 0

/-- The slice in position p of converter m is idle (04 R91). -/
def Lane.posIdle (l : Lane) (m p : Nat) : Bool :=
  l.cv.flights.all fun f => f.m != m || some f.slice != vget (l.conv m).pos p none || decide (f.cyc + 40 ≤ l.now)

/-- A monitor hold may take place in this cycle (04 R96, R97): one that falls in a nominal cycle itself still happens. -/
def Lane.monReady (l : Lane) : Bool :=
  let blocked := l.cv.run.isSome || (l.cv.reqs.any fun r => r.arrived && decide (r.tn < l.now))
  let spaced := match l.cv.monAt with
    | some t => decide (t + 40 ≤ l.now)
    | none => true
  l.awake && l.rbit Reg.CV_CTRL 0 && !blocked && spaced && decide (l.cv.resumeAt ≤ l.now) &&
    (List.range 4).all fun m => l.posIdle m (l.conv m).nextPos

/-- EFF for the next turn (11 R265). -/
def Lane.nextEff (l : Lane) : Nat := max 100 (max 100 (l.fld Reg.CV_ROT 0 16) / 2 ^ l.shift)

/-- The in-service check of a converter without a spare (04 R110): one REFMID conversion of each occupied position in an
interval of EFF. -/
def Lane.checkHold (l : Lane) (m : Nat) : Lane :=
  let c := l.conv m
  if c.spare.isSome ∨ c.failed then l
  else
    let fresh := elapsed l.now c.insvcAt (us c.eff)
    let done := if fresh then 0 else c.insvcDone
    let p := c.nextPos
    match vget c.pos p none with
    | none => l
    | some s =>
      if done.testBit p then l
      else
        let l := l.modConv m fun c => { c with
          insvcAt := if fresh then l.now else c.insvcAt, eff := if fresh then l.nextEff else c.eff, insvcDone := done + 2 ^ p,
          lastPos := p }
        l.modCv fun v => { v with flights := v.flights ++
          [{ m := m, slice := s, entry := none, ch := 0x21, zero := 0, cyc := l.now, seq := none, jit := 0 }] }

/-- MONITOR_HOLD: the next monitor entry, or an inserted in-service check, holds on the next occupied position (04 R96,
R110). -/
def opMonitorHold (l : Lane) (check : Bool) : Lane :=
  if !l.monReady then l
  else if check then
    (l.each (List.range 4) Lane.checkHold).modCv fun c => { c with monAt := some l.now }
  else
    match l.monNext with
    | none => l
    | some (d, i) =>
      let e := l.fld (Reg.CV_SEQ d) 22 5 + i
      let l := l.each (List.range 4) fun l m =>
        let p := (l.conv m).nextPos
        match vget (l.conv m).pos p none with
        | some s => (l.holdOn m e s none 0).modConv m fun c => { c with lastPos := p }
        | none => l
      (l.monAdvance d i).modCv fun c => { c with monAt := some l.now }

/-- MONITOR_RESUME: 10 cycles after the last CONTROL hold, with no request pending (04 R97). -/
def opMonitorResume (l : Lane) : Lane :=
  if l.awake && l.cv.suspended && l.cv.run.isNone && !(l.cv.reqs.any fun r => r.arrived) &&
    decide (l.cv.resumeAt ≤ l.now) then l.modCv fun c => { c with suspended := false, monAt := none }
  else l

/-- The corrected value in quarter LSB (04 R101). -/
def corrected (raw : Nat) (c : Coef) (z : Nat) : Int :=
  let vq := rdiv (((raw * 16 : Nat) - c.off) * (c.gain : Int)) 131072 - ((4 * z : Nat) : Int)
  if vq < -131072 then -131072 else if 131071 < vq then 131071 else vq

/-- A channel is judged open: TS_OPENm and INPUT_OPEN (11 R266). -/
def Lane.markOpen (l : Lane) (m ch : Nat) : Lane :=
  { l with ts := { l.ts with opens := vmod l.ts.opens m fun o => o ||| 2 ^ ch } }.flag Reg.TS_STATUS Bit.TS_INPUT_OPEN

/-- Cause 0x12 of an open channel (11 Table 11.2 row 9). -/
def Lane.openCause (l : Lane) (m ch : Nat) : Lane :=
  if l.openCharged m ch then l.deferCause 0x12 (if ch ≤ 5 then ch else 255) else l

/-- An input is judged open by its loop-back pair (11 R266, Table 11.2 row 9). -/
def Lane.inputOpen (l : Lane) (m ch : Nat) : Lane :=
  if (vget l.ts.opens m 0).testBit ch then l.markOpen m ch else (l.markOpen m ch).openCause m ch

/-- A loop-back pair is judged once its second result is written (11 R266). -/
def Lane.judgePair (l : Lane) (m e : Nat) : Lane :=
  let ch := l.chOf m e
  if e = 0 ∨ l.chOf m (e - 1) ≠ 0x28 ∨ 9 < ch ∨ !bit (l.res m (e - 1)) 31 then l
  else
    let d := (l.resVal m (e - 1) - l.resVal m e).natAbs
    if 4 * l.fld Reg.TS_CTRL 16 10 < d then l.inputOpen m ch else l

/-- A chopper-current result whose hold lies 250 to 1,250 cycles after a turn-on that the lane die judges (07 R178). -/
def Lane.chopSample (l : Lane) (m ch : Nat) (v : Int) (hold : Nat) : Lane :=
  match l.port.chopAt with
  | none => l
  | some t =>
    if m ≠ 1 ∨ ch ≠ 8 ∨ hold < t + 250 ∨ t + 1250 < hold then l
    else
      let good := decide ((l.fld Reg.GD_CHOPI 0 18 : Int) ≤ v)
      { l with port := { l.port with chopRes := some (l.port.chopRes.getD false || good) } }

/-- CONVERSION_COMPLETE: the result of the oldest conversion in a slice is written, 44 cycles after its hold (04 R91, R101,
R102), or an in-service check is judged (04 R110). -/
def opConversion (l : Lane) (m s raw : Nat) : Lane :=
  match l.cv.flights.find? fun f => f.m == m && f.slice == s with
  | none => l
  | some f =>
    if !l.awake ∨ l.now < f.cyc + 44 then l
    else
      let l := l.modCv fun c => { c with flights := c.flights.erase f }
      let c := l.conv m
      let v := corrected (raw % 16384) (vget c.slice s noSlice).coef f.zero
      match f.entry with
      | none =>
        if 256 < (v - 32768).natAbs then (l.flag Reg.CV_STATUS Bit.CV_INSVC_FAIL).sliceFail m s else l
      | some e =>
        let w := pack [(twos 18 v, 0), (min 255 f.jit, 18), (s, 26), (b2n c.degraded, 29), (b2n c.trained, 30),
          (b2n (!c.failed), 31)]
        let l := ((l.setRes m e w).judgePair m e).chopSample m f.ch v f.cyc
        if m = 0 ∧ !c.failed then l.shuntResult e f.cyc v else l

/-- The estimate of a spare turn (04 R105). -/
def TurnMeas.estimate (t : TurnMeas) : Coef :=
  let g := (rdiv (14336 * 64 * 32768) (t.hi - t.lo)).toNat
  { gain := g,
    off := rdiv ((t.lo * g : Nat) - 4 * 16384 * 32768) (4 * g),
    skew := rdiv (((t.ramp : Int) - 524288) * 2000) 1024 }

/-- An estimate within the limits of R106 (04 R106): SKEW in 0.5 ps. -/
def Coef.accepted (c : Coef) : Bool :=
  decide (c.off.natAbs ≤ 1024) && decide (97 * 32768 ≤ 100 * c.gain) && decide (100 * c.gain ≤ 103 * 32768) &&
    decide (c.skew.natAbs ≤ 120)

/-- The coefficients after an accepted turn (04 R105): the estimate, or a quarter of the way to it. -/
def Slice.train (x : Slice) (e : Coef) : Coef :=
  let c := x.next.getD x.coef
  if x.turns = 0 then e
  else { off := c.off + rdiv (e.off - c.off) 4, gain := ((c.gain : Int) + rdiv ((e.gain : Int) - c.gain) 4).toNat,
         skew := c.skew + rdiv (e.skew - c.skew) 4 }

/-- The drift of a spare turn in ppm of full scale (11 Table 11.4): REFHI on reference B against reference A. -/
def TurnMeas.drift (t : TurnMeas) : Int := rdiv (((4 * t.hiB : Nat) - (t.hi : Int)) * 1000000) (64 * 16384)

/-- REFMID or the shorted input of a spare turn is out of limits (11 R263): REFMID beyond 8,192 ± 64 LSB after correction, as in
service (04 Table 4.5), or an offset above 64 LSB. -/
def TurnMeas.shakeBad (t : TurnMeas) (c : Coef) : Bool :=
  let mid := rdiv (((t.mid * 16 : Nat) - 64 * c.off) * (c.gain : Int)) (64 * 131072)
  decide (256 < (mid - 32768).natAbs) || decide (64 * 64 < t.short)

/-- What Temper takes from a spare turn (11 R266, R267, R269): TJ, VDRV, the drift sample, and VCORE against its window. -/
def Lane.turnTemper (l : Lane) (m : Nat) (t : TurnMeas) : Lane :=
  let off := decide (25 < ((t.vcore : Int) - l.vtarget).natAbs)
  let run := if off then min 2 (vget l.ts.vcRun m 0 + 1) else 0
  let l := { l with ts := { l.ts with
    meas := t.vcore % 4096, vcRun := vmod l.ts.vcRun m fun _ => run, tj := t.tj, vdrv := t.vdrv,
    drefAcc := vmod l.ts.drefAcc m fun a => (a.1 + t.drift, a.2 + 1) } }
  if run = 2 then l.temperCritical 6 t.vcore else l

/-- TURN_END: the spare turn of converter m ends, and its estimate and Shakeout results are judged (04 R104 to R108, 11 R263,
R269). -/
def opTurnEnd (l : Lane) (m : Nat) (t : TurnMeas) : Lane :=
  let c := l.conv m
  match c.spare with
  | none => l
  | some s =>
    if !l.inRun ∨ 4 ≤ m ∨ c.swapOwed ∨ !elapsed l.now c.turnAt (us c.eff) then l
    else
      let l := l.turnTemper m t
      let train := l.rbit Reg.CV_CTRL 1
      let e := t.estimate
      let x := vget c.slice s noSlice
      let rej := train && (!e.accepted || decide (t.hi ≤ t.lo))
      let bad := t.shakeBad (if train && !rej then x.train e else x.next.getD x.coef)
      let l := l.flagIf rej Reg.CV_STATUS Bit.CV_TRAIN_REJ
      if rej || bad then l.sliceFail m s
      else
        l.modConv m fun c => Converter.train { c with
          swapOwed := true,
          slice := if train then vmod c.slice s fun x =>
            { x with next := some (x.train e), turns := satAdd 0xFF x.turns 1 } else c.slice }

/-- A turn of converter m begins (04 R104, 11 R265). -/
def Lane.beginTurn (l : Lane) (m : Nat) : Lane :=
  (l.modConv m fun c => { c with turnAt := l.now, eff := l.nextEff }).modCv fun v => { v with eff := l.nextEff }

/-- Every converter begins a turn: the lane enters RUN (11 R273). -/
def Lane.beginTurns (l : Lane) : Lane := l.each (List.range 4) Lane.beginTurn

/-- SLICE_SWAP: the accepted spare takes its position, and the slice that held it becomes the spare (04 R104). -/
def opSwap (l : Lane) (m : Nat) : Lane :=
  let c := l.conv m
  match c.spare, vget c.pos c.turnPos none with
  | some s, some o =>
    if !l.awake ∨ !c.swapOwed ∨ l.cv.run.isSome ∨ (l.cv.reqs.any fun r => r.arrived) ∨ !l.posIdle m c.turnPos then l
    else
      let l := l.modConv m fun c => { c with
        pos := vmod c.pos c.turnPos fun _ => some s, spare := some o, turnPos := (c.turnPos + 1) % 4, swapOwed := false,
        slice := vmod c.slice s Slice.enter }
      l.beginTurn m
  | _, _ => l

/-- CV_ROT.INT has been written: the present turns end on the new value (04 R110). -/
def Lane.rotWritten (l : Lane) : Lane :=
  (l.each (List.range 4) fun l m => l.modConv m fun c => { c with eff := l.nextEff }).modCv fun c => { c with eff := l.nextEff }

/-- The PWM period starts that an EDGE PERIOD commit fixes for the axes of its mask (02 Table 2.4, 05 R119, 04 R95). -/
def opPeriodCommit (l : Lane) (k : Nat) : Lane :=
  l.commitEdge k 0 fun l c =>
    l.each (members c.arg 6) fun l n => if l.enabled n then (l.addPeriod n c.ts).periodRequests n c.ts else l

/-- EDGE_SECTOR_COMMIT: the boundary of axis ARG[2:0] at the occurrence's angle (05 R118). -/
def opSectorCommit (l : Lane) (k : Nat) : Lane :=
  l.commitEdge k 1 fun l c =>
    let n := c.arg % 8
    if n < 6 ∧ l.enabled n then l.sectorCommit n c.occ c.fwd (16 * c.ts + c.tap) else l

end Sys2Proof.Machine
end

