-- ==== Sys2Proof/Machine/GateDrive.lean ====
section
/-! DEFINITION. The gate-drive die: words on arrival, the queue, shadow levels and the token, interlock and dead time, trips,
the overvoltage ladder, and the precedence of its outputs (07). The one gate-drive cycle from a trip or a drop to the output
(Table 7.7) is folded into the command. -/

namespace Sys2Proof.Machine

/-- The lane with its gate-drive die changed. -/
def Lane.modDie (l : Lane) (f : Die → Die) : Lane := { l with die := f l.die }

/-- The lane with a switch of the die changed. -/
def Lane.modSwitch (l : Lane) (g : Nat) (f : Switch → Switch) : Lane := l.modDie fun d => { d with sw := vmod d.sw g f }

/-- The die's value of a configuration shadow word (07 R184). -/
def Lane.dieCfg (l : Lane) (i : Nat) : Word := fget cfgReset l.die.cfg i

/-- The gate-drive die runs: it has power, and keeps it through a lane reset (07 R185, 15 R351, R362). -/
def Lane.dieOn (l : Lane) : Bool := l.alive || l.pw.state == .reset

/-- The count of the die, in gate-drive cycles modulo 2^20 (07 R160). -/
def Lane.dieCount (l : Lane) : Nat := (l.clk + l.die.off) % 2 ^ 20

/-- The class of an axis in the die's copy (07 R180): codes above 3 act as disabled. -/
def Lane.dieClass (l : Lane) (n : Nat) : Nat :=
  let c := field (l.dieCfg 11) (3 * n) 3
  if c < 4 then c else 0

/-- DT in gate-drive cycles (07 Table 7.6). -/
def Lane.dieDt (l : Lane) : Nat := 25 * 2 ^ min 4 (field (l.dieCfg 0) 0 3)

/-- RETRY in cycles (07 Table 7.14). -/
def Lane.dieRetry (l : Lane) : Nat := us (max 1 (field (l.dieCfg 2) 24 8))

/-- An EVENT word of the die for a gate and code (07 Table 7.9). -/
def Lane.dieEvent (l : Lane) (code gate : Nat) : Lane :=
  let w := pack [(l.dieCount % 65536, 0), (code, 16), (gate, 22), (1, 28)]
  l.modDie fun d => { d with events := d.events ++ [{ word := w, waited := 0 }] }

/-- An FBLK word for a failed forward block (07 Table 7.9). -/
def Lane.dieFblk (l : Lane) (base : Nat) : Lane :=
  l.modDie fun d => { d with events := d.events ++ [{ word := pack [(base % 65536, 0), (4, 28)], waited := 0 }] }

/-- The level that Table 7.8 gives switch g (07 R180): side 0 the high side, 1 the low side. -/
def Lane.wanted (l : Lane) (g : Nat) : Bool :=
  let n := g / 6
  let side := g % 2
  let s := l.switch g
  let c := l.dieClass n
  if c = 0 then false
  else
    match l.die.row n with
    | 1 => false
    | r =>
      if s.bootUv || s.hold.isSome || s.latched then false
      else
        match r with
        | 3 => decide (c ≠ 2) && side == 1
        | 5 | 6 => decide (c = 1) && side == 1
        | 9 => s.shadow
        | _ => false

/-- The level that Table 7.8 gives BRLn (07 R180). -/
def Lane.brlWanted (l : Lane) (n : Nat) : Bool :=
  let c := l.dieClass n
  if c = 0 then false
  else
    match l.die.row n with
    | 3 => decide (c = 2) && vget l.die.brlOut n false
    | 8 | 9 => vget l.die.brlShadow n false
    | _ => false

/-- Switch g after the turn-offs of an instant: one that is no longer wanted goes off, and waits for nothing (07 R166). -/
def Lane.turnOff (l : Lane) (t16 g : Nat) : Switch :=
  let s := l.switch g
  if l.wanted g then s
  else { s with out := false, waiting := false, offAt := if s.out then some t16 else s.offAt }

/-- The dead time after the complementary switch's turn-off has passed at an instant (07 R166). -/
def Lane.deadOver (l : Lane) (t16 g : Nat) : Bool :=
  let c := l.switch (if g % 2 = 0 then g + 1 else g - 1)
  !c.out && (match c.offAt with | some o => decide (o + 16 * l.dieDt ≤ t16) | none => true)

/-- The instant at which the dead time after the complementary switch's turn-off ends, with the tap of the off (07 R166). -/
def Lane.deadEnd (l : Lane) (g : Nat) : Nat :=
  match (l.switch (if g % 2 = 0 then g + 1 else g - 1)).offAt with
  | some o => o + 16 * l.dieDt
  | none => 0

/-- Switch g after the turn-ons of an instant: one that is wanted goes on, or waits out the dead time (07 R166). Its blanking
windows run on the values of the turn-on (07 R171, R172, R186). -/
def Lane.turnOn (l : Lane) (t16 g : Nat) : Switch :=
  let s := l.switch g
  if !l.wanted g ∨ s.out then s
  else if l.deadOver t16 g then
    { s with out := true, waiting := false, onAt := some (if s.waiting then l.deadEnd g else t16),
             dsBlank := 10 * field (l.dieCfg 2) 8 8, ocBlank := field (l.dieCfg 2) 16 8 }
  else { s with waiting := true }

/-- The chopper output takes its level (07 R177, R178): a turn-on starts a test, a turn-off ends one. -/
def Lane.setChop (l : Lane) (cyc : Nat) : Lane :=
  let on := !l.die.vdrvUv && (l.die.ov1 || l.die.chopShadow)
  if on = l.die.chopOut then l
  else l.modDie fun d => { d with chopOut := on, chopTest := if on then some cyc else none }

/-- Every output takes the level of Table 7.8 at an instant in sixteenths: turn-offs first (07 R164, R166, R180). -/
def Lane.outputs (l : Lane) (t16 : Nat) : Lane :=
  let l := l.modDie fun d => { d with sw := .ofFn fun (g : Fin 36) => l.turnOff t16 g.val }
  let l := l.modDie fun d => { d with sw := .ofFn fun (g : Fin 36) => l.turnOn t16 g.val }
  let l := l.modDie fun d => { d with brlOut := .ofFn fun (n : Fin 6) => l.brlWanted n.val }
  l.setChop (t16 / 16)

/-- The outputs follow a change of this cycle. -/
def Lane.settleDie (l : Lane) : Lane := l.outputs (16 * l.now)

/-- The outputs follow a trip or a drop word one gate-drive cycle later (07 R171, R172, R175, Table 7.7). -/
def Lane.tripDie (l : Lane) : Lane := l.outputs (16 * (l.now + 1))

/-- The persistent-fault counter of a gate counts up (07 R174). -/
def Lane.countUp (l : Lane) (g : Nat) : Lane :=
  let lim := max 1 (field (l.dieCfg 6) 0 4)
  let was := (l.switch g).latched
  let l := l.modSwitch g fun s => { s with pf := s.pf + 1, pfAt := l.now }
  if !was ∧ lim ≤ (l.switch g).pf then (l.modSwitch g fun s => { s with latched := true }).dieEvent 6 g else l

/-- GATE of a Runner word (07 Table 7.2). -/
def gateOf (w : Word) : Nat := field w 26 6

/-- Even parity over the 32 bits (07 Table 7.2). -/
def evenParity (w : Word) : Bool := ((List.range 32).filter fun i => bit w i).length % 2 == 0

/-- The fields of a control word that its row of Table 7.4 leaves out are zero, and its fixed fields are as given (07 R162). -/
def controlOk (w : Word) : Bool :=
  let lvl := bit w 25
  let mid := field w 5 20
  let low := field w 1 4
  match gateOf w with
  | 57 => mid == 0 && low == 0
  | 58 => lvl && mid == 0 && low == 0
  | 59 => low / 2 == 0
  | 60 => !lvl && mid / 4096 == 0 && low == 0
  | 61 => !lvl && low == 0
  | 62 => if lvl then low == 5 else mid == 0x5A5A5 && low == 10
  | 63 => !lvl && mid == 0 && low == 0
  | _ => false

/-- A word that the die discards with BAD_WORD: a reserved code, or a field that its row leaves out (07 R161, R162). -/
def badWord (w : Word) : Bool := decide (42 < gateOf w) && !controlOk w

/-- The lead of a word's TS at arrival (07 R163). -/
def Lane.leadOf (l : Lane) (w : Word) : Nat := (field w 5 20 + 2 ^ 20 - l.dieCount) % 2 ^ 20

/-- A command word, or a TOKEN raise as gate 62, enters the queue or is dropped (07 R163). -/
def Lane.enqueue (l : Lane) (gate : Nat) (w : Word) : Lane :=
  let lead := l.leadOf w
  if lead < 500 ∨ 65535 < lead then l.dieEvent 7 (if gate < 43 then gate else 0x3F)
  else if 256 ≤ l.die.queue.length then l.dieEvent 8 (if gate < 43 then gate else 0x3F)
  else
    let t := 16 * (l.now + lead) + (if gate < 43 then field w 1 4 else 0)
    l.modDie fun d => { d with queue := d.queue ++ [{ gate := gate, on := bit w 25, t := t }] }

/-- The token is not held any more: every motor gate turns off, and a raise that waits is cancelled (07 R164). -/
def Lane.dieDrop (l : Lane) : Lane :=
  (l.modDie fun d => { d with token := false, queue := d.queue.filter fun q => q.gate != 62 }).tripDie

/-- ALIGN in slot 0 sets the die's count (07 R160). -/
def Lane.dieAlign (l : Lane) (w : Word) : Lane :=
  let off := (field w 5 20 + 18 + 2 ^ 20 - l.clk % 2 ^ 20) % 2 ^ 20
  l.modDie fun d => { d with aligned := true, off := off }

/-- The persistent latches and counters are cleared (07 R174, GD_FCLR.PERSIST). -/
def Lane.clearPersist (l : Lane) : Lane :=
  (l.modDie fun d => { d with sw := d.sw.map fun (s : Switch) => { s with latched := false, pf := 0 } }).settleDie

/-- CHOP_FAULT is cleared (07 R178, GD_FCLR.CHOP); OV2 is left with it (07 R177). -/
def Lane.clearChop (l : Lane) : Lane := l.modDie fun d => { d with chopFault := false, genLimit := false }

/-- A word of GD_FCLR reaches the die (07 Table 7.22): it clears and is not held. -/
def Lane.dieFclr (l : Lane) (w : Word) : Lane :=
  let l := if bit w 1 then l.clearPersist else l
  if bit w 0 then l.clearChop else l

/-- A CFG word arrives: a shadow word is used from the arrival of its second half (07 R184). -/
def Lane.dieCfgWord (l : Lane) (w : Word) : Lane :=
  let i := field w 21 5
  let data := field w 5 16
  let hi := bit w 1
  let l := l.modDie fun d => { d with crcDue := true }
  match l.die.half with
  | some (j, h, v) =>
    if j = i ∧ h ≠ hi then
      let word := BitVec.ofNat 32 (if hi then 65536 * data + v else 65536 * v + data)
      if i = fclrIndex then (l.modDie fun d => { d with half := none }).dieFclr word
      else (l.modDie fun d => { d with cfg := fset cfgReset d.cfg i word, half := none }).settleDie
    else l.modDie fun d => { d with half := some (i, hi, data) }
  | none => l.modDie fun d => { d with half := some (i, hi, data) }

/-- CHOP_FAULT latches (07 R178). -/
def Lane.latchChop (l : Lane) : Lane :=
  if l.die.chopFault then l else (l.modDie fun d => { d with chopFault := true }).dieEvent 12 0x3F

/-- A verified word acts in its slot (07 R158, R160, R162); an unaligned die looks at ALIGN and CFG words only, and discards a
malformed one with BAD_WORD too. -/
def Lane.actWord (l : Lane) (slot : Nat) (w : Word) : Lane :=
  let g := gateOf w
  if badWord w ∨ (g = 61 ∧ slot ≠ 0) then (if l.die.aligned ∨ g = 61 ∨ g = 59 then l.dieEvent 13 0x3F else l)
  else if g = 61 then l.dieAlign w
  else if g = 59 then l.dieCfgWord w
  else if !l.die.aligned then l
  else if g < 43 then l.enqueue g w
  else
    match g with
    | 57 => (l.modDie fun d => { d with isolated := bit w 25 }).settleDie
    | 58 => l.latchChop
    | 60 =>
      (l.modDie fun d => { d with safe := (d.safe &&& (63 - field w 11 6)) ||| field w 5 6 }).settleDie
    | 62 => if bit w 25 then l.enqueue 62 w else l.dieDrop
    | _ => l

/-- One word arrives in a verified block, seen singly: it acts where its code is one of those the command names. -/
def Lane.wordOf (l : Lane) (p : Nat → Bool) (slot : Nat) (w : Word) : Lane :=
  if l.dieOn && p (gateOf w) && evenParity w then l.actWord slot w else l

/-- The heartbeat of a verified forward block (07 R159): its timer starts once the link is aligned (R185), and every verified block
restarts it from then on. -/
def Lane.dieHeard (l : Lane) : Lane :=
  let back := l.die.hbLost
  let l := l.modDie fun d =>
    { d with hbAt := if d.aligned || d.hbAt.isSome then some l.now else none, hbLost := false, lossSafe := false }
  if back then l.settleDie else l

/-- RUNNER_BLOCK_VERIFY: a forward block is verified by CRC, parity and BASE, and its words act, or it is reported failed
(07 R158, R160). -/
def opBlockVerify (l : Lane) (w0 w1 w2 ck : Word) : Lane :=
  if !l.dieOn then l
  else
    let crcOk := decide ((crc16 [w0, w1, w2]).toNat = field ck 16 16)
    let parOk := evenParity w0 && evenParity w1 && evenParity w2
    let baseOk := decide (field ck 0 16 = (l.dieCount + 2 ^ 20 - 18) % 65536)
    if !crcOk ∨ !parOk then l.dieFblk (field ck 0 16)
    else if l.die.aligned && !baseOk then
      (l.dieFblk (field ck 0 16)).modDie fun d => { d with aligned := false }
    else (((l.actWord 0 w0).actWord 1 w1).actWord 2 w2).dieHeard

/-- TOKEN_HOLD_START: T_r has come, and the motor gates adopt their shadow levels (07 R164). -/
def opTokenHold (l : Lane) : Lane :=
  if l.dieOn && l.die.queue.any fun q => q.gate == 62 && decide (q.t ≤ 16 * l.now + 15) then
    (l.modDie fun d => { d with
      token := true, queue := d.queue.filter fun q => !(q.gate == 62 && decide (q.t ≤ 16 * l.now + 15)) }).settleDie
  else l

/-- An off word executes (07 R164). -/
def Lane.offWord (l : Lane) (g : Nat) : Lane :=
  if g < 36 then l.modSwitch g fun s => { s with shadow := false }
  else if g = 36 then l.modDie fun d => { d with chopShadow := false }
  else l.modDie fun d => { d with brlShadow := vmod d.brlShadow (g - 37) fun _ => false }

/-- The complement of a motor gate. -/
def otherGate (g : Nat) : Nat := if g % 2 = 0 then g + 1 else g - 1

/-- A switch whose shadow is on, or that waits out dead time, counts as on (07 R165). -/
def Lane.countsOn (l : Lane) (g : Nat) : Bool := (l.switch g).shadow || (l.switch g).waiting

/-- A turn-on is refused (07 R165). -/
def Lane.shootRefused (l : Lane) (g : Nat) : Lane := (l.dieEvent 1 g).countUp g

/-- BOOT_UV of a high side at an on word (07 R168, R169): released, or the third word in vain. -/
def Lane.bootWord (l : Lane) (g : Nat) (vbsOk : Bool) : Lane :=
  let s := l.switch g
  if !s.bootUv then l
  else if vbsOk then l.modSwitch g fun s => { s with bootUv := false, bootWords := 0 }
  else
    let l := l.modSwitch g fun s => { s with bootWords := s.bootWords + 1 }
    if (l.switch g).bootWords = 3 then l.dieEvent 5 g else l

/-- An on word executes at its instant (07 R164, R165, R173); `both`: on words for both switches of the half-bridge stand at
this instant (07 R186). -/
def Lane.onWord (l : Lane) (g t16 : Nat) (both vbsOk : Bool) : Lane :=
  if g = 36 then l.modDie fun d => { d with chopShadow := true }
  else if 36 < g then l.modDie fun d => { d with brlShadow := vmod d.brlShadow (g - 37) fun _ => true }
  else if (match (l.switch g).hold with | some e => decide (t16 < 16 * e) | none => false) then l
  else
    let l := l.modSwitch g fun s => { s with hold := none }
    if l.countsOn (otherGate g) || (both && (l.switch g).shadow) then l.shootRefused g
    else (l.modSwitch g fun s => { s with shadow := true }).bootWord g vbsOk

/-- The words of one instant, of two for one gate only the last received (07 R164). -/
def instantWords (q : List QWord) (t : Nat) : List QWord :=
  let ws := q.filter fun w => w.t == t && w.gate != 62
  (List.range ws.length).filterMap fun i =>
    match ws[i]? with
    | some w => if (ws.drop (i + 1)).any fun v => v.gate == w.gate then none else some w
    | none => none

/-- The queued words of one instant execute: off words, then on words (07 R164). `vbs`: the high sides above the release
level. -/
def Lane.execInstant (l : Lane) (t vbs : Nat) : Lane :=
  let ws := instantWords l.die.queue t
  let l := l.modDie fun d => { d with queue := d.queue.filter fun q => q.t != t || q.gate == 62 }
  let l := (ws.filter fun w => !w.on).foldl (fun l w => l.offWord w.gate) l
  let ons := ws.filter fun w => w.on
  -- both words of a half-bridge are refused where either shadow is on (07 R186)
  let pair := fun (g : Nat) => ons.any (fun w => w.gate == g) && ons.any fun w => w.gate == otherGate g
  let clash := (List.range 36).filter fun g => pair g && (l.countsOn g || l.countsOn (otherGate g))
  let l := ons.foldl (fun l w => l.onWord w.gate t (clash.contains w.gate && (l.switch w.gate).shadow)
    (vbs.testBit w.gate)) l
  l.outputs t

/-- The instants of the queued words that have come, earliest first. -/
def dueInstants (q : List QWord) (upto : Nat) : List Nat :=
  ((q.filter fun w => decide (w.t ≤ upto) && w.gate != 62).map (·.t)).mergeSort.eraseDups

/-- QUEUED_WORD_EXECUTE: the queued words whose instants have come execute, instant by instant (07 R164). -/
def opExecute (l : Lane) (vbs : Nat) : Lane :=
  if !l.dieOn then l else (dueInstants l.die.queue (16 * l.now + 15)).foldl (fun l t => l.execInstant t vbs) l

/-- DEAD_TIME_TURN_ON: a turn-on that waited for DT is applied (07 R166), at the instant its dead time ends. -/
def opDeadTime (l : Lane) : Lane := if l.dieOn then l.outputs (16 * l.now + 15) else l

/-- HEARTBEAT_LOSS: no forward block verified for 500 gate-drive cycles (07 R159). -/
def opHbLoss (l : Lane) : Lane :=
  match l.die.hbAt with
  | none => l
  | some t =>
    if l.dieOn && !l.die.hbLost && elapsed l.now t 500 then
      (l.modDie fun d => { d with hbLost := true }).tripDie
    else l

/-- LOSS_SAFE in cycles; 0 never (07 Table 7.19). -/
def Lane.lossSafeTime (l : Lane) : Nat :=
  let v := field (l.dieCfg 7) 0 16
  if v = 0 then 0 else us (max 200 v)

/-- LOSS_SAFE_EXPIRY: heartbeat loss has lasted LOSS_SAFE (07 R180, R181). -/
def opLossSafe (l : Lane) : Lane :=
  match l.die.hbAt with
  | none => l
  | some t =>
    if l.dieOn && l.die.hbLost && !l.die.lossSafe && decide (l.lossSafeTime ≠ 0) &&
        elapsed l.now t (500 + l.lossSafeTime) then
      (l.modDie fun d => { d with lossSafe := true }).settleDie
    else l

/-- The fault path of a cell is masked while the cell is under test, for 3.5 µs (11 R264). -/
def Lane.underTest (l : Lane) (g : Nat) : Bool :=
  match l.ts.cell with
  | some c => c.gate == g && decide (l.now < c.cyc + 875)
  | none => false

/-- BOOT_UV: VBS of a high side falls below the trip (07 R168). -/
def opBootUv (l : Lane) (g : Nat) : Lane :=
  if !l.dieOn ∨ 36 ≤ g ∨ g % 2 ≠ 0 ∨ (l.switch g).bootUv ∨ l.underTest g then l
  else
    let l := l.modSwitch g fun s => { s with bootUv := true, bootWords := 0, bootAt := l.now }
    l.tripDie.dieEvent 4 g

/-- BOOT_PERSIST: BOOT_UV is still present 1 ms after the trip (07 R169); its third on word is seen where it executes. -/
def opBootPersist (l : Lane) (g : Nat) : Lane :=
  let s := l.switch g
  if l.dieOn && decide (g < 36) && s.bootUv && decide (s.bootWords < 3) && elapsed l.now s.bootAt 250000 then
    (l.modSwitch g fun s => { s with bootWords := 3 }).dieEvent 5 g
  else l

/-- A desaturation or shunt trip that names a gate: off, held for RETRY, counted (07 R171 to R174). -/
def Lane.tripGate (l : Lane) (code g : Nat) : Lane :=
  let l := l.modSwitch g fun s => { s with hold := some (l.now + l.dieRetry) }
  (l.dieEvent code g).countUp g

/-- The blanking of a turn-on still runs (07 R171, R172). -/
def blanked (s : Switch) (now time : Nat) : Bool :=
  match s.onAt with
  | some t => decide (16 * now < t + 16 * time)
  | none => false

/-- DESAT_TRIP: the comparator of a gate whose output is on trips after its blanking (07 R171). -/
def opDesat (l : Lane) (g : Nat) : Lane :=
  let s := l.switch g
  if !l.dieOn ∨ 36 ≤ g ∨ !s.out ∨ blanked s l.now s.dsBlank then l
  else (l.tripGate 2 g).tripDie

/-- OC_TRIP: the shunt comparator of axis n trips after its blanking (07 R172). -/
def opOc (l : Lane) (n : Nat) : Lane :=
  let hs := [6 * n, 6 * n + 2, 6 * n + 4]
  if !l.dieOn ∨ 6 ≤ n ∨ l.underTest (6 * n) ∨ (hs.any fun g => blanked (l.switch g) l.now (l.switch g).ocBlank) then l
  else
    let on := hs.filter fun g => (l.switch g).out
    if on = [] then l.dieEvent 3 0x3F else (on.foldl (fun l g => l.tripGate 3 g) l).tripDie

/-- PF_DECAY: a persistent-fault counter counts down (07 R174). -/
def opPfDecay (l : Lane) (g : Nat) : Lane :=
  let s := l.switch g
  if l.dieOn && decide (g < 36) && decide (0 < s.pf) && elapsed l.now s.pfAt (us (max 1 (field (l.dieCfg 6) 16 16))) then
    l.modSwitch g fun s => { s with pf := s.pf - 1, pfAt := l.now }
  else l

/-- VDRV_UV_TRIP: VDRV_x falls below its trip (07 R175): the ladder stops. -/
def opVdrvUv (l : Lane) : Lane :=
  if !l.dieOn ∨ l.die.vdrvUv then l
  else (l.modDie fun d => { d with vdrvUv := true, vdrvAt := some l.now, ov1 := false, genLimit := false, ov3 := false
                                    }).tripDie

/-- VDRV_UV_PERSIST: VDRV_x has stayed below its release level for 2,500 gate-drive cycles (07 R175). -/
def opVdrvPersist (l : Lane) : Lane :=
  match l.die.vdrvAt with
  | none => l
  | some t =>
    if l.dieOn && elapsed l.now t 2500 then (l.modDie fun d => { d with vdrvAt := none }).dieEvent 11 0x3F else l

/-- VDRV_RECOVER: VDRV_x is above its release level (07 R175). -/
def opVdrvRecover (l : Lane) : Lane :=
  if !l.dieOn then l else (l.modDie fun d => { d with vdrvUv := false, vdrvAt := none }).settleDie

/-- OV1_TRIP: the link reaches OV1 (07 R177). -/
def opOv1 (l : Lane) : Lane :=
  if !l.dieOn ∨ l.die.vdrvUv then l else (l.modDie fun d => { d with ov1 := true }).tripDie

/-- OV1_RELEASE: the link falls below OV1 − HYST (07 R177). -/
def opOv1Release (l : Lane) : Lane := if !l.dieOn then l else (l.modDie fun d => { d with ov1 := false }).settleDie

/-- OV2_ENTER: the link reaches OV2; GEN_LIMIT where CHOP_FAULT is latched (07 R177). -/
def opOv2 (l : Lane) : Lane :=
  if l.dieOn && !l.die.vdrvUv && l.die.chopFault then l.modDie fun d => { d with genLimit := true } else l

/-- OV2_LEAVE: the link falls below OV2 − HYST, or CHOP_FAULT has been cleared (07 R177). -/
def opOv2Leave (l : Lane) : Lane := if !l.dieOn then l else l.modDie fun d => { d with genLimit := false }

/-- OV3_TRIP: the link reaches OV3 (07 R177). -/
def opOv3 (l : Lane) : Lane :=
  if !l.dieOn ∨ l.die.vdrvUv ∨ l.die.ov3 then l
  else ((l.modDie fun d => { d with ov3 := true, ov3At := l.now }).tripDie).dieEvent 9 0x3F

/-- OV3_RELEASE: the link falls below OV2 − HYST (07 R177). -/
def opOv3Release (l : Lane) : Lane := if !l.dieOn then l else (l.modDie fun d => { d with ov3 := false }).settleDie

/-- OV3_PERSIST: OV3 has lasted 250,000 gate-drive cycles (07 R177). -/
def opOv3Persist (l : Lane) : Lane :=
  if l.dieOn && l.die.ov3 && elapsed l.now l.die.ov3At 250000 then l.dieEvent 10 0x3F else l

/-- CHOPPER_TEST_END: 1,250 gate-drive cycles after a turn-on, with V fallen by CHOP_DV or not (07 R178). -/
def opChopTest (l : Lane) (fallen : Bool) : Lane :=
  match l.die.chopTest with
  | none => l
  | some t =>
    if !l.dieOn ∨ !elapsed l.now t 1250 then l
    else
      let l := l.modDie fun d => { d with chopTest := none }
      if fallen then l else l.latchChop

/-- The LEVELS word of the die (07 Table 7.9). -/
def Lane.levelsWord (l : Lane) : Word :=
  let d := l.die
  pack [(b2n d.ovfEvt, 12), (b2n d.aligned, 13), (b2n (!d.vdrvUv), 14), (b2n d.chopFault, 15), (b2n d.chopOut, 16),
    (b2n d.genLimit, 17), (d.ladder, 18), (d.safe, 20), (b2n d.isolated, 26), (b2n d.token, 27), (2, 28)]

/-- The indices of the configuration shadow in order, and the CRC over its words (07 Table 7.9). -/
def Lane.dieCfgCrc (l : Lane) : Nat := (crc16 (shadowIndices.map l.dieCfg)).toNat

/-- RETURN_BLOCK_SEND: the die begins a return block (07 R157, R183): LEVELS first, a CFGCRC that is due, then EVENT and FBLK
words; one that has found no slot in four blocks is dropped. -/
def opReturnSend (l : Lane) : Lane :=
  let ready := match l.die.blockAt with
    | some t => elapsed l.now t 16
    | none => true
  if !l.dieOn ∨ !ready then l
  else
    let due := l.die.crcDue || decide ((l.die.blocks + 1) % 256 = 0)
    let n := if due then 1 else 2
    let sent := (l.die.events.take n).map (·.word)
    let left := (l.die.events.drop n).map fun r => { r with waited := r.waited + 1 }
    let kept := left.filter fun r => decide (r.waited < 4)
    let crc := if due then [pack [(l.dieCfgCrc, 0), (3, 28)]] else []
    let body := [l.levelsWord] ++ crc ++ sent
    let body := body ++ List.replicate (3 - body.length) 0
    let ck := pack [(l.dieCount % 65536, 0), ((crc16 body).toNat, 16)]
    l.modDie fun d => { d with
      lastBlock := body ++ [ck], blockAt := some l.now, blocks := d.blocks + 1, crcDue := false, events := kept,
      ovfEvt := decide (kept.length < left.length) }

end Sys2Proof.Machine
end

