-- ==== Sys2Proof/Machine/RunnerPort.lean ====
section
/-! DEFINITION. The lane-die side of the Runner link: forming blocks, and the return words (07 R157 to R160, R163, R175, R178,
R183, R184). -/

namespace Sys2Proof.Machine

/-- The lane with its Runner port changed. -/
def Lane.modPort (l : Lane) (f : Port → Port) : Lane := { l with port := f l.port }

/-- The Runner port runs (15 Table 15.9): powered and out of reset. -/
def Lane.portOn (l : Lane) : Bool := l.alive

/-- A word whose timestamp lies less than 520 cycles after the cycle its first bit would leave is never sent (07 R163). -/
def PortWord.tooLate (p : PortWord) (leave : Nat) : Bool :=
  decide (gateOf p.word < 43) && (match p.ts with | some t => decide (t < leave + 520) | none => false)

/-- Late words are dropped from the front of a class, and counted (07 R163). -/
def dropLate (leave : Nat) : List PortWord → List PortWord × Nat
  | [] => ([], 0)
  | p :: t => if p.tooLate leave then ((dropLate leave t).1, (dropLate leave t).2 + 1) else (p :: t, 0)

/-- LATE words counted at the port (07 R163). -/
def Lane.portLate (l : Lane) (n : Nat) : Lane :=
  if n = 0 then l
  else (l.modPort fun p => { p with late := satAdd 0xFFFF p.late n }).flag Reg.GD_STATUS Bit.GD_LATE

/-- One payload slot is filled from the first class that holds a word (07 R163): the word, and the lane after it. -/
def Lane.fillSlot (l : Lane) (leave : Nat) : Word × Lane :=
  match l.port.c1 with
  | p :: t => (p.word, l.modPort fun q => { q with c1 := t })
  | [] =>
    let u := dropLate leave l.port.c2
    let o := dropLate leave l.port.c3
    match u.1, o.1 with
    | p :: t, _ => (p.word, (l.modPort fun q => { q with c2 := t }).portLate u.2)
    | [], p :: t => (p.word, (l.modPort fun q => { q with c2 := [], c3 := t }).portLate (u.2 + o.2))
    | [], [] =>
      let l := (l.modPort fun q => { q with c2 := [], c3 := [] }).portLate (u.2 + o.2)
      match l.port.c4 with
      | p :: t => (p.word, l.modPort fun q => { q with c4 := t })
      | [] => (withParity (63 * 2 ^ 26), l)

/-- The next payload slot of the block in progress is filled once its time has come, 4 cycles after the one before; with the third
the check word is formed (07 R157, Table 7.1, R163). -/
def Lane.fillNext (l : Lane) : Lane :=
  match l.port.blockAt with
  | none => l
  | some t =>
    let n := l.port.part.length
    if n = 0 ∨ l.now < t + 4 * n then l
    else
      let s := l.fillSlot (t + 4 * n)
      let body := l.port.part ++ [s.1]
      if body.length < 3 then s.2.modPort fun p => { p with part := body }
      else
        let ck := pack [((t - l.relAt) % 65536, 0), ((crc16 body).toNat, 16)]
        s.2.modPort fun p => { p with part := [], lastBlock := body ++ [ck] }

/-- The payload slots whose time has come are filled before anything else acts (07 R163). -/
def Lane.fillDue (l : Lane) : Lane := if l.portOn then l.fillNext.fillNext else l

/-- RUNNER_BLOCK_SEND: a block begins with its slot 0: ALIGN where it is owed and no class-1 word waits (07 R157, R160, R163).
Slots 1 and 2 follow 4 and 8 cycles later. -/
def opBlockSend (l : Lane) : Lane :=
  let ready := match l.port.blockAt with
    | some t => elapsed l.now t 16
    | none => true
  if !l.portOn ∨ !ready then l
  else
    let align := l.port.alignOwed && l.port.c1.isEmpty
    let s0 := if align then
        (withParity (61 * 2 ^ 26 + l.clk % 2 ^ 20 * 2 ^ 5),
          l.modPort fun p => { p with alignOwed := false, sinceAlign := 0 })
      else l.fillSlot l.now
    s0.2.modPort fun p => { p with part := [s0.1], blockAt := some l.now, sinceAlign := p.sinceAlign + 1 }

/-- ALIGN_PERIODIC: 4,096 blocks after the last ALIGN word another is owed (07 R160). -/
def opAlignPeriodic (l : Lane) : Lane :=
  if l.portOn && decide (4096 ≤ l.port.sinceAlign) then l.modPort fun p => { p with alignOwed := true } else l

/-- The GD_STATUS flag of an EVENT code (07 Table 7.9). -/
def eventFlag (code : Nat) : Option Nat :=
  match code with
  | 1 => some Bit.GD_SHOOT_REFUSED
  | 2 => some Bit.GD_DESAT
  | 3 => some Bit.GD_OC
  | 4 => some Bit.GD_BOOT_UV
  | 5 => some Bit.GD_BOOT_PERSIST
  | 6 => some Bit.GD_GATE_PERSIST
  | 7 => some Bit.GD_LATE
  | 8 => some Bit.GD_QFULL
  | 9 => some Bit.GD_OV3
  | 10 => some Bit.GD_OV3_PERSIST
  | 11 => some Bit.GD_VDRV_UV
  | 12 => some Bit.GD_CHOP_FAULT
  | 13 => some Bit.GD_BAD_WORD
  | _ => none

/-- A persistent gate-drive fault: trigger 0x05 with the gate (08 Table 8.3). -/
def Lane.gateFault (l : Lane) (gate : Nat) : Lane := l.trigger 0x05 gate

/-- An EVENT word arrives (07 R183): its flag, its EVT record, the counters of GD_COUNT, and a persistent fault. -/
def Lane.eventWord (l : Lane) (w : Word) : Lane :=
  let code := field w 16 6
  let gate := field w 22 6
  match eventFlag code with
  | none => l
  | some b =>
    let l := l.modPort fun p =>
      { p with late := satAdd 0xFFFF p.late (b2n (code == 7)), qfull := satAdd 0xFF p.qfull (b2n (code == 8)),
               vdrvRaised := p.vdrvRaised || code == 11 }
    let l := l.flagEvt Reg.GD_STATUS b 0x10 gate
    if code = 5 ∨ code = 6 ∨ code = 10 ∨ code = 11 then l.gateFault gate else l

/-- What changes when the LEVELS word goes from `was` to `w` (07 Table 7.8a, R160, R178, R184). -/
def Lane.levelsChange (l : Lane) (was w : Word) : Lane :=
  let rose := fun (b : Nat) => bit w b && !bit was b
  let l := l.flagIf (decide (field was 18 2 = 0) && decide (0 < field w 18 2)) Reg.GD_STATUS Bit.GD_OV1
  let l := l.flagIf (rose 17) Reg.GD_STATUS Bit.GD_GEN_LIMIT
  let l := if rose 16 && l.rbit Reg.GD_CHOPI 31 then
      l.modPort fun p => { p with chopAt := some l.now, chopRes := none }
    else l
  let l := if bit w 13 then l else l.modPort fun p => { p with alignOwed := true }
  if rose 13 then l.sendAllCfg else l

/-- The VDRV good bit of LEVELS words (07 R175): the fault is raised 12.5 µs after the first that shows it clear. Before the first
that shows it good the regulator starts (15 Table 15.4), and nothing has fallen. -/
def Lane.levelsVdrv (l : Lane) (w : Word) : Lane :=
  if bit w 14 then l.modPort fun p => { p with vdrvLow := none, vdrvSeen := true, vdrvRaised := false }
  else if !l.port.vdrvSeen then l
  else
    match l.port.vdrvLow with
    | none => l.modPort fun p => { p with vdrvLow := some l.now }
    | some t =>
      if !l.port.vdrvRaised && elapsed l.now t 3125 then
        ((l.modPort fun p => { p with vdrvRaised := true }).flag Reg.GD_STATUS Bit.GD_VDRV_UV).gateFault 0x3F
      else l

/-- A LEVELS word arrives (07 R183). -/
def Lane.levelsIn (l : Lane) (w : Word) : Lane :=
  let was := l.port.levels
  let l := l.modPort fun p => { p with levels := w, levelsSeen := true }
  (l.levelsChange was w).levelsVdrv w

/-- Runner link CRC loss (07 R159): two consecutive failed blocks, or four among 64 consecutive ones, newest first. -/
def crcLoss (bs : List Nat) : Bool :=
  let gap := fun (a b : Nat) => (a + 65536 - b) % 65536
  (match bs with
    | a :: b :: _ => gap a b == 16
    | _ => false) ||
  (match bs with
    | a :: _ :: _ :: d :: _ => decide (gap a d ≤ 63 * 16)
    | _ => false)

/-- An FBLK word arrives (07 R158, R159). -/
def Lane.fblkWord (l : Lane) (w : Word) : Lane :=
  let l := l.modPort fun p =>
    { p with runLost := satAdd 0xFF p.runLost 1, failed := (field w 0 16 :: p.failed).take 4 }
  let l := l.flag Reg.GD_STATUS Bit.GD_RUN_LOST
  if crcLoss l.port.failed then l.trigger 0x07 0 else l

/-- The lane die's own CRC of its registers (07 R184). -/
def Lane.ownCfgCrc (l : Lane) : Nat := (crc16 (shadowIndices.map l.shadowWord)).toNat

/-- A CFGCRC word arrives (07 R184): two consecutive mismatches are a lane fault. -/
def Lane.cfgCrcWord (l : Lane) (w : Word) : Lane :=
  if field w 0 16 = l.ownCfgCrc then l.modPort fun p => { p with cfgBad := 0 }
  else
    let l := l.modPort fun p => { p with cfgBad := min 2 (p.cfgBad + 1) }
    if l.port.cfgBad = 2 then (l.flag Reg.GD_STATUS Bit.GD_CFG_MISMATCH).trigger 0x04 0 else l

/-- A return word of a verified block acts (07 Table 7.9). -/
def Lane.actReturn (l : Lane) (w : Word) : Lane :=
  match field w 28 4 with
  | 1 => l.eventWord w
  | 2 => l.levelsIn w
  | 3 => l.cfgCrcWord w
  | 4 => l.fblkWord w
  | _ => l

/-- One return word seen singly, where its KIND is the one that the command names. -/
def Lane.returnOf (l : Lane) (kind : Nat) (w : Word) : Lane :=
  if l.portOn && field w 28 4 == kind then l.actReturn w else l

/-- RETURN_BLOCK_VERIFY: a return block is verified by CRC and, once aligned, by BASE: a gate-drive heartbeat whose words act;
a failed one is discarded (07 R158, R159). -/
def opReturnVerify (l : Lane) (w0 w1 w2 ck : Word) : Lane :=
  let crcOk := decide ((crc16 [w0, w1, w2]).toNat = field ck 16 16)
  let baseOk := !bit l.port.levels 13 || decide (field ck 0 16 = (l.clk + 2 ^ 20 - 18) % 65536)
  if !l.portOn ∨ !crcOk ∨ !baseOk then l
  else
    let l := l.modPort fun p => { p with lastReturn := some l.now, gdLost := false }
    ((l.actReturn w0).actReturn w1).actReturn w2

/-- GD_LOST: no return block has been verified for 500 cycles (07 R159). -/
def opGdLost (l : Lane) : Lane :=
  let since := l.port.lastReturn.getD l.relAt
  if l.portOn && !l.port.gdLost && elapsed l.now since 500 then
    ((l.modPort fun p => { p with gdLost := true }).flag Reg.GD_STATUS Bit.GD_GD_LOST).gateFault 0x3F
  else l

/-- CHOP_CURRENT_VERDICT: the chopper-current results of a turn-on are judged, once the last of them can have come (07 R178). -/
def opChopVerdict (l : Lane) : Lane :=
  match l.port.chopAt with
  | none => l
  | some t =>
    if !l.portOn ∨ !elapsed l.now t 1294 then l
    else
      let bad := l.rbit Reg.GD_CHOPI 31 && l.port.chopRes == some false
      let l := l.modPort fun p => { p with chopAt := none, chopRes := none }
      if bad then l.sendFirst (runnerWord 58 true 0 0) else l

end Sys2Proof.Machine
end

