-- ==== Sys2Proof/Machine/Temper.lean ====
section
/-! DEFINITION. Shakeout at start, on demand and in the background, and the Temper ageing monitor with its OTP records (11). -/

namespace Sys2Proof.Machine

/-- The lane with its Temper and Shakeout state changed. -/
def Lane.modTs (l : Lane) (f : Temper → Temper) : Lane := { l with ts := f l.ts }

/-- The duration of each test in µs (11 Table 11.1). -/
def testDur (k : Nat) : Nat :=
  [500, 400, 14000, 800, 100, 3000, 400, 300, 4000, 3000, 1200, 500, 8000, 400, 1200, 200, 200].getD k 0

/-- The tests marked On demand (11 Table 11.1, 11.16): 4, 6, 7, 8, 9, 12 and 16. -/
def onDemand : Nat := 0x113D0

/-! Start tests -/

/-- A test is skipped at start (11 R258): its whole target was marked unusable by an earlier test. Of the targets of Table
11.1, the protocol controllers of test 14 are marked by test 5 (DEDUCED, log 21). -/
def Lane.skipped (l : Lane) (k : Nat) : Bool := k == 14 && l.ts.unusable % 4 == 3

/-- The bits of UNUSABLE that the failing cells of a test set (11 Tables 11.2, 11.15). -/
def unusableBits (k : Nat) (cells : List Nat) : Nat :=
  maskOf 5 fun b =>
    cells.any fun c =>
      match k, b with
      | 5, 0 => c == 0x0B
      | 5, 1 => c == 0x0C
      | 5, 2 => c == 0x0D
      | 13, 3 => c == 0
      | 13, 4 => c == 1
      | 14, 0 => c == 0
      | 14, 1 => c == 1
      | _, _ => false

/-- A gate is latched off as under R174 (11 Table 11.2 row 12). -/
def Lane.gateLatch (l : Lane) (g : Nat) : Lane := (l.modSwitch g fun s => { s with latched := true }).settleDie

/-- The cell of a failure is marked at once (11 R261): slices, channels and switches; test 0 holds the lane in reset (R25). -/
def Lane.markCell (l : Lane) (k c : Nat) : Lane :=
  match k with
  | 0 => { l with pw := { l.pw with state := .reset, start := 3, clockLoss := true } }
  | 8 => l.sliceFail (c / 5) (c % 5)
  | 9 => l.markOpen (c / 16) (c % 16)
  | 12 => if c < 36 then l.gateLatch c else l
  | _ => l

/-- A test result is written (11 R260): RESULT, the first failing cell and the duration. -/
def Lane.writeTest (l : Lane) (k : Nat) (r : TestRes) : Lane :=
  l.modTs fun t => { t with tests := vmod t.tests k fun _ => r }

/-- A test that ran its full duration is judged (11 R260): FAIL where a cell failed, and SHAKE_FAIL with FAILMASK. -/
def Lane.judgeTest (l : Lane) (k : Nat) (cells : List Nat) : Lane :=
  let dur := testDur k
  match cells with
  | [] => l.writeTest k { result := 1, cell := 0, dur := dur }
  | c :: _ =>
    let l := (l.writeTest k { result := 2, cell := c % 256, dur := dur }).modTs fun t =>
      { t with failMask := t.failMask ||| 2 ^ k, unusable := t.unusable ||| unusableBits k cells }
    (l.flag Reg.TS_STATUS Bit.TS_SHAKE_FAIL).each cells fun l c => l.markCell k c

/-- The RESULT fields of all tests, 3 bits each (11 R260, 14 Table 14.8). -/
def Lane.resultBits (l : Lane) : Nat := ((List.range 17).map fun k => (vget l.ts.tests k initTest).result * 8 ^ k).sum

/-- The start sequence is complete (11 R260): DONE and the EVT record. -/
def Lane.shakeDone (l : Lane) : Lane :=
  let l := l.modTs fun t => { t with done := true, startAt := none }
  let r := l.resultBits
  l.evtWith 0x18 Bit.TS_SHAKE_FAIL 255
    [l.readReg true 0x6018, BitVec.ofNat 32 r, BitVec.ofNat 32 (r / 2 ^ 32), 0, 0, 0]

/-- The end of start test k (11 R258, R260, R261). -/
def Lane.startTestEnd (l : Lane) (k : Nat) (cells : List Nat) : Lane :=
  let l := if l.skipped k then l.writeTest k { result := 3, cell := 0, dur := testDur k }
    else (l.judgeTest k cells).modTs fun t => { t with fails := t.fails ++ cells.map fun c => (k, c) }
  if l.pw.state == .reset then l.modTs fun t => { t with startAt := none }
  else if k < 15 then l.modTs fun t => { t with startAt := some (k + 1, l.now) }
  else l.shakeDone

/-- Writing the copy of Chill RAM back meets an error (11 R259, 10 R244): the capture of a failure found in PARK, which is reported
with cause 0x02 or 0x03, and no saved state is restored. -/
def Lane.restoreError (l : Lane) (code : Nat) : Lane :=
  let cap : Capture :=
    { valid := true, kind := code - 1, inj := false, park := true, syn := l.freeVal % 256, src := 0, addr := 0x20000000 }
  let l : Lane := { l.took with ig := { l.ig with cap := if l.ig.cap.valid then l.ig.cap else cap,
                                                  parkFault := some (l.ig.parkFault.getD code) } }
  if l.pw.start = 5 then l
  else
    let l := l.setCause code 3
    { l.request l.ln.item with ig := { l.ig with parkFault := none } }

/-- What follows a start failure once LN_AXCFG is loaded (11 R261, Table 11.2). A cell that serves only a disabled axis raises
nothing. -/
def Lane.raiseFail (l : Lane) (f : Nat × Nat) : Lane :=
  let (k, c) := f
  match k with
  | 1 | 2 | 3 => l.trigger 0x03 k
  | 4 => l.trigger 0x01 (c + 0x80)
  | 5 => l.deferCause 0x13 (if c = 0x0B then 0 else if c = 0x0C then 1 else 2)
  | 6 => l.trigger 0x04 c
  | 7 => l.temperCritical 7 0
  | 9 => l.openCause (c / 16) (c % 16)
  | 10 => l.sensorFault (c % 8) (c / 8)
  | 11 => l.trigger 0x07 0
  | 12 =>
    if c < 36 then (if l.enabled (c / 6) then l.trigger 0x05 c else l)
    else if c = 36 then l
    else l.trigger 0x05 0x3F
  | 13 => l.deferCause 0x14 c
  | 14 => l.deferCause 0x13 c
  | 15 => l.trigger 0x01 7
  | _ => l

/-- LN_AXCFG has been loaded: the causes of the start failures are raised (11 R261). -/
def Lane.raiseFails (l : Lane) : Lane :=
  let fs := l.ts.fails
  fs.foldl Lane.raiseFail (l.modTs fun t => { t with fails := [] })

/-! On demand -/

/-- The pulse of test 16 (11 Table 11.1): gate 36 on for 20 µs, both words with the lead of an ordinary word. -/
def Lane.chopPulse (l : Lane) : Lane :=
  (l.sendGate 36 true (16 * (l.now + 700))).sendGate 36 false (16 * (l.now + 700 + us 20))

/-- The next on-demand test begins, in number order (11 R262). -/
def Lane.nextTest (l : Lane) : Lane :=
  match l.ts.reqs with
  | [] => l
  | r :: _ =>
    if l.ts.running.isSome ∨ l.ts.startAt.isSome then l
    else
      match (members r.mask 17).head? with
      | none => l
      | some k =>
        let l := l.modTs fun t => { t with running := some (k, l.now) }
        if k = 16 then l.chopPulse else l

/-- RESULT bytes of a SHAKEOUT completion (14 Table 14.5): the tests that failed, and those abandoned. -/
def shakeBytes (failed abandoned : Nat) : Vector Nat 8 :=
  #v[failed % 256, failed / 256 % 256, failed / 65536, abandoned % 256, abandoned / 256 % 256, abandoned / 65536, 0, 0]

/-- A request has ended: its SHAKEOUT completes with a status (14 R338). -/
def Lane.shakeEnd (l : Lane) (r : ShakeReq) (status : Nat) : Lane :=
  match r.tag with
  | none => l
  | some i =>
    match l.hr.pendOps.find? fun p => p.cmdIdx == i && p.ctype == 4 with
    | none => l
    | some p => l.endOp { p with result := shakeBytes r.failed r.mask } status false false

/-- The running test is abandoned and marked so; the tests of its request that have not run are marked too (11 R262). -/
def Lane.abandonHead (l : Lane) (status : Nat) : Lane :=
  match l.ts.reqs with
  | [] => l
  | r :: rs =>
    let dur := match l.ts.running with
      | some (_, c) => (l.now - c) / 250
      | none => 0
    let cur := (l.ts.running.map (·.1)).getD 17
    let l := l.each (members r.mask 17) fun l k =>
      l.writeTest k { result := 4, cell := 0, dur := if k = cur then dur % 65536 else 0 }
    let l := l.modTs fun t => { t with reqs := rs, running := none }
    l.shakeEnd r status

/-- Every on-demand request is abandoned: the lane starts a claim or a promotion (11 R262); `fuel` bounds the requests. -/
def Lane.abandonAll : Nat → Lane → Lane
  | 0, l => l
  | fuel + 1, l => if l.ts.reqs.isEmpty then l else Lane.abandonAll fuel (l.abandonHead 0)

/-- The lane hands the cells of every on-demand test back (11 R262). -/
def Lane.abandonTests (l : Lane) : Lane := l.abandonAll (l.ts.reqs.length)

/-- An ABORT drops a request: the running test is abandoned, queued tests are dropped, and the target completes ABORTED
(14 R339). -/
def Lane.abortShake (l : Lane) (i : Nat) : Lane :=
  match l.ts.reqs with
  | [] => l
  | r :: _ =>
    if r.tag = some i then (l.abandonHead 4).nextTest
    else
      match l.ts.reqs.find? fun q => q.tag == some i with
      | none => l
      | some q => (l.modTs fun t => { t with reqs := t.reqs.filter fun q => q.tag != some i }).shakeEnd q 4

/-- The lane accepts on-demand requests (11 R262). -/
def Lane.shakeOk (l : Lane) : Bool :=
  match l.ln.role with
  | .offline | .spare | .withdrawn => true
  | .standby | .active => false

/-- An accepted request is queued, and runs where none runs (11 R262). -/
def Lane.shakeQueue (l : Lane) (mask : Nat) (tag : Option Nat) : Lane :=
  (l.modTs fun t => { t with reqs := t.reqs ++ [{ mask := mask, asked := mask, failed := 0, tag := tag }] }).nextTest

/-- TS_CMD is written: a request of the tests that act, or a refusal (11 R262). -/
def Lane.shakeCmd (l : Lane) (mask : Nat) : Lane :=
  let m := mask &&& onDemand
  if !l.shakeOk then l.flag Reg.TS_STATUS Bit.TS_TEST_REFUSED
  else if m = 0 then l
  else l.shakeQueue m none

/-- The cells of an on-demand test that act beyond TS_TESTk: slices, channels and switches (11 R263, R266, R270; log 21). -/
def Lane.demandFail (l : Lane) (k : Nat) (cells : List Nat) : Lane :=
  l.each cells fun l c =>
    match k with
    | 9 => l.openCause (c / 16) (c % 16)
    | 12 => l.raiseFail (12, c)
    | _ => l

/-- The running on-demand test ends (11 R260, R262): its result, and the next test or the end of the request. -/
def Lane.demandEnd (l : Lane) (k : Nat) (cells : List Nat) : Lane :=
  match l.ts.reqs with
  | [] => l.modTs fun t => { t with running := none }
  | r :: rs =>
    let r' := { r with mask := r.mask &&& (0x1FFFF - 2 ^ k), failed := if cells = [] then r.failed else r.failed ||| 2 ^ k }
    let l := (l.judgeTest k cells).modTs fun t => { t with running := none, reqs := if r'.mask = 0 then rs else r' :: rs }
    let l := if r'.mask = 0 then l.shakeEnd r' 0 else l
    (l.demandFail k cells).nextTest

/-! Background -/

/-- The gate-cell interval of the next step, in cycles (11 R265). -/
def Lane.gateInterval (l : Lane) : Nat := us (max 100 (max 100 (l.fld Reg.TS_BG 16 16) / 2 ^ l.shift))

/-- A gate cell may be tested (11 R264): its output is off, and the queue holds no on word for it in the next 4 µs. -/
def Lane.testable (l : Lane) (g : Nat) : Bool :=
  let out := if g < 36 then (l.switch g).out else l.die.chopOut
  !out && !(l.die.queue.any fun q => q.gate == g && q.on && decide (q.t ≤ 16 * (l.now + 1000)))

/-- The comparators of gate cell g and their measured errors (11 Tables 11.3, 11.4), by 64 × group + member. -/
def cellErrs (g : Nat) (m : CellMeas) : List (Nat × Int) :=
  [(g, m.desat)] ++ (if g < 36 ∧ g % 6 = 0 then [(64 + g, m.shunt)] else []) ++
    (if g < 36 ∧ g % 2 = 0 then [(128 + g, m.boot)] else [])

/-- Comparator errors noted as measured (11 Table 11.4). -/
def noteErrs (es : List (Nat × Int)) (t : Table (Option Int)) : Table (Option Int) :=
  es.foldl (fun e x => fset (fun _ => (none : Option Int)) e x.1 (some x.2)) t

/-- Some comparator of a list errs by more than 3.00 % (11 R270). -/
def errsFail (es : List (Nat × Int)) : Bool := es.any fun x => decide (300 < x.2.natAbs)

/-- GATE_CELL_STEP: the next off gate cell, with its shunt comparator where it is cell 6n, comes under test (11 R263 to R265). Its
results are taken when the test is complete. -/
def opGateCell (l : Lane) (m : CellMeas) : Lane :=
  if !l.inRun ∨ !l.dieOn ∨ !elapsed l.now l.ts.gcellAt l.ts.gcellInt then l
  else
    match ((List.range 37).map fun i => (l.ts.gcell + i) % 37).find? l.testable with
    | none => l
    | some g => l.modTs fun t => { t with
        cell := some { gate := g, cyc := l.now, meas := m }, gcell := (g + 1) % 37, gcellAt := l.now, gcellInt := l.gateInterval }

/-- The cycles that a gate cell is under test: 1.5 µs of ramps and 2 µs of sink current (11 Table 11.3). -/
def cellTime : Nat := 875

/-- The test of a gate cell is complete (11 R263, R264): its errors and sink resistance are taken, and an error after trim above
3.00 % fails the cell (11 R270). -/
def Lane.cellDone (l : Lane) : Lane :=
  match l.ts.cell with
  | none => l
  | some c =>
    if l.now < c.cyc + cellTime then l
    else
      let es := cellErrs c.gate c.meas
      let l := l.modTs fun t => { t with
        cell := none, errs := noteErrs es t.errs,
        sink := vmod t.sink c.gate fun _ => c.meas.sink, measured := t.measured ||| 2 ^ c.gate }
      if c.gate < 36 ∧ errsFail es then (l.gateLatch c.gate).raiseFail (12, c.gate) else l

/-- GATE_CELL_ABORT: the cell under test is abandoned 1 cycle before an on instant and written back (11 R264); it is retried at
its next turn. -/
def opGateAbort (l : Lane) : Lane :=
  match l.ts.cell with
  | none => l
  | some c => (l.modTs fun t => { t with cell := none, gcell := c.gate }).flag Reg.TS_STATUS Bit.TS_TEST_ABORT

/-- CHOPPER_BG_TEST: one test 16 each CINT seconds (11 R263); its result follows after its duration (11 R260). -/
def opChopBg (l : Lane) : Lane :=
  let c := l.fld Reg.TS_BG 8 8
  if !l.inRun ∨ c = 0 ∨ !elapsed l.now l.ts.chopAt (ms (1000 * c)) then l
  else (l.modTs fun t => { t with chopAt := l.now, chopTest := some l.now }).chopPulse

/-- The VDRV_UV comparator and those of OV1 to OV3, with their errors, by 64 × group + member (11 Table 11.4). -/
def levelErrs (ls : List Int) : List (Nat × Int) := [192, 256, 257, 258].zip ls

/-- What test 12 measures (11 Tables 11.1, 11.4): the errors and the sink resistance of every gate cell, and the VDRV_UV and
overvoltage comparators. -/
def Lane.takeGates (l : Lane) (ms : List CellMeas) (ls : List Int) : Lane :=
  let es := (List.range 37).zip ms
  l.modTs fun t => { t with
    errs := noteErrs (es.flatMap (fun x => cellErrs x.1 x.2) ++ levelErrs ls) t.errs,
    sink := es.foldl (fun v x => vmod v x.1 fun _ => x.2.sink) t.sink,
    measured := es.foldl (fun a x => a ||| 2 ^ x.1) t.measured }

/-- The cells that test 12 fails (11 R270, Table 11.2): those found by the test, a switch with a comparator beyond 3.00 %, and 37 for
the VDRV_UV and overvoltage comparators. -/
def gateFails (cells : List Nat) (ms : List CellMeas) (ls : List Int) : List Nat :=
  (List.range 38).filter fun g =>
    cells.contains g || (g == 37 && errsFail (levelErrs ls)) ||
      ((List.range 37).zip ms).any fun x => x.1 == g && errsFail (cellErrs x.1 x.2)

/-- The measurements of a test that has run its full duration, and its failing cells. -/
def Lane.testFinds (l : Lane) (k : Nat) (cells : List Nat) (ms : List CellMeas) (ls : List Int) : List Nat × Lane :=
  if k = 12 then (gateFails cells ms ls, l.takeGates ms ls) else (cells, l)

/-- SHAKEOUT_TEST_COMPLETE: a test reaches the end of its fixed duration with its failing cells (11 R258 to R263), and test 12 with
what it has measured. Of test 3 at start, `restore` says how the copy went back: 0 clean, 1 an inner-code error, 2 an outer-code
error (11 R259). -/
def opTestComplete (l : Lane) (cells : List Nat) (restore : Nat) (ms : List CellMeas) (ls : List Int) : Lane :=
  match l.ts.startAt with
  | some (k, c) =>
    if elapsed l.now c (us (testDur k)) then
      let l := if k = 3 ∧ restore ≠ 0 then l.restoreError (1 + restore) else l
      let r := l.testFinds k cells ms ls
      r.2.startTestEnd k r.1
    else l
  | none =>
    match l.ts.running with
    | some (k, c) =>
      if elapsed l.now c (us (testDur k)) then
        let r := l.testFinds k cells ms ls
        r.2.demandEnd k r.1
      else l
    | none =>
      match l.ts.chopTest with
      | some c => if elapsed l.now c (us (testDur 16)) then (l.modTs fun t => { t with chopTest := none }).judgeTest 16 cells else l
      | none => l

/-! Temper -/

/-- TINT in cycles (11 Table 11.9). -/
def Lane.tint (l : Lane) : Nat := ms (between 100 10000 (l.fld Reg.TS_CTRL 0 16))

/-- S_P,k (11 R268): S in ps, TJ in 0.1 °C, TCS in 0.01 ps/°C; rounded down. -/
def projected (s : Nat) (tj : Int) (tcs : Nat) : Int := ((1000 * s : Nat) - (tcs : Int) * (1500 - tj)).fdiv 1000

/-- TCS_k (11 R268, R276). -/
def Lane.tcs (l : Lane) (k : Nat) : Nat := if l.ts.factoryOk then Config.factoryTcs k else 50

/-- The slack samples of an interval are taken (11 R267, R268). -/
def Lane.takeSlack (l : Lane) (s : List Nat) (tj : Int) : Lane :=
  let p : Vector Int 48 := .ofFn fun k => projected (s.getD k.val 0) tj (l.tcs k.val)
  let m := p.toList.foldl min (vget p 0 0)
  l.modTs fun t => { t with slack := p, smin := m, sidx := (p.toList.findIdx? fun v => v == m).getD 0, tints := t.tints + 1 }

/-- The drift of the interval is the mean of its samples (11 Table 11.4). -/
def Lane.takeDrift (l : Lane) : Lane :=
  l.modTs fun t => { t with
    dref := .ofFn fun m =>
      let a := vget t.drefAcc m.val (0, 0)
      if a.2 = 0 then vget t.dref m.val 0 else rdiv a.1 a.2,
    drefAcc := .replicate 4 (0, 0) }

/-- |DREF_m − birth|, the largest (11 Table 11.4). -/
def Lane.drefFigure (l : Lane) : Nat :=
  ((List.range 4).map fun m =>
    let b := match l.ts.birth with
      | some b => b.dref.getD m 0
      | none => (Config.factoryDref m).toInt
    (vget l.ts.dref m 0 - b).natAbs).foldl max 0

/-- The trim steps used, the largest (11 Table 11.4). -/
def Lane.trimFigure (l : Lane) : Nat := (l.ts.trim.toList.map Int.natAbs).foldl max 0

/-- RSINK_i of birth (11 Table 11.4). -/
def Lane.sinkBirth (l : Lane) (i : Nat) : Nat :=
  match l.ts.birth with
  | some b => b.sink.getD i 0
  | none => (Config.factorySink i).toNat

/-- Some measured sink resistance has at least num/den times its birth value (11 Table 11.5). -/
def Lane.sinkRatio (l : Lane) (num den : Nat) : Bool :=
  (members l.ts.measured 37).any fun i => decide (num * l.sinkBirth i ≤ den * vget l.ts.sink i 0)

/-- |XO − birth| in 0.01 ppm (11 Table 11.4), before the first window zero. -/
def Lane.xoFigure (l : Lane) : Nat :=
  if l.ts.xoDone then (l.ts.xo - l.ts.xoBirth.getD Config.factoryXo.toInt).natAbs else 0

/-- The level of three rising tests. -/
def level3 (w p r : Bool) : Nat := if r then 3 else if p then 2 else if w then 1 else 0

/-- A drift quantity's level while its record is pending: thresholds doubled, none above WATCH (11 R275). -/
def capPending (pending : Bool) (v : Nat) : Nat := if pending then min 1 v else v

/-- The level that each quantity has by Table 11.5, by quantity code, as (code, figure, level); the sink-resistance figure is
a ratio whose form in an EVT word the spec does not give: a free value (log 4). -/
def Lane.wearLevels (l : Lane) : List (Nat × Int × Nat) :=
  let k := if l.isPending then 2 else 1
  let kx := if l.ts.xoBirth.isNone then 2 else 1
  let d := l.drefFigure
  let t := l.trimFigure
  let x := l.xoFigure
  let s := fun (num : Nat) => l.sinkRatio (k * num) 100
  [(2, (d : Int), capPending l.isPending
      (level3 (decide (2500 * k < d)) (decide (5000 * k < d)) (decide (10000 * k < d)))),
   (3, (t : Int), capPending l.isPending (level3 (decide (2 * k ≤ t)) (decide (4 * k ≤ t)) (decide (6 * k ≤ t)))),
   (4, (l.freeVal : Int), capPending l.isPending (level3 (s 125) (s 150) (s 200))),
   (5, (x : Int), capPending l.ts.xoBirth.isNone
      (level3 (decide (1000 * kx < x)) (decide (2500 * kx < x)) (decide (5000 * kx < x))))]

/-- The level of a quantity, with rises that wait for a burn (11 R271, R277). -/
def Lane.levelHas (l : Lane) (q : Nat) : Nat :=
  let now := match q with
    | 0 => l.ts.lMem
    | 1 => l.ts.lSlack
    | 2 => l.ts.lDref
    | 3 => l.ts.lCmp
    | 4 => l.ts.lSink
    | 5 => l.ts.lXo
    | _ => if l.ts.coreSlot = #v[2, 2] ∨ l.ts.clockSlot = #v[2, 2] then min 1 l.ts.level else 0
  let waits := l.ts.burns.flatMap fun b =>
    match b with
    | .progress _ rs => (rs.filter fun r => r.q == q).map (·.level)
    | .core _ _ | .clock _ _ => []
  waits.foldl max now

/-- A rise takes effect: the quantity's level, the notice and its EVT record (11 R271). -/
def Lane.applyRise (l : Lane) (r : Rise) : Lane :=
  let l := l.modTs fun t => { t with
    lMem := if r.q = 0 then max t.lMem r.level else t.lMem,
    lSlack := if r.q = 1 then max t.lSlack r.level else t.lSlack,
    lDref := if r.q = 2 then max t.lDref r.level else t.lDref,
    lCmp := if r.q = 3 then max t.lCmp r.level else t.lCmp,
    lSink := if r.q = 4 then max t.lSink r.level else t.lSink,
    lXo := if r.q = 5 then max t.lXo r.level else t.lXo,
    level := max t.level r.level }
  let l := l.flag Reg.TS_STATUS Bit.TS_WEAR_NOTICE
  l.evtWith 0x18 Bit.TS_WEAR_NOTICE (if r.q = 0 then 255 else r.q) [sword r.figure, l.readReg true 0x6008, 0, 0, 0, 0]

/-- The highest level burned in the progress word (11 R277). -/
def burnedLevel (p : Nat) : Nat := level3 (p.testBit 6) (p.testBit 7) (p.testBit 8)

/-- The VCORE steps burned in the progress word (11 R277). -/
def burnedSteps (p : Nat) : Nat := (members p 6).length

/-- Rises and a step are burned before they take effect, where the progress word changes by them (11 R277). -/
def Lane.burnRises (l : Lane) (step : Bool) (rs : List Rise) : Lane :=
  let top := (rs.map (·.level)).foldl max 0
  if step ∨ burnedLevel l.ts.progress < top then
    l.modTs fun t => { t with burns := t.burns ++ [.progress step rs] }
  else rs.foldl Lane.applyRise l

/-- The rises among wear levels (11 R271). -/
def Lane.risesOf (l : Lane) (ws : List (Nat × Int × Nat)) : List Rise :=
  (ws.filter fun w => decide (l.levelHas w.1 < w.2.2)).map fun w => { q := w.1, figure := w.2.1, level := w.2.2 }

/-- Steps taken or waiting for their burn (11 R268, R277). -/
def Lane.stepsHas (l : Lane) : Nat :=
  l.ts.steps + (l.ts.burns.filter fun b => match b with | .progress s _ => s | .core _ _ | .clock _ _ => false).length

/-- A VCORE step is due at this boundary (11 R268). -/
def Lane.stepDue (l : Lane) : Bool :=
  decide (l.ts.smin < 40) && decide (l.stepsHas < 6) &&
    (match l.ts.sinceStep with | none => true | some n => decide (8 ≤ n))

/-- The trim of group g after a boundary (11 R270): one step toward zero error where |ERR| is 0.50 % or more. -/
def Lane.retrimmed (l : Lane) (g : Nat) : Int :=
  let t := vget l.ts.trim g 0
  let e := l.cmpErr g
  if 50 ≤ e ∧ -8 < t then t - 1 else if e ≤ -50 ∧ t < 8 then t + 1 else t

/-- Retrimming at a boundary (11 R270). -/
def Lane.retrim (l : Lane) : Lane :=
  let new : Vector Int 5 := .ofFn fun g => l.retrimmed g.val
  if new = l.ts.trim then l else (l.modTs fun t => { t with trim := new }).flag Reg.TS_STATUS Bit.TS_RETRIM

/-- The quantities that are critical at a boundary, with their figures (11 Table 11.5, R275). -/
def Lane.criticals (l : Lane) (s : List Nat) : List (Nat × Int) :=
  let k := if l.isPending then 2 else 1
  let kx := if l.ts.xoBirth.isNone then 2 else 1
  let slack := (decide (l.ts.smin < 15) && l.ts.steps == 6) || (s.take 48).any fun v => decide (v < 10)
  let cmp := (List.range 5).any fun g =>
    let e := l.cmpErr g
    let t := vget l.ts.trim g 0
    decide (100 * k ≤ e.natAbs) && ((decide (0 < e) && decide (t ≤ -8)) || (decide (e < 0) && decide (8 ≤ t)))
  (if slack then [(1, l.ts.smin)] else []) ++
  (if 20000 * k < l.drefFigure then [(2, (l.drefFigure : Int))] else []) ++
  (if cmp then [(3, (l.trimFigure : Int))] else []) ++
  (if l.sinkRatio (300 * k) 100 then [(4, (l.freeVal : Int))] else []) ++
  (if 15000 * kx < l.xoFigure then [(5, (l.xoFigure : Int))] else [])

/-- The conditions of R274 for the CORE record (11 R274). -/
def Lane.birthReady (l : Lane) (tj : Int) (vinOk : Bool) : Bool :=
  l.ts.birth.isNone && l.ts.coreSlot.toList.contains 0 && l.ts.measured == 2 ^ 37 - 1 && decide (4 ≤ l.ts.tints) &&
    ((List.range 4).all fun m => (l.conv m).trained) && decide (100 ≤ tj) && decide (tj ≤ 850) && vinOk && !l.unlocked &&
    !l.rbit Reg.TS_CTRL 31 && !(l.ts.burns.any fun b => match b with | .core _ _ => true | _ => false)

/-- The slot of the next birth record (11 R274): slot 0, or slot 1 where slot 0 is not blank. -/
def freeSlot (v : Vector Nat 2) : Nat := if vget v 0 0 = 0 then 0 else 1

/-- The CORE record as measured now (11 Table 11.6). -/
def Lane.birthNow (l : Lane) : Birth := 
  { slack := l.ts.slack.toList, dref := l.ts.dref.toList, sink := l.ts.sink.toList, tj := l.ts.tj, steps := l.ts.steps,
    err := (List.range 5).map l.cmpErr, trim := l.ts.trim.toList }

/-- The CORE record is due: its programming begins (11 R274). -/
def Lane.birthStep (l : Lane) (tj : Int) (vinOk : Bool) : Lane :=
  if l.birthReady tj vinOk then
    l.modTs fun t => { t with burns := t.burns ++ [.core (freeSlot t.coreSlot) l.birthNow] }
  else l

/-- The CLOCK record is due (11 R274): a crystal window has completed and no valid CLOCK slot exists. -/
def Lane.clockStep (l : Lane) : Lane :=
  if l.inRun && l.ts.xoDone && l.ts.xoBirth.isNone && l.ts.clockSlot.toList.contains 0 &&
      !(l.ts.burns.any fun b => match b with | .clock _ _ => true | _ => false) then
    l.modTs fun t => { t with burns := t.burns ++ [.clock (freeSlot t.clockSlot) t.xo] }
  else l

/-- TEMPER_INTERVAL: a TINT boundary, with the smallest slack of each sensor in ps, and VIN_x between VWARN and 60 V or not; TJ is
that of the last spare turn (11 R266 to R275). -/
def opTemper (l : Lane) (s : List Nat) (vinOk : Bool) : Lane :=
  if !l.inRun ∨ !elapsed l.now l.ts.tintAt l.tint then l
  else
    let l := (l.takeSlack s l.ts.tj).takeDrift
    let l := l.modTs fun t => { t with tintAt := l.now, sinceStep := t.sinceStep.map (· + 1) }
    let step := l.stepDue
    let lvl := (l.stepsHas + b2n step + 1) / 2
    let rises := l.risesOf ((1, l.ts.smin, lvl) :: l.wearLevels)
    let l := l.took
    let l := if step ∨ rises ≠ [] then l.burnRises step rises else l
    let l := if step then l.modTs fun t => { t with sinceStep := some 0 } else l
    let l := l.retrim.birthStep l.ts.tj vinOk
    (l.criticals s).foldl (fun l c => l.temperCritical c.1 c.2) l.took

/-- A memory notice raises the level of memory wear (11 Table 11.5, 10 R245). -/
def Lane.memoryNotice (l : Lane) (lvl : Nat) : Lane :=
  let rs := l.risesOf [(0, ((l.ts.storms + l.ts.hards : Nat) : Int), lvl)]
  if rs = [] then l else l.burnRises false rs

/-- CE_STORM passes a notice to Temper: WATCH, or PLAN at the third since reset (10 R245, 11 Table 11.5). -/
def Lane.temperNotice (l : Lane) : Lane :=
  let l := l.modTs fun t => { t with storms := t.storms + 1 }
  l.memoryNotice (if 3 ≤ l.ts.storms then 2 else 1)

/-- HARD_BIT raises PLAN (11 Table 11.5). -/
def Lane.hardNotice (l : Lane) : Lane := (l.modTs fun t => { t with hards := t.hards + 1 }).memoryNotice 2

/-- A birth record has been programmed and read back (11 R274): verified, or its slot has failed. -/
def Lane.birthWritten (l : Lane) (ok : Bool) (v : Vector Nat 2) : Lane :=
  if ok then l.flag Reg.TS_STATUS Bit.TS_BIRTH_WRITTEN
  else if v = #v[2, 2] then
    let l := (l.flag Reg.TS_STATUS Bit.TS_BIRTH_FAIL).took
    if l.ts.level = 0 then l.burnRises false [{ q := 255, figure := (l.freeVal : Int), level := 1 }] else l
  else l

/-- BIRTH_WRITE_COMPLETE: OTP programming of the oldest birth record ends and its read-back is verified or not (11 R274). -/
def opBirthWrite (l : Lane) (ok : Bool) : Lane :=
  match l.ts.burns with
  | .core i b :: t =>
    let l := l.modTs fun s => { s with
      burns := t, coreSlot := vmod s.coreSlot i fun _ => if ok then 1 else 2, birth := if ok then some b else s.birth }
    l.birthWritten ok l.ts.coreSlot
  | .clock i xo :: t =>
    let l := l.modTs fun s => { s with
      burns := t, clockSlot := vmod s.clockSlot i fun _ => if ok then 1 else 2,
      xoBirth := if ok then some xo else s.xoBirth }
    l.birthWritten ok l.ts.clockSlot
  | _ => l

/-- The thermometer bits of the steps and the level (11 R277). -/
def progressBits (steps lvl : Nat) : Nat := (2 ^ min 6 steps - 1) + 64 * (2 ^ min 3 lvl - 1)

/-- PROGRESS_WORD_BURNED: both copies are burned, and the VCORE step or the levels take effect (11 R268, R271, R277). -/
def opProgress (l : Lane) : Lane :=
  match l.ts.burns with
  | .progress step rs :: t =>
    let top := (rs.map (·.level)).foldl max (burnedLevel l.ts.progress)
    let steps := burnedSteps l.ts.progress + b2n step
    let l := l.modTs fun s => { s with
      burns := t, progress := progressBits steps top, steps := s.steps + b2n step }
    let l := l.flagIf step Reg.TS_STATUS Bit.TS_VCORE_STEP
    rs.foldl Lane.applyRise l
  | _ => l

end Sys2Proof.Machine
end

