-- ==== Sys2Proof/Machine/Takeover.lean ====
section
/-! DEFINITION. Roles, module condition, token lines, claims, handover, splits, heartbeats and the management view (08; 01 R31;
15 R355, R356). -/

namespace Sys2Proof.Machine

/-- The lane with its role and token state changed. -/
def Lane.modLn (l : Lane) (f : LaneCtl → LaneCtl) : Lane := { l with ln := f l.ln }

/-- The lane number of peer k of this lane (08 Table 8.25). -/
def Lane.peerNo (l : Lane) (k : Nat) : Nat := peerLane l.id k

/-- A lane-block event with its EVT record (08 R190, R196, 14 Table 14.8). -/
def Lane.lnEvt (l : Lane) (b : Nat) : Lane := l.flagEvt Reg.LN_STATUS b 0x12 255

/-! Module condition -/

/-- A request already made rises in level with the condition (08 R191). -/
def Lane.raiseLevel (l : Lane) : Lane :=
  if l.ln.level = 0 ∨ levelOf l.ln.cond ≤ l.ln.level then l
  else ((l.modLn fun n => { n with level := levelOf n.cond }).event Reg.LN_REPLACE 0).flag Reg.LN_STATUS Bit.LN_REPLACE

/-- A condition comes into force (08 R190, R210): COND_CHANGED with an EVT record in the lane that holds the token, the level of
a request, the profile, and QUENCH or its end. A new holder's LEAVE waits for T_r; one that dropped before T_r owes it until it
adopts the condition of another holder. -/
def Lane.setCond (l : Lane) (c : Nat) : Lane :=
  if c = l.ln.cond then (if l.ln.leaveOwed && !l.holds && c != 3 then l.unquench else l)
  else
    let l := l.modLn fun n => { n with cond := c }
    let l := if l.holds then l.lnEvt Bit.LN_COND_CHANGED else l
    let l := l.raiseLevel.profileSync
    if c = 3 then l.quench else if l.holds then l else l.unquench

/-- The lane's own count of HEALTHY lanes as a condition (08 R190). -/
def Lane.ownCount (l : Lane) : Nat := l.countCond l.unlocked

/-- The holder recounts: the condition may rise (08 R190); QUENCH is left by a won claim only (08 R210). -/
def Lane.recount (l : Lane) : Lane := if l.holds ∧ l.ln.cond ≠ 3 then l.setCond l.ownCount else l

/-- The count falls: in the holder, and in every living lane while no lane holds the token (08 R190). -/
def Lane.condFall (l : Lane) : Lane :=
  if (l.holds ∨ l.ln.holder = 3) ∧ l.ln.cond < l.ownCount then l.setCond l.ownCount else l

/-! Command paths -/

/-- The Sprue path on a bus is alive (12 R302, R303); a bus engine or port marked unusable by Shakeout serves no path (11
Table 11.2). -/
def Lane.sprueAlive (l : Lane) (b : Nat) : Bool :=
  let ks := (List.range 15).filter fun k => l.inbound k && l.fld (Reg.SF_CCFG k) 28 2 == b
  let u := l.busOf b
  u.err != 2 && !u.echoLost && !l.ts.unusable.testBit b && (ks.isEmpty || ks.any fun k => !(l.conn k).expired)

/-- The host path is alive (14 R343). -/
def Lane.hostAlive (l : Lane) : Bool :=
  l.hr.dlActive && l.hr.mse && l.hr.bme && l.ringOn 0 && l.ringOn 1 && (l.hr.lastFour.any fun b => b) &&
    !(l.conn (l.ringConn 0)).expired && !l.ts.unusable.testBit 2

/-- The command paths alive, as ALIVE of LN_PATHS (08 Table 8.18). -/
def Lane.pathsAlive (l : Lane) : Nat := b2n (l.sprueAlive 0) + 2 * b2n (l.sprueAlive 1) + 4 * b2n l.hostAlive

/-- The paths configured to carry commands (08 Table 8.18). -/
def Lane.pathsCfg (l : Lane) : Nat := l.fld Reg.LN_PATHS 0 3

/-- A path has come back (08 R189, R211): a charge for it is dropped, and cause 0x13 clears with the last one. -/
def Lane.pathBack (l : Lane) (p : Nat) : Lane :=
  let was := l.ln.charged
  let l := l.modLn fun n => { n with pathAt := vmod n.pathAt p fun _ => none, pathLost := n.pathLost &&& (7 - 2 ^ p),
                                     charged := n.charged &&& (7 - 2 ^ p) }
  if was ≠ 0 ∧ l.ln.charged = 0 ∧ l.ts.unusable % 8 = 0 then l.clearCause 0x13 else l

/-- ALIVE follows the paths (08 R211): the loss of a configured path starts its confirmation window. -/
def Lane.pathEdges (l : Lane) : Lane :=
  let now := l.pathsAlive
  let was := l.ln.alive
  if now = was then l
  else
    let l := l.modLn fun n => { n with alive := now }
    l.each (List.range 3) fun l p =>
      if now.testBit p && !was.testBit p then l.pathBack p
      else if was.testBit p && !now.testBit p && l.pathsCfg.testBit p && l.inRun then
        l.modLn fun n => { n with pathAt := vmod n.pathAt p fun _ => some l.now }
      else l

/-- Every lane heard that is not RESTING reports path p lost (08 R211, 15 R355). -/
def Lane.pathExternal (l : Lane) (p : Nat) : Bool :=
  [0, 1].all fun k => !l.heardPeer k || (l.peerOf k).health == 3 || !(l.peerOf k).paths.testBit p

/-- The highest-ranked reaction among the connections that carry axis n (13 R316, Table 13.4). -/
def Lane.topReact (l : Lane) (n : Nat) : Nat := ((l.covering n).map fun k => l.fld (Reg.SF_CCFG k) 26 2).foldl max 0

/-- The reaction chosen for the connections of each axis (08 R211). -/
def Lane.cmdLostReact (l : Lane) : Lane := l.each l.axes fun l n => l.connApply n (l.topReact n)

/-- PATH_CONFIRM: the PCONF window of path p ends with the path still lost (08 R211). -/
def opPathConfirm (l : Lane) (p : Nat) : Lane :=
  match vget l.ln.pathAt p none with
  | none => l
  | some t =>
    if !elapsed l.now t (us (l.fld Reg.LN_CFG 0 16)) then l
    else
      let ext := l.pathExternal p
      let l := l.modLn fun n => { n with pathAt := vmod n.pathAt p fun _ => none, pathLost := n.pathLost ||| 2 ^ p,
                                         charged := if ext then n.charged else n.charged ||| 2 ^ p }
      let l := l.lnEvt Bit.LN_PATH_LOST
      if !ext then l.deferCause 0x13 p
      else if l.isActive ∧ l.ln.pathLost &&& l.pathsCfg = l.pathsCfg ∧ l.ln.charged = 0 then
        (l.lnEvt Bit.LN_CMD_LOST).cmdLostReact
      else l

/-! Claims -/

/-- The lane may take part in control (15 R355, R362): in RUN, not in an entry sequence, pads not latched. -/
def Lane.partakes (l : Lane) : Bool := l.inRun && l.pw.entry.isNone && !l.pw.padLatch

/-- A word of a heard lane stands (01 R31). -/
def Lane.wordHeard (l : Lane) : Bool := [0, 1].any fun k => l.heardPeer k && (l.peerOf k).axcfg != 0

/-- A RESTING lane is heard (15 R356). -/
def Lane.restingHeard (l : Lane) : Bool := [0, 1].any fun k => l.heardPeer k && (l.peerOf k).health == 3

/-- Cycles of SOLO (15 Table 15.18). -/
def Lane.solo (l : Lane) : Nat := ms (max 1 (l.fld Reg.PW_VCFG 0 16))

/-- Some time has passed since the entry into RUN. -/
def Lane.runFor (l : Lane) (n : Nat) : Bool :=
  match l.pw.runAt with
  | some t => elapsed l.now t n
  | none => false

/-- The lane may make its first claim (01 R31, 15 R356): its word is confirmed, or it hears no other lane for HBTO, or SOLO has
run out with no word heard. A lane that has won one before needs nothing more. -/
def Lane.firstOk (l : Lane) : Bool :=
  l.ln.agreed || l.ln.takeovers != 0 || (l.heardMask == 0 && l.runFor l.hbto) ||
    (l.restingHeard && !l.wordHeard && l.runFor l.solo)

/-- The token is released: the holder's line has been seen IDLE, or it is silent-released, or there is none (08 R199). -/
def Lane.released (l : Lane) : Bool := l.ln.holder == 3

/-- No CLAIM or HOLD of another lane is seen (08 R199). -/
def Lane.quiet (l : Lane) : Bool :=
  [0, 1].all fun k => (l.peerOf k).line != .claim && (l.peerOf k).line != .hold

/-- 64 cycles have passed since the release with no CLAIM or HOLD seen (08 R199); a claim that was cancelled starts them afresh
(08 R213). -/
def Lane.spareWait (l : Lane) : Bool :=
  l.quiet && (match l.ln.releaseAt with | some t => elapsed l.now t 64 | none => l.runFor 64) &&
    (match l.ln.quietAt with | some t => elapsed l.now t 64 | none => true)

/-- The lane is HEALTHY, or eligible in bench mode with no other lane HEALTHY (08 R199, R210). -/
def Lane.fit (l : Lane) : Bool := l.health == 0 || (l.bench && l.healthyMask == 0 && !l.ln.failed)

/-- Peer k ranks above this lane (08 R199): A above B above C. -/
def Lane.outranked (l : Lane) (k : Nat) : Bool := decide (l.peerNo k < l.id.num)

/-- The CLAIM of a higher-ranked lane or any HOLD is seen, to which a claim yields (08 R199). -/
def Lane.claimMet (l : Lane) : Bool :=
  [0, 1].any fun k => (l.outranked k && (l.peerOf k).line == .claim) || (l.peerOf k).line == .hold

/-- The lane may claim once the token is released, a SPARE after its wait (08 R199); its word is confirmed before its first
claim (01 R31). -/
def Lane.awaits (l : Lane) : Bool :=
  l.partakes && l.fit && l.released && l.firstOk &&
    match l.ln.role with
    | .standby | .offline => true
    | .spare => !l.hearsStandby
    | .active | .withdrawn => false

/-- The lane is eligible to claim (08 R199). -/
def Lane.eligible (l : Lane) : Bool := l.awaits && (l.ln.role != .spare || l.spareWait)

/-- The lane sets its line to CLAIM (08 R199): on-demand tests are handed back first (11 R262). -/
def Lane.setClaim (l : Lane) (forHandover : Bool) : Lane :=
  l.abandonTests.modLn fun n => { n with line := .claim, claimAt := l.now, forHandover := forHandover }

/-- A claim is withdrawn (08 R199): the role and health stay; a raise already queued is cancelled. -/
def Lane.yieldClaim (l : Lane) : Lane :=
  let l := if l.ln.forHandover then l.sendDrop else l
  (l.modLn fun n => { n with line := .idle, tr := none, forHandover := false, yields := satAdd 0xFF n.yields 1 }).flag
    Reg.LN_STATUS Bit.LN_CLAIM_YIELD

/-- The line is set to CLAIM, and yields in the same cycle where a higher-ranked CLAIM or a HOLD is seen (08 R199). -/
def Lane.claimNow (l : Lane) : Lane :=
  let l := l.setClaim false
  if l.claimMet then l.yieldClaim else l

/-- CLAIM_START: an eligible lane sees the token released (08 R199). -/
def opClaimStart (l : Lane) : Lane := if l.ln.line == .idle && l.eligible then l.claimNow else l

/-- SOLO_EXPIRY: SOLO runs out with a RESTING lane heard and no word: the lane claims on its own word (15 R356). -/
def opSolo (l : Lane) : Lane :=
  if l.ln.role == .offline && l.partakes && !l.ln.agreed && l.restingHeard && !l.wordHeard && l.runFor l.solo &&
      l.ln.line == .idle then
    let l := l.flag Reg.PW_STATUS Bit.PW_SOLO_CLAIM
    if l.eligible then l.claimNow else l
  else l

/-- T_r of a won claim and its TOKEN raise (08 R201). LN_TKO takes the time from the release. -/
def Lane.chooseRaise (l : Lane) : Lane :=
  let tr := l.periodStartOr l.taxis (l.now + 700)
  let l := (l.sendRaise tr).modLn fun n => { n with tr := some tr }
  match l.ln.releaseAt with
  | none => l
  | some r =>
    let d := min 0xFFFF (tr - r)
    l.modLn fun n => { n with tkoLast := d, tkoMax := max n.tkoMax d, releaseAt := none }

/-- The claim is won: HOLD (08 R199 to R203, R190), with an EVT record whose FLAG the spec does not state (08 Table 8.10, log 18).
A raise of a handover stands; its condition stays with the mirror. -/
def Lane.winHold (l : Lane) : Lane :=
  let hand := l.ln.forHandover
  let l := l.took.evt 0x12 (l.freeVal % 24) 255
  let l := l.modLn fun n => { n with
    line := .hold, holder := l.id.num, holdSince := l.wns, held := false, takeovers := satAdd 0xFF n.takeovers 1,
    silentHold := n.silentWin, silentWin := false, limpMir := false, leaveOwed := n.quenched, forHandover := false,
    promoting := none, resent := 0, laneRecAt := none, laneCount := 0, axisPass := .replicate 6 0, splitAt := none }
  if hand then
    let d := match l.ln.releaseAt, l.ln.tr with
      | some r, some t => min 0xFFFF (t - r)
      | _, _ => 0
    (l.modLn fun n => { n with tkoLast := d, tkoMax := max n.tkoMax d, releaseAt := none }).profileSync
  else (l.chooseRaise.setCond l.ownCount).profileSync

/-- CLAIM_HOLD: no higher claim for 16 cycles (08 R199). -/
def opClaimHold (l : Lane) : Lane :=
  if l.ln.line == .claim && !l.ln.forHandover && elapsed l.now l.ln.claimAt 16 then l.winHold else l

/-- A line of peer k is seen at HOLD (08 R199, R200). -/
def Lane.seeHold (l : Lane) (k : Nat) : Lane :=
  let old := l.ln.holder
  match l.ln.line with
  | .hold => l.modLn fun n => { n with splitAt := some (n.splitAt.getD l.now) }
  | .claim =>
    if l.ln.forHandover ∧ old = l.peerNo k then l
    else l.yieldClaim.modLn fun n => { n with holder := l.peerNo k }
  | .idle | .silent =>
    -- the promotion by another holder and its record sequences start afresh (08 R204)
    let same := old == l.peerNo k
    l.modLn fun n => { n with holder := l.peerNo k, silentWin := false,
                              axisGot := if same then n.axisGot else 0, laneGot := same && n.laneGot,
                              mirSeq := if same then n.mirSeq else .replicate 8 none,
                              mirMiss := if same then n.mirMiss else .replicate 8 0 }

/-- A line of peer k is seen at CLAIM (08 R197, R199). -/
def Lane.seeClaim (l : Lane) (k : Nat) : Lane :=
  match l.ln.line with
  | .claim => if l.outranked k then l.yieldClaim else l
  | .hold => l.modLn fun n => { n with handover := n.handover.map fun h => { h with claimed := true } }
  | .idle | .silent => l

/-- A line of peer k is seen at IDLE (08 R199, R200): a release where it was the holder's. -/
def Lane.seeIdle (l : Lane) (k : Nat) : Lane :=
  match l.ln.line with
  | .hold =>
    -- the other lane of a split has dropped: it is resolved, and both lanes set SPLIT
    if l.ln.splitAt.isSome && (l.peerOf (1 - k)).line != .hold then
      (l.modLn fun n => { n with splitAt := none }).flag Reg.LN_STATUS Bit.LN_SPLIT
    else l
  | .claim =>
    if l.ln.holder ≠ l.peerNo k then l
    else
      let l := l.modLn fun n => { n with holder := 3, releaseAt := some l.now, silentWin := false }
      if l.ln.forHandover then l.winHold else l
  | .idle | .silent =>
    if l.ln.holder ≠ l.peerNo k then l
    else l.modLn fun n => { n with holder := 3, releaseAt := some l.now, silentWin := false }

/-- TOKEN_LINE_CHANGE: the line of peer k shows another code (08 R192, R199, R200); silence alone decides nothing. A port that
Shakeout has marked unusable shows none (11 Table 11.2). -/
def opLine (l : Lane) (k : Nat) (line : Line) : Lane :=
  if !l.alive ∨ !l.riserPorts.testBit k ∨ (l.peerOf k).line = line then l
  else
    let noisy := !l.quiet
    let l := l.modPeer k fun p => { p with line := line }
    let l := if noisy && l.quiet then l.modLn fun n => { n with quietAt := some l.now } else l
    match line with
    | .hold => l.seeHold k
    | .claim => l.seeClaim k
    | .idle => l.seeIdle k
    | .silent => l

/-- The token is given up outside a trigger (08 R197, R200): no ISOLATE word unless the lane is FAILED, and the role that its
health gives, STANDBY for a HEALTHY lane. -/
def Lane.giveUp (l : Lane) : Lane :=
  let held := l.ln.held
  let l := l.dropToken
  let l := l.evt 0x12 (if held then Bit.LN_TOKEN_DROPPED else Bit.LN_CLAIM_CANCELLED) 255
  if l.ln.failed then l.withdraw
  else l.modLn fun n => { n with role := if l.health = 0 then .standby else .spare, axisGot := 0, laneGot := false }

/-- The split with peer k is resolved (08 R200): `mine` keeps the token or drops it; both lanes set SPLIT. -/
def Lane.resolveSplit (l : Lane) (k : Nat) (mine : Bool) : Lane :=
  let l := (l.modLn fun n => { n with splitAt := none }).flag Reg.LN_STATUS Bit.LN_SPLIT
  if mine then l else l.giveUp.modLn fun n => { n with holder := l.peerNo k, releaseAt := none }

/-- The peer that shares a split: seen at HOLD. -/
def Lane.splitPeer (l : Lane) : Option Nat := [0, 1].find? fun k => (l.peerOf k).line == .hold

/-- SPLIT_TIMEOUT: 512 cycles without a usable heartbeat: rank alone (08 R200). -/
def opSplitTimeout (l : Lane) : Lane :=
  match l.ln.splitAt, l.splitPeer with
  | some t, some k => if l.holds && elapsed l.now t 512 then l.resolveSplit k (!l.outranked k) else l
  | _, _ => l

/-! Heartbeats -/

/-- ITEM 0 stands for no cause (08 Table 8.6). -/
def Lane.hbWord0 (l : Lane) : Word :=
  pack [(l.ln.item, 5), (b2n l.bench, 13), (b2n l.unlocked, 14), (l.pathsAlive, 15), (l.ln.cond, 18), (l.ln.holder, 20),
    (l.heardMask ||| 2 ^ l.id.num, 22), (l.health, 25), (l.ln.role.code, 27), (l.id.num, 30)]

/-- The five words of a heartbeat (08 Table 8.6); word 1 is zero while the lane is RESTING (15 R355). -/
def Lane.heartbeat (l : Lane) : List Word :=
  let w1 : Word := if l.health = 3 then 0 else pack [(l.fld Reg.LN_AXCFG 0 18, 0)]
  let body := [l.hbWord0, w1, pack [(nsOf l.ln.holdSince, 0)], BitVec.ofNat 32 (secOf l.ln.holdSince)]
  body ++ [pack [(l.ln.hbSeq, 0), ((crc16 body).toNat, 16)]]

/-- HEARTBEAT_SEND: every 256 cycles (08 R193). A heartbeat of an entry sequence counts once isolation stands (15 R362). -/
def opHeartbeatSend (l : Lane) : Lane :=
  let due := match l.ln.hbAt with
    | some t => elapsed l.now t 256
    | none => true
  if !l.alive ∨ !due then l
  else
    let l := l.modLn fun n => { n with sent := n.sent ++ [.heartbeat l.riserPorts l.heartbeat], hbSeq := (n.hbSeq + 1) % 65536, hbAt := some l.now }
    { l with pw := { l.pw with entry := l.pw.entry.map fun e => { e with beats := e.beats + b2n e.isolated } } }

/-- What a peer's heartbeat changes in its record (08 Table 8.25, R190, R195). -/
def Peer.hear (p : Peer) (now : Nat) (w0 w1 : Word) (myCond : Nat) : Peer :=
  let role := field w0 27 3
  let health := field w0 25 2
  let cond := field w0 18 2
  let ready := (role == 1 || role == 2) && health == 0
  { p with role := role, health := health, heard := field w0 22 3, holder := field w0 20 2, cond := cond,
           paths := field w0 15 3, item := field w0 5 8, axcfg := field w1 0 18,
           lower := if health < 2 ∧ myCond < cond then (min 2 (p.lower.1 + 1), cond) else (0, 3),
           beatAt := some now, readySince := if ready then some (p.readySince.getD now) else none,
           asked := if health = 0 then 0 else p.asked }

/-- The words compare (01 R31): an equal word confirms the lane's own and clears cause 0x17. -/
def Lane.compareWord (l : Lane) (w1 : Word) : Lane :=
  let w := field w1 0 18
  if w ≠ 0 ∧ w = l.fld Reg.LN_AXCFG 0 18 ∧ l.inRun then (l.modLn fun n => { n with agreed := true }).clearCause 0x17 else l

/-- The holder learns the item of a fault in another lane, once for each (08 R191). -/
def Lane.learnItem (l : Lane) (k : Nat) : Lane :=
  let p := l.peerOf k
  if l.holds && (p.health == 1 || p.health == 2) && p.item != 0 && p.asked != p.item then
    (l.request p.item).modPeer k fun p => { p with asked := p.item }
  else l

/-- The condition by a heartbeat (08 R190): the holder adopts a lower one reported twice; another lane adopts the holder's. -/
def Lane.hearCond (l : Lane) (k : Nat) : Lane :=
  let p := l.peerOf k
  if l.holds then (if p.lower.1 = 2 then l.setCond p.lower.2 else l)
  else if l.ln.holder = l.peerNo k then l.setCond p.cond
  else l

/-- A split is resolved by the heartbeat of the other holder (08 R200): the earlier HOLD_SINCE keeps the token. -/
def Lane.hearSplit (l : Lane) (k : Nat) (w2 w3 : Word) : Lane :=
  let theirs := w3.toNat * 1000000000 + field w2 0 30
  let own := secOf l.ln.holdSince % 2 ^ 32 * 1000000000 + nsOf l.ln.holdSince
  if l.holds && l.ln.splitAt.isSome && (l.peerOf k).line == .hold && theirs != 0 then
    l.resolveSplit k (decide (own < theirs) || (own == theirs && !l.outranked k))
  else l

/-- Promotion of peer k completes (08 R190, R204): the holder recounts. -/
def Lane.hearPromoted (l : Lane) (k : Nat) : Lane :=
  if l.holds && l.ln.promoting == some k && (l.peerOf k).role == 2 then (l.modLn fun n => { n with promoting := none }).recount
  else l

/-- The third lane's peer index. -/
def otherPeer (k : Nat) : Nat := 1 - k

/-- The third lane is heard and still hears peer k (08 R194, R195). -/
def Lane.thirdHears (l : Lane) (k : Nat) : Bool :=
  l.heardPeer (otherPeer k) && (l.peerOf (otherPeer k)).heard.testBit (l.peerNo k)

/-- The end to which a lost link with peer k is charged is this lane (08 R195). -/
def Lane.chargedHere (l : Lane) (k : Nat) : Bool :=
  if l.holds then false
  else if l.ln.holder = l.peerNo k then true
  else l.outranked k

/-- The link with peer k is lost while the third lane hears it (08 R194, R195). -/
def Lane.reportLost (l : Lane) (k : Nat) : Lane :=
  (l.modPeer k fun p => { p with lost := true, judged := false, backSince := none }).flag Reg.LN_STATUS Bit.LN_RISER_LOST

/-- A heartbeat of peer j shows both this lane and the silent other peer HEARD, beyond the HBTO + 263 cycles in which a silent
lane would have left it (08 R194): their link is lost, and it is charged once, to one end (08 R195). -/
def Lane.judgeLink (l : Lane) (j : Nat) : Lane :=
  let k := otherPeer j
  let p := l.peerOf k
  let late := match p.lastAt with
    | some t => elapsed l.now t (l.hbto + 263)
    | none => false
  if !p.silent || p.judged || p.health == 3 || !late || !l.thirdHears k || !(l.peerOf j).heard.testBit l.id.num then l
  else
    let l := if p.lost then l else l.reportLost k
    let l := l.modPeer k fun p => { p with judged := true }
    if l.chargedHere k then l.deferCause 0x14 (l.peerNo k) else l

/-- A silent lane is heard again: if the token was won on its silence, the forced LIMP ends (08 R203). -/
def Lane.heardAgain (l : Lane) (k : Nat) : Lane :=
  if l.ln.silentOf ≠ l.peerNo k then l
  else
    let held := l.ln.silentHold
    let l := l.modLn fun n => { n with silentHold := false, silentWin := false, silentOf := 3 }
    if held then l.profileSync else l

/-- A frame that fails its check is discarded and counted (08 R193). -/
def Lane.badFrame (l : Lane) (k : Nat) : Lane := l.modPeer k fun p => { p with bad := min 3 (p.bad + 1) }

/-- A frame of peer k is verified, of whatever kind (08 R194, R195): the peer is heard, and a lost link's recovery counts on. -/
def Lane.frameFrom (l : Lane) (k : Nat) : Lane :=
  let was := l.peerOf k
  let l := l.modPeer k fun p =>
    { p with lastAt := some l.now, silent := false, backSince := if p.lost then some (p.backSince.getD l.now) else none }
  if was.silent then l.heardAgain k else l

/-- HEARTBEAT_RECEIVE: a frame of five words arrives from peer k, and is verified by its CRC and sender (08 R190, R193). -/
def opHeartbeatRecv (l : Lane) (k : Nat) (w0 w1 w2 w3 w4 : Word) : Lane :=
  if !l.alive ∨ !l.riserPorts.testBit k then l
  else if (crc16 [w0, w1, w2, w3]).toNat ≠ field w4 16 16 ∨ field w0 30 2 ≠ l.peerNo k then l.badFrame k
  else
    let l := (l.frameFrom k).modPeer k fun p => p.hear l.now w0 w1 l.ln.cond
    (((((l.compareWord w1).learnItem k).hearCond k).hearSplit k w2 w3).hearPromoted k).judgeLink k

/-- AXCFG_MISMATCH: HBTO after the entry into RUN, words have been heard but none equal (01 R31). -/
def opAxcfgMismatch (l : Lane) : Lane :=
  if l.inRun && l.runFor l.hbto && l.wordHeard && !l.ln.agreed && !l.ln.impaired.getLsbD 7 then
    (l.flag Reg.LN_STATUS Bit.LN_AXCFG_MISMATCH).deferCause 0x17 0
  else l

/-- A silent peer that last showed RESTING raises nothing (15 R355). -/
def Lane.silentNotice (l : Lane) (k : Nat) : Lane :=
  let p := l.peerOf k
  if p.health = 3 then l
  else
    let l := if p.health == 0 then l.request (itemOf (l.peerNo k) 0x01 255) else l
    if l.thirdHears k then l.reportLost k else l

/-- PEER_SILENT: no frame of peer k has been verified for HBTO (08 R190, R194, R195). -/
def opPeerSilent (l : Lane) (k : Nat) : Lane :=
  let p := l.peerOf k
  if !l.alive ∨ 2 ≤ k ∨ p.lastAt.isNone ∨ l.heardPeer k ∨ p.silent then l
  else (l.modPeer k fun p => { p with silent := true, readySince := none, lower := (0, 3) }).silentNotice k

/-- The holder is silent-released (08 R194): it is silent for HBTO, and the third lane is silent too or hears it no more. Its line
decides nothing; a line still seen at HOLD makes a claim yield (08 R199). -/
def Lane.silentRelease (l : Lane) : Lane :=
  match peerIx l.id l.ln.holder with
  | none => l
  | some k =>
    if (l.peerOf k).silent && !l.thirdHears k && !l.holds then
      l.modLn fun n => { n with holder := 3, releaseAt := some l.now, silentWin := true, silentOf := n.holder }
    else l

/-- RISER_LINK_RESTORED: frames of a lost link have been verified again for 1 ms (08 R195). The cause of a port that Shakeout has
marked unusable stands until lane reset (11 R261). -/
def opLinkRestored (l : Lane) (k : Nat) : Lane :=
  let p := l.peerOf k
  match p.backSince with
  | none => l
  | some t =>
    if !l.heardPeer k ∨ !elapsed l.now t 250000 then l
    else
      let l := l.modPeer k fun p => { p with lost := false, judged := false, backSince := none }
      if ([0, 1].any fun j => (l.peerOf j).lost) ∨ l.riserPorts ≠ 3 then l else l.clearCause 0x14

/-- CONDITION_RECOUNT: a HEALTHY peer has been heard as SPARE or STANDBY without a break for 1 ms while a STANDBY exists (08
R190). -/
def opRecount (l : Lane) (k : Nat) : Lane :=
  match (l.peerOf k).readySince with
  | none => l
  | some t => if l.holds && l.hearsStandby && l.heardPeer k && elapsed l.now t 250000 then l.recount else l

/-! Triggers, causes and handover -/

/-- SELF_DIAGNOSIS_TRIGGER: a trigger of Table 8.3 (08 R196). -/
def opTrigger (l : Lane) (code detail : Nat) : Lane :=
  if l.alive ∧ 1 ≤ code ∧ code ≤ 0x0B then l.trigger code detail else l

/-- A handover is asked for (08 Table 8.15): refused while a claim or handover runs, while not ACTIVE, or without a HEALTHY
STANDBY. The answer is true where it is taken. -/
def Lane.askHandover (l : Lane) : Bool × Lane :=
  let claim := [0, 1].any fun k => (l.peerOf k).line == .claim
  if !l.isActive ∨ claim ∨ l.ln.handover.isSome ∨ l.standbyPeer.isNone then
    (false, l.flag Reg.LN_STATUS Bit.LN_HANDOVER_REFUSED)
  else (true, l.deferCause 0x16 0)

/-- DEFERRED_CAUSE: a cause of Table 8.4 (08 R197). -/
def opDefer (l : Lane) (code detail : Nat) : Lane :=
  if !l.alive ∨ code < 0x10 ∨ 0x17 < code then l
  else if code = 0x16 then l.askHandover.2
  else l.deferCause code detail

/-- The lane's own period start of TAXIS at a WCLK instant (08 R197): a start within the 9 cycles that the two lanes' WCLK may
differ (08 R199), else the cycle of the instant. -/
def Lane.ownStartAt (l : Lane) (th : Nat) : Nat :=
  let c := l.cycleAt th
  match l.periodStart l.taxis (c - 9) with
  | some t => if t ≤ c + 9 then t else c
  | none => c

/-- HANDOVER_FRAME: a STANDBY verifies a HANDOVER frame of the holder with T_h at least 710 cycles ahead (08 R199). -/
def opHandoverFrame (l : Lane) (k : Nat) (th : Nat) : Lane :=
  let tr := l.ownStartAt th
  let l := if l.riserPorts.testBit k then l.frameFrom k else l
  if !l.riserPorts.testBit k then l
  else if l.partakes && l.ln.role == .standby && l.health == 0 && l.ln.line == .idle && l.ln.holder == l.peerNo k &&
      (l.peerOf k).line == .hold && decide (l.now + 710 ≤ l.cycleAt th) then
    ((l.setClaim true).sendRaise tr).modLn fun n => { n with tr := some tr }
  else l

/-- HANDOVER_CHECK: at T_r − 16 the holder's line has not shown IDLE (08 R199). -/
def opHandoverCheck (l : Lane) : Lane :=
  match l.ln.tr with
  | some tr => if l.ln.line == .claim && l.ln.forHandover && decide (tr ≤ l.now + 16) then l.yieldClaim else l
  | none => l

/-- HANDOVER_RETRY: no CLAIM by T_h − 700: the attempt is abandoned, and the next one waits for the next period start, T_h
itself (08 R197). -/
def opHandoverRetry (l : Lane) : Lane :=
  match l.ln.handover with
  | none => l
  | some h =>
    if h.claimed ∨ l.now + 700 < h.th then l
    else l.modLn fun n => { n with handover := none, deferred := some h.code, retryAt := h.th }

/-- HANDOVER_DROP: at T_h − 32 the holder drops the token (08 R197). -/
def opHandoverDrop (l : Lane) : Lane :=
  match l.ln.handover with
  | none => l
  | some h =>
    if h.claimed ∧ h.th ≤ l.now + 32 then l.giveUp else l

/-- A deferred cause waits for a HEALTHY STANDBY (08 R197). -/
def Lane.deferredRetry (l : Lane) : Lane :=
  match l.ln.deferred with
  | none => l
  | some c =>
    if !l.holds then l.modLn fun n => { n with deferred := none }
    else if l.standbyPeer.isSome ∧ l.ln.handover.isNone ∧ l.ln.retryAt ≤ l.now then l.startHandover c
    else l

/-- ACK_SILENT: SILENT_HOLD and its forced LIMP end (08 R203). The answer is false where there was none. -/
def Lane.ackSilent (l : Lane) : Bool × Lane :=
  if l.ln.silentHold then (true, (l.modLn fun n => { n with silentHold := false }).profileSync) else (false, l)

/-! Role and view -/

/-- OFFLINE ends (01 R31, 11 R261): a confirmed lane that sees a holder is SPARE, and so is an IMPAIRED one; a RESTING lane is
OFFLINE (15 R355). -/
def Lane.joinRole (l : Lane) : Lane :=
  match l.ln.role with
  | .offline =>
    if l.partakes && !l.ln.failed && l.ln.line == .idle && ((l.ln.agreed && l.ln.holder != 3) || l.ln.impaired != 0) then
      l.modLn fun n => { n with role := .spare, axisGot := 0, laneGot := false }
    else l
  | .spare | .standby =>
    if l.health = 3 then l.stopShadow.modLn fun n => { n with role := .offline, axisGot := 0, laneGot := false } else l
  | .active | .withdrawn => l

/-- The lane may become the claimant, or the holder has begun to promote it: it hands the cells of its on-demand tests back (11
R262). -/
def Lane.handBack (l : Lane) : Lane :=
  if l.ts.reqs.isEmpty then l
  else if l.awaits || (l.ln.role == .spare && (l.ln.laneGot || l.ln.axisGot != 0)) then l.abandonTests
  else l

/-- Promotion ends in the promoted lane (08 R204): an AXIS record of every enabled axis and a LANE record have come. -/
def Lane.promoted (l : Lane) : Lane :=
  if l.ln.role == .spare && l.health == 0 && l.partakes && l.ln.laneGot &&
      (l.axes.all fun n => l.ln.axisGot.testBit n) then
    l.modLn fun n => { n with role := .standby }
  else l

/-- The holder promotes the highest-ranked HEALTHY SPARE while no STANDBY exists (08 R204). -/
def Lane.promote (l : Lane) : Lane :=
  if !l.holds then l
  else if l.hearsStandby then l
  else
    let k := [0, 1].find? fun k => l.heardPeer k && (l.peerOf k).role == 1 && (l.peerOf k).health == 0
    if l.ln.promoting = k then l else l.modLn fun n => { n with promoting := k }

/-- The token counts as held from the LEVELS word that shows it (08 R196, R201): ACTIVE, TOKEN_RAISED. -/
def Lane.becomeActive (l : Lane) : Lane :=
  match l.ln.tr with
  | some tr =>
    if l.holds && !l.ln.held && bit l.port.levels 27 && decide (tr ≤ l.now) then
      let l := (l.modLn fun n => { n with role := .active, held := true, resent := 0 }).lnEvt Bit.LN_TOKEN_RAISED
      -- ENTER again for every axis whose SAFE reaction the lane holds (09 R230)
      if l.safeMask = 0 then l else l.sendSafe l.safeMask 0
    else l
  | none => l

/-- LEAVE of every axis at T_r, where the claim ended QUENCH (08 R210). -/
def Lane.leaveAtTr (l : Lane) : Lane :=
  match l.ln.tr with
  | some tr =>
    if l.ln.leaveOwed && l.holds && decide (tr ≤ l.now) then
      let l := l.modLn fun n => { n with leaveOwed := false }
      if l.ln.cond = 3 then l else l.unquench
    else l
  | none => l

/-- QUENCH is seen from the entry into RUN once the axis classes are set (08 R210). -/
def Lane.quenchSync (l : Lane) : Lane := if l.ln.cond = 3 ∧ l.axes ≠ [] then l.quench else l

/-- The lane whose line is seen at HOLD, this one among them (08 R209); 3 for none. -/
def Lane.lineHolder (l : Lane) : Nat :=
  if l.holds then l.id.num
  else match [0, 1].find? fun k => (l.peerOf k).line == .hold with
    | some k => l.peerNo k
    | none => 3

/-- How management view and data path differ (08 R209, Table 8.11): 1 HOLD without the token, 2 the token without HOLD, 3
WITHDRAWN and not isolated, 4 HOLDER, 0 not at all. -/
def Lane.viewDiff (l : Lane) : Nat :=
  let lv := l.port.levels
  if !l.portOn ∨ !l.port.levelsSeen then 0
  else if l.holds ∧ (l.ln.tr.any fun t => decide (t ≤ l.now)) ∧ !bit lv 27 then 1
  else if !l.holds ∧ bit lv 27 then 2
  else if l.ln.role = .withdrawn ∧ !bit lv 26 then 3
  else if l.ln.holder ≠ l.lineHolder ∧ l.lineHolder ≠ 3 then 4
  else 0

/-- The time since which the views differ is kept (08 R209). -/
def Lane.viewWatch (l : Lane) : Lane :=
  if l.viewDiff = 0 then
    (if l.ln.viewAt.isNone ∧ (l.ln.resent = 0 ∨ l.holds) then l
     else l.modLn fun n => { n with viewAt := none, resent := if l.holds then n.resent else 0 })
  else if l.ln.viewAt.isNone then l.modLn fun n => { n with viewAt := some l.now }
  else l

/-- The data-path word of a VIEW_DISAGREE record (14 Table 14.8). -/
def Lane.dataPath (l : Lane) : Word :=
  pack [(l.ln.line.code, 0), ((l.peerOf 0).line.code, 3), ((l.peerOf 1).line.code, 6), (field l.port.levels 27 1, 9),
    (field l.port.levels 26 1, 10)]

/-- The repair that follows a difference (08 Table 8.11). -/
def Lane.viewRepair (l : Lane) (d : Nat) : Lane :=
  match d with
  | 1 =>
    if 2 ≤ l.ln.resent then l.trigger 0x07 0
    else
      (l.modLn fun n => { n with tr := none, held := false, resent := n.resent + 1,
                                 role := if n.role = .active then .standby else n.role }).chooseRaise
  | 2 =>
    if 1 ≤ l.ln.resent then l.trigger 0x05 0x3F
    else l.sendDrop.modLn fun n => { n with resent := 1, role := if n.role = .active then .standby else n.role }
  | 3 => if 1 ≤ l.ln.resent then l.trigger 0x05 0x3F else (l.sendIsolate true).modLn fun n => { n with resent := 1 }
  | _ => l.modLn fun n => { n with holder := l.lineHolder }

/-- VIEW_DISAGREE: a difference has lasted 64 cycles (08 R209): the EVT record carries both views, and the management view is
rewritten to the data path. -/
def opView (l : Lane) : Lane :=
  match l.ln.viewAt with
  | none => l
  | some t =>
    let d := l.viewDiff
    if d = 0 ∨ !elapsed l.now t 64 then l
    else
      let before := l.roleWord
      let path := l.dataPath
      let l := l.modLn fun n => { n with viewAt := none, views := satAdd 0xFF n.views 1 }
      let l := { l with hr := { l.hr with viewFlag := 63 } }
      let l := l.flag Reg.LN_STATUS Bit.LN_VIEW_DISAGREE
      let l := l.viewRepair d
      l.evtWith 0x12 Bit.LN_VIEW_DISAGREE 255 [before, path, 0, 0, 0, 0]

end Sys2Proof.Machine
end

