-- ==== Sys2Proof/Machine/Mirror.lean ====
section
/-! DEFINITION. The mirror: the records a holder sends and what the other lanes adopt (08 R204 to R207, 09 R230, 13 R314). -/

namespace Sys2Proof.Machine

/-- The AXIS record of axis n (08 Table 8.9). -/
def Lane.axisRecord (l : Lane) (n : Nat) : AxisRec :=
  let x := l.loopOf n
  let a := l.axis n
  { tgt := x.tgt, psp := x.psp, tgtStamp := x.tgtStamp, pspStamp := x.pspStamp, ref := a.ref, limited := a.limited,
    limKind := a.limKind, i := x.st.i, e4 := vget x.st.e 4 (-32), io := x.st.io, e0 := vget x.st.e 0 (-32),
    notch := x.st.notch, e5 := vget x.st.e 5 (-32), drive := a.drive, reason := a.reason, aoff := l.reg (Reg.FB_AOFF n),
    arm := (l.unit n).cnt.arm, offset := l.reg (Reg.TL_PT_OFFSET n) }

/-- The LANE record (08 Table 8.9, 09 R230). -/
def Lane.laneRecord (l : Lane) : LaneRec :=
  { off6 := l.reg (Reg.TL_PT_OFFSET 6), off7 := l.reg (Reg.TL_PT_OFFSET 7), wclk := l.wns,
    safe := .ofFn fun n => l.safeRec n.val, prof := l.fld Reg.SF_CTRL 0 2, profAct := l.profNow, limp := l.limp,
    modeA := (l.busOf 0).mode, modeB := (l.busOf 1).mode, cond := l.ln.cond }

/-- Peer k receives every record at full rate: it is STANDBY, or is being promoted (08 R204). -/
def Lane.fullRate (l : Lane) (k : Nat) : Bool := (l.peerOf k).role == 2 || l.ln.promoting == some k

/-- A record of a kind (AXIS 0–5, LANE 6, ENV 7) is sent to the peers that it serves, each with the next sequence of its port
(08 R204): at full rate to a STANDBY and a lane being promoted, and to a SPARE where `spare`. -/
def Lane.mirrorSend (l : Lane) (kind : Nat) (spare : Bool) (mk : Nat → Nat → Bool → RiserTx) : Lane :=
  l.each ([0, 1].filter fun k => l.riserPorts.testBit k && (l.fullRate k || (spare && (l.peerOf k).role == 1))) fun l k =>
    l.modLn fun n =>
      { n with sent := n.sent ++ [mk k (vget n.seqOut (8 * k + kind) 0) (l.fullRate k)],
               seqOut := vmod n.seqOut (8 * k + kind) fun s => (s + 1) % 65536 }

/-- The AXIS record after a pass of LEn (08 Table 8.9): every eighth goes to a SPARE too. -/
def Lane.sendAxis (l : Lane) (n : Nat) : Lane :=
  if !l.holds then l
  else
    let k := vget l.ln.axisPass n 0
    (l.mirrorSend n (k == 0) fun p s f => .axis p s n f (l.axisRecord n)).modLn fun c =>
      { c with axisPass := vmod c.axisPass n fun _ => (k + 1) % 8 }

/-- LANE_RECORD_SEND: every 2,500 cycles, every eighth to a SPARE too; with it the AXIS records of the axes in IDLE (08
R204). -/
def opLaneSend (l : Lane) : Lane :=
  let due := match l.ln.laneRecAt with
    | some t => elapsed l.now t 2500
    | none => true
  if !l.alive ∨ !l.holds ∨ !due then l
  else
    let all := l.ln.laneCount == 0
    let l := (l.mirrorSend 6 all fun p s f => .lane p s f l.laneRecord).modLn fun n =>
      { n with laneRecAt := some l.now, laneCount := (n.laneCount + 1) % 8 }
    l.each (l.axes.filter fun n => !(l.axis n).drive) fun l n =>
      l.mirrorSend n all fun p s f => .axis p s n f (l.axisRecord n)

/-- The lane receives mirror records of peer k (08 Table 8.1): it is SPARE or STANDBY, and the peer holds the token. -/
def Lane.mirrors (l : Lane) (k : Nat) : Bool :=
  l.partakes && (l.ln.role == .spare || l.ln.role == .standby) && !l.holds && l.ln.holder == l.peerNo k

/-- The sequence of a record kind (08 R204): two consecutive missed numbers set MIRROR_STALE, as they fail their check or as the
next record shows the gap. Kinds: AXIS 0–5, LANE 6, ENV 7. -/
def Lane.mirrorSeq (l : Lane) (kind seq : Nat) : Lane :=
  let gap := match vget l.ln.mirSeq kind none with
    | some p => (seq + 65536 - p - 1) % 65536
    | none => 0
  let told := decide (2 ≤ vget l.ln.mirMiss kind 0)
  let l := l.modLn fun n =>
    { n with mirSeq := vmod n.mirSeq kind fun _ => some (seq % 65536), mirMiss := vmod n.mirMiss kind fun _ => 0 }
  l.flagIf (decide (2 ≤ gap) && !told) Reg.LN_STATUS Bit.LN_MIRROR_STALE

/-- A mirror record that fails its check is discarded and counted (08 R193, R204); the second in turn of a kind makes it stale. -/
def Lane.badRecord (l : Lane) (k kind : Nat) : Lane :=
  let l := l.badFrame k
  if !l.mirrors k then l
  else
    let l := l.modLn fun n => { n with mirMiss := vmod n.mirMiss kind fun m => min 3 (m + 1) }
    l.flagIf (vget l.ln.mirMiss kind 0 == 2) Reg.LN_STATUS Bit.LN_MIRROR_STALE

/-- A mirror record of peer k and a kind arrives (08 R204, R205): one that fails its check is discarded; a verified one is a frame
of the peer, and is taken where this lane receives the mirror. -/
def Lane.mirrorFrame (l : Lane) (k kind : Nat) (crcOk : Bool) (take : Lane → Lane) : Lane :=
  if !l.riserPorts.testBit k then l
  else if !crcOk then l.badRecord k kind
  else
    let l := l.frameFrom k
    if l.mirrors k then take l else l

/-- The mirrored axis enters DRIVE in shadow (05 R129): the lane uses its own sector, and the
first EMPTY pass from here tells of it (06 R149). -/
def Lane.shadowDrive (l : Lane) (n : Nat) : Lane :=
  let rs := if l.sect n = 1 then (l.axis n).rsAt (16 * l.now) else l.sectorPt n
  (l.modLoop n fun x => { x with emptyTold := false }).modAxis n fun a =>
    { (match rs with
        | some s => a.takeSector s (16 * l.now)
        | none => { a with rs := none, bounds := [] }) with
      drive := true, ds := none, fresh := false, differed := none, sectLost := rs.isNone, lostAt := l.now, fallback := false,
      stopAt := none, periods := a.periods.map fun p => { p with formed := false, ds := none } }

/-- The mirrored axis enters IDLE in shadow (05 R129): its gates stay off from the next period start. -/
def Lane.shadowIdle (l : Lane) (n : Nat) : Lane :=
  let l := match l.nextStart n (l.now + 700) with
    | some t => l.offFrom n t
    | none => l.offFrom n (l.now + 560)
  l.axisIdle n

/-- The items of an AXIS record that are adopted on arrival (08 Table 8.9): axis state and START outcome, AOFF and arming,
OFFSET. -/
def Lane.adoptAxis (l : Lane) (n : Nat) (r : AxisRec) : Lane :=
  let was := (l.axis n).drive
  let l := if r.drive && !was then l.shadowDrive n else if !r.drive && was then l.shadowIdle n else l
  let l := (l.modAxis n fun a => { a with reason := r.reason }).setReg (Reg.FB_AOFF n) r.aoff
  let l := (l.modUnit n fun u => { u with cnt := { u.cnt with arm := r.arm } }).offsetWrite n r.offset
  if (l.axis n).drive then l else l.adoptPass n

/-- AXIS_RECORD_RECEIVE: a record of axis n from peer k, at full rate or not, is verified and stored (08 R204, R205). -/
def opAxisRecv (l : Lane) (k seq : Nat) (crcOk : Bool) (n : Nat) (full : Bool) (r : AxisRec) : Lane :=
  l.mirrorFrame k n crcOk fun l =>
    let l := (l.mirrorSeq n seq).modLn fun c => { c with keptAxis := vmod c.keptAxis n fun _ => some r }
    if !l.enabled n then l
    else
      (l.modLn fun c =>
        { c with axisRec := vmod c.axisRec n fun _ => some r,
                 axisGot := if full then c.axisGot ||| 2 ^ n else c.axisGot }).adoptAxis n r

/-- The schedule mode of a LANE record (08 Table 8.9, 12 R294): it stands until a poll of the bus has been heard. -/
def Lane.mirrorMode (l : Lane) (b m : Nat) : Lane :=
  l.modBus b fun u => if u.master || u.heard.isSome then u else { u with mode := m % 4 }

/-- LANE_RECORD_RECEIVE: a record of peer k is verified and adopted (08 R204, R205, 09 R230): offsets, safety state, profile,
schedule modes, condition, and WCLK as a reference event of the mirror reference. -/
def opLaneRecv (l : Lane) (k seq : Nat) (crcOk full : Bool) (r : LaneRec) : Lane :=
  l.mirrorFrame k 6 crcOk fun l =>
    let l := (l.mirrorSeq 6 seq).modLn fun c =>
      { c with keptLane := some r, laneGot := c.laneGot || full, limpMir := r.limp }
    let l := if l.refSrc = 4 then l.refEvent ((l.wns : Int) - (r.wclk + 28 : Nat)) else l
    let l := (l.offsetWrite 6 r.off6).offsetWrite 7 r.off7
    let l := (l.selectProfile r.prof).each (List.range 6) fun l n => l.adoptSafe n (vget r.safe n (initSafeAxisRec))
    let l := (l.mirrorMode 0 r.modeA).mirrorMode 1 r.modeB
    l.setCond r.cond
where
  /-- The safety state of an axis that a record does not hold. -/
  initSafeAxisRec : SafeRec :=
    { clampBy := 0, blockPos := false, blockNeg := false, ramp := false, rampRt := 1, safe := false, stopped := false,
      cnt := .replicate 3 0, stopCnt := 0, m := none, e := 0, pref := none, brk := 0, tRel := none, tA := none, bper := 0,
      bramp := 0 }

end Sys2Proof.Machine
end

