-- ==== Sys2Proof/Machine/Envelope.lean ====
section
/-! DEFINITION. Inbound envelopes: the check of a message, sequence and watchdog, connection faults and their reactions (13). -/

namespace Sys2Proof.Machine

/-- The envelope block changed. -/
def Lane.modEnv (l : Lane) (f : Envelopes → Envelopes) : Lane := { l with env := f l.env }

/-- The envelope fields of a message, whose last 16 bytes they are (13 R307). -/
structure Envelope where
  conn : Word
  seq : Nat
  flags : Nat
  ver : Nat
  stamp : Word
  check : Word
  deriving DecidableEq, Repr

/-- The envelope of a message (13 Table 13.1). -/
def envelopeOf (bs : List Byte) : Envelope :=
  let i := bs.length - 16
  { conn := wordAt bs i, seq := leAt bs (i + 4) 2, flags := leAt bs (i + 6) 1, ver := leAt bs (i + 7) 1,
    stamp := wordAt bs (i + 8), check := wordAt bs (i + 12) }

/-- RESTART (13 Table 13.1). -/
def Envelope.restart (e : Envelope) : Bool := e.flags % 2 == 1

/-- NOTIME (13 Table 13.1). -/
def Envelope.notime (e : Envelope) : Bool := e.flags / 2 % 2 == 1

/-- The age of a stamp in ns, −2 s to 2 s (13 R312). -/
def Lane.ageOf (l : Lane) (st : Word) : Int := (l.wns : Int) - expandStamp l.wns st

/-- The sequence test (13 R312): the failure kind. -/
def seqVerdict (c : Conn) (e : Envelope) (gapmax : Nat) : Option Nat :=
  if e.restart ∨ !c.sync then none
  else
    let d := (e.seq + 65536 - c.last) % 65536
    if d = 0 then some 6 else if 32768 ≤ d then some 7 else if gapmax + 1 < d then some 8 else none

/-- SF_CTIMEk as it stood before a cycle (13 Table 13.6). -/
def Lane.timeLimits (l : Lane) (k cyc : Nat) : Word :=
  match ((l.conn k).timeWas.filter fun w => decide (cyc ≤ w.1)).getLast? with
  | some w => w.2
  | none => l.reg (Reg.SF_CTIME k)

/-- SF_CTIMEk has been written (13 Table 13.6): the old value is kept for as long as a message can take to arrive, 2^17 cycles. -/
def Lane.wroteLimits (l : Lane) (k : Nat) (old : Word) : Lane :=
  l.modConn k fun c => { c with timeWas := (l.now, old) :: c.timeWas.filter fun w => decide (l.now < w.1 + 2 ^ 17) }

/-- The time test (13 R312) of a message whose arrival began in cycle `since`: the failure kind. -/
def Lane.timeVerdict (l : Lane) (k since : Nat) (e : Envelope) : Option Nat :=
  let w := l.timeLimits k since
  let maxage := field w 16 16
  if maxage = 0 then none
  else if !l.tl.phaseValid ∨ e.notime then some 3
  else if ((1000 * maxage : Nat) : Int) < l.ageOf e.stamp then some 4
  else if l.ageOf e.stamp < -((1000 * field w 0 16 : Nat) : Int) then some 5
  else none

/-- The decision on a message for inbound connection k (13 R312): none where it is accepted, else the failure kind. -/
def Lane.envVerdict (l : Lane) (k since : Nat) (bs : List Byte) : Option Nat :=
  let e := envelopeOf bs
  if checkVal (l.reg (Reg.SF_CID k)) (bs.take (bs.length - 4)) ≠ e.check then some 1
  else if e.ver ≠ 1 ∨ 4 ≤ e.flags ∨ (e.restart ∧ e.seq ≠ 0) then some 2
  else
    match l.timeVerdict k since e with
    | some f => some f
    | none => seqVerdict (l.conn k) e (l.fld (Reg.SF_CCFG k) 8 8)

/-- A failure kind is counted (13 Table 13.15). -/
def Conn.countKind (c : Conn) (kind : Nat) : Conn :=
  let up := satAdd 0xFF
  match kind with
  | 1 => { c with nCheck := up c.nCheck 1 }
  | 2 => { c with nFormat := up c.nFormat 1 }
  | 3 => { c with nNotime := up c.nNotime 1 }
  | 4 => { c with nAge := up c.nAge 1 }
  | 5 => { c with nFuture := up c.nFuture 1 }
  | 6 => { c with nRepeat := up c.nRepeat 1 }
  | 7 => { c with nOld := up c.nOld 1 }
  | 8 => { c with nJump := up c.nJump 1 }
  | _ => { c with nWdog := up c.nWdog 1 }

/-- A failure is counted, recorded in SF_ENVLAST and flagged; `faults`: it brings FAULT (13 R312, R315). -/
def Lane.envFail (l : Lane) (k kind seq : Nat) (faults : Bool) : Lane :=
  let new := faults && !(l.conn k).fault
  let l := (l.modConn k fun c => { c.countKind kind with fault := c.fault || faults }).modEnv fun e =>
    { e with lastConn := k, lastKind := kind, lastSeq := if kind = 1 ∨ kind = 9 then 0 else seq }
  l.event Reg.SF_ENVSTATUS (2 ^ kind + b2n new * 2 ^ Bit.ENV_CONN_FAULT)

/-- A message that fails (13 R312): FAULT comes with the FLIM-th consecutive failure. -/
def Lane.envReject (l : Lane) (k kind seq : Nat) : Lane :=
  let flim := l.fld (Reg.SF_CCFG k) 16 4
  let l := l.modConn k fun c => { c with consec := satAdd 15 c.consec 1 }
  l.envFail k kind seq (decide (flim ≠ 0) && (l.conn k).consec == flim)

/-- A message is accepted (13 R312, R314, R315): the expectation moves, the watchdog restarts and FAULT clears. The holder mirrors
the change (08 Table 8.9). -/
def Lane.envAccept (l : Lane) (k : Nat) (e : Envelope) : Lane :=
  let c := l.conn k
  let d := (e.seq + 65536 - c.last) % 65536
  let lost := if !e.restart && c.sync then d - 1 else 0
  let l := l.modConn k fun c =>
    { c with lost := satAdd 0xFFFF c.lost lost, restarts := satAdd 0xFF c.restarts (b2n e.restart), last := e.seq, sync := true,
             consec := 0, wdAt := some l.now, fault := false, expired := false }
  let l := l.flagIf e.restart Reg.SF_ENVSTATUS Bit.ENV_RESTARTED
  if l.holds then l.mirrorSend 7 true fun p s _ => .env p s k e.seq else l

/-- An inbound message whose arrival began in cycle `since` is checked (13 R312): the failure kind, or none with the message
accepted. -/
def Lane.envMessage (l : Lane) (k since : Nat) (bs : List Byte) : Option Nat × Lane :=
  match l.envVerdict k since bs with
  | some f => (some f, l.envReject k f (envelopeOf bs).seq)
  | none => (none, l.envAccept k (envelopeOf bs))

/-- WDOG in cycles; 0 is off (13 Table 13.13). -/
def Lane.wdog (l : Lane) (k : Nat) : Nat :=
  let v := l.fld (Reg.SF_CWDG k) 0 24
  if v = 0 then 0 else us (max 100 v)

/-- ENV_WATCHDOG: WDOG has passed on connection k without an accepted message (13 R315). -/
def opEnvWatchdog (l : Lane) (k : Nat) : Lane :=
  match (l.conn k).wdAt with
  | none => l
  | some t =>
    if !l.inbound k ∨ l.wdog k = 0 ∨ !elapsed l.now t (l.wdog k) then l
    else (l.envFail k 9 0 true).modConn k fun c => { c with wdAt := none, expired := true }

/-- The axes without commands are judged (13 R316): the ACTIVE lane takes the highest-ranked reaction in the cycle in which that
first holds, and on becoming ACTIVE. -/
def Lane.withoutSync (l : Lane) (became : Bool) : Lane :=
  let now := maskOf 6 fun n => l.enabled n && l.without n
  let was := l.env.without
  if now = was ∧ !became then l
  else
    let l := l.modEnv fun e => { e with without := now }
    l.each ((members now 6).filter fun n => became || !was.testBit n) fun l n => l.connApply n (l.topReact n)

/-- ENV_RECORD_RECEIVE: the record of peer k names an identity and a path, with the holder's expectation; a connection whose SYNC
is clear adopts it (13 R314). -/
def opEnvRecv (l : Lane) (k seq : Nat) (crcOk : Bool) (ident : Word) (path last : Nat) : Lane :=
  l.mirrorFrame k 7 crcOk fun l =>
    let l := (l.mirrorSeq 7 seq).modLn fun c =>
      { c with keptEnv := ((ident, path), last % 65536) :: c.keptEnv.filter fun e => e.1 != (ident, path) }
    match (List.range 15).find? fun j =>
        l.inbound j && l.reg (Reg.SF_CID j) == ident && l.fld (Reg.SF_CCFG j) 28 2 == path with
    | none => l
    | some j =>
      if (l.conn j).sync then l
      else (l.modConn j fun c => { c with last := last % 65536, sync := true, wdAt := some l.now }).flag Reg.SF_ENVSTATUS
        Bit.ENV_ADOPTED

end Sys2Proof.Machine
end

