-- ==== Sys2Proof/Machine/Sprue.lean ====
section
/-! DEFINITION. The Sprue Bus: frames and records, schedules, mastership, modes, time broadcast and echoes (12); the commands that
frames and descriptors share (12 R301, 14 R335, 08 R207). -/

namespace Sys2Proof.Machine

/-! Commands shared with the CMD ring -/

/-- A speed setpoint is accepted (09 R217): applied by the ACTIVE lane, held by any other (08 R207). -/
def Lane.cmdTgt (l : Lane) (n : Nat) (v : Int) (st : Word) : Lane :=
  if l.isActive then l.storeTgt n v (some st) else l.modLoop n fun x => { x with heldTgt := some (v, st) }

/-- A position setpoint is accepted (09 R217), as cmdTgt. -/
def Lane.cmdPsp (l : Lane) (n : Nat) (v : Int) (st : Word) : Lane :=
  if l.isActive then l.storePsp n v (some st) else l.modLoop n fun x => { x with heldPsp := some (v, st) }

/-- STOPs (05 R129), applied by the ACTIVE lane only. -/
def Lane.cmdStop (l : Lane) (mask : Nat) : Lane := if l.isActive then l.each (members mask 6) Lane.stopAxis else l

/-- The axes of a mask that connection k carries and that are enabled (13 R313). -/
def Lane.permitted (l : Lane) (k mask : Nat) : Nat :=
  maskOf 6 fun n => mask.testBit n && l.carries k n && l.enabled n

/-! Records -/

/-- A record skipped or in part discarded (12 R285, 13 R313). -/
def Lane.badRec (l : Lane) (b : Nat) : Lane :=
  (l.modBus b fun u => { u with badRec := satAdd 0xFF u.badRec 1 }).flag (Reg.SP_STATUS b) Bit.SP_BAD_RECORD

/-- A record that names one axis (12 Table 12.6). -/
def Lane.axisCmd (l : Lane) (b k n : Nat) (f : Lane → Lane) : Lane :=
  if n < 6 ∧ l.permitted k (2 ^ n) ≠ 0 then f l else l.badRec b

/-- A record that names a mask of axes (12 Table 12.6): the axes outside AXM or disabled are discarded, and the record counts. -/
def Lane.maskCmd (l : Lane) (b k mask : Nat) (f : Lane → Nat → Lane) : Lane :=
  let m := mask % 64
  let ok := l.permitted k m
  let l := f l ok
  if ok = m then l else l.badRec b

/-- A record of an accepted frame of connection k with stamp `st` (12 R285, R301). STOPs are taken before every other record. -/
def Lane.takeRecord (l : Lane) (b k : Nat) (st : Word) (stops : Bool) (r : List Byte) : Lane :=
  let op := leAt r 0 1
  let b1 := leAt r 1 1
  let v := signed 32 (leAt r 4 4)
  if stops then
    (if op = 4 then l.maskCmd b k b1 Lane.cmdStop else l)
  else
    match op with
    | 0x00 | 0x04 | 0x80 | 0x81 => l
    | 0x01 => l.axisCmd b k (b1 % 8) fun l => l.cmdTgt (b1 % 8) v st
    | 0x02 => l.axisCmd b k (b1 % 8) fun l => l.cmdPsp (b1 % 8) v st
    | 0x03 => l.maskCmd b k b1 fun l m => l.each (members m 6) fun l n => (l.startAxis n none).2
    | 0x05 => if l.isActive then l.selectProfile (leAt r 2 1 % 4) else l
    | 0x06 => l.maskCmd b k b1 fun l m => if l.isActive then l.resumeAxes m else l
    | _ => l.badRec b

/-- The records of a frame body, 8 bytes each; `fuel` bounds their number (12 Table 12.4). -/
def records : Nat → List Byte → List (List Byte)
  | 0, _ => []
  | f + 1, bs => if bs.length < 8 then [] else bs.take 8 :: records f (bs.drop 8)

/-- An envelope is present: the frame holds a TIME field or a record (12 Table 12.4). -/
def enveloped (bs : List Byte) : Bool := decide (20 ≤ bs.length)

/-- The records of an accepted frame (12 R301); `skip` bytes stand before them. -/
def Lane.takeRecords (l : Lane) (b k skip : Nat) (bs : List Byte) : Lane :=
  let rs := records 8 ((bs.take (bs.length - 16)).drop skip)
  let st := (envelopeOf bs).stamp
  let l := rs.foldl (fun l r => l.takeRecord b k st true r) l
  rs.foldl (fun l r => l.takeRecord b k st false r) l

/-- The inbound connection of a frame on bus b (13 R310). -/
def Lane.frameConn (l : Lane) (b : Nat) (bs : List Byte) : Option Nat :=
  if !enveloped bs then none
  else (List.range 15).find? fun k =>
    l.inbound k && l.reg (Reg.SF_CID k) == (envelopeOf bs).conn && l.fld (Reg.SF_CCFG k) 28 2 == b

/-- A frame's envelope is checked, and its records are taken (12 R301, 13 R310, R312): false where the message failed. -/
def Lane.takeFrame (l : Lane) (b skip : Nat) (bs : List Byte) : Bool × Lane :=
  match l.frameConn b bs with
  | none => (true, l)
  | some k =>
    match l.envMessage k ((l.busOf b).sof.map (·.cyc) |>.getD l.now) bs with
    | (some _, l) => (false, l)
    | (none, l) => (true, l.takeRecords b k skip bs)

/-! Frames of the lane -/

/-- The smallest CAN FD length that holds n bytes (12 R284). -/
def dlc (n : Nat) : Nat := ([8, 12, 16, 20, 24, 32, 48].find? fun s => decide (n ≤ s)).getD 64

/-- The body with its padding before an envelope of 16 bytes (12 Table 12.4). -/
def padded (body : List Byte) : List Byte := body ++ List.replicate (dlc (body.length + 16) - 16 - body.length) 0

/-- The mask of the axes in DRIVE. -/
def Lane.driveMask (l : Lane) : Nat := maskOf 6 fun n => (l.axis n).drive

/-- The STATUS record (12 Table 12.6). -/
def Lane.statusRecord (l : Lane) (b : Nat) : List Byte :=
  let w := l.roleWord
  [0x80, BitVec.ofNat 8 (field w 0 4 + 16 * field w 16 2 + 64 * field w 20 2),
    BitVec.ofNat 8 (field w 18 2 + 4 * l.ts.level + 16 * b2n l.pw.vlow + 32 * b2n l.bench + 64 * b2n l.unlocked +
      128 * b2n (l.hr.viewFlag.testBit (4 + b))),
    BitVec.ofNat 8 l.ln.code, BitVec.ofNat 8 l.ln.level, BitVec.ofNat 8 l.driveMask, BitVec.ofNat 8 l.safeMask,
    BitVec.ofNat 8 l.ln.alive]

/-- The AXIS record of axis n (12 Table 12.6). -/
def Lane.spAxisRecord (l : Lane) (n : Nat) : List Byte :=
  let a := l.axis n
  [0x81, BitVec.ofNat 8 (n + 8 * b2n a.drive + 16 * (l.safetyOf n).react + 64 * b2n a.limited + 128 * b2n (!l.isActive))] ++
    leBytes 3 (twos 24 (clampAbs 8388607 (rdiv (l.speed n) 256))) ++ leBytes 3 (l.apos n).toNat

/-- The STATUS record and the AXIS records of a mask. -/
def Lane.reportRecords (l : Lane) (b mask : Nat) : List Byte :=
  l.statusRecord b ++ (members mask 6).flatMap l.spAxisRecord

/-- The body is closed on connection c; one that names no connection closes with free bytes, since the spec gives the envelope of
a TIME field without records no connection (12 Table 12.4; log 4). -/
def Lane.closeFrame (l : Lane) (c : Nat) (body : List Byte) : List Byte × Lane :=
  if c < 15 then (l.seal c (padded body), l.takeSeq c) else (padded body ++ leBytes 16 l.freeVal, l.took)

/-- NODE, RANK of a port (12 Table 12.11). -/
def Lane.nodeOf (l : Lane) (b : Nat) : Nat := l.fld (Reg.SP_CFG b) 20 6

/-- RANK of a port. -/
def Lane.rankOf (l : Lane) (b : Nat) : Nat := l.fld (Reg.SP_CFG b) 26 4

/-- NODES of a bus without the lane's own bit (12 R293). -/
def Lane.nodesOf (l : Lane) (b : Nat) : Nat :=
  let all := (l.reg (Reg.SP_NODES b 0)).toNat + 2 ^ 32 * (l.reg (Reg.SP_NODES b 1)).toNat
  if all.testBit (l.nodeOf b) then all - 2 ^ l.nodeOf b else all

/-- The TIME field a poll carries: the capture of the previous cycle's own cycle-start poll (12 R290, R299). -/
def Lane.timeField (l : Lane) (b s : Nat) (w : Word) : Option Nat :=
  let u := l.busOf b
  match u.ownCap with
  | some (c, ns) => if s = 0 ∧ bit w 29 ∧ l.tl.phaseValid ∧ (c + 1) % 256 = u.cycle then some ns else none
  | none => none

/-- The header of a poll (12 Table 12.5). -/
def Lane.pollHeader (l : Lane) (b s : Nat) (w : Word) (time : Bool) : List Byte :=
  let u := l.busOf b
  let resp := bit w 30
  [BitVec.ofNat 8 (s + 64 * u.mode),
    BitVec.ofNat 8 ((if u.announced then u.pend + 4 else 0) + 8 * b2n (s == 0) + 16 * b2n resp + 32 * b2n time),
    BitVec.ofNat 8 (if resp then field w 9 6 else 0xFF), BitVec.ofNat 8 u.cycle]

/-- The bytes of a TIME field (12 Table 12.4). -/
def timeBytes (ns : Nat) : List Byte := leBytes 4 (nsOf ns) ++ leBytes 6 (secOf ns) ++ [0, 0]

/-- The poll of slot s (12 R284, R290). -/
def Lane.pollOf (l : Lane) (b s : Nat) (w : Word) : SprueTx × Lane :=
  let c := l.slotConn b (field w 19 4)
  let t := l.timeField b s w
  let body := l.pollHeader b s w t.isSome ++ (match t with | some ns => timeBytes ns | none => []) ++
    (if c < 15 then l.reportRecords b (field w 23 6) else [])
  let ident := 0x20 * l.rankOf b
  if t.isNone ∧ 15 ≤ c then ({ ident := ident, bytes := body }, l)
  else
    let r := l.closeFrame c body
    let l := if c < 15 then { r.2 with hr := { r.2.hr with viewFlag := r.2.hr.viewFlag &&& (63 - 2 ^ (4 + b)) } } else r.2
    ({ ident := ident, bytes := r.1 }, l)

/-! Mastership and slots -/

/-- The node may become master (12 Table 12.2, R295). -/
def Lane.mayMaster (l : Lane) (b : Nat) : Bool :=
  l.rbit (Reg.SP_CFG b) 30 && l.busNormal b && l.ln.role != .withdrawn && l.pw.entry.isNone

/-- The lowest LOADED mode of a bus. -/
def Lane.lowestMode (l : Lane) (b : Nat) : Option Nat := (List.range 4).find? (l.modeLoaded b)

/-- A Sprue counter or flag. -/
def Lane.spFlag (l : Lane) (b bitNo : Nat) : Lane := l.flag (Reg.SP_STATUS b) bitNo

/-- SLOT_LATE, set and counted (12 R290, R291). -/
def Lane.slotLate (l : Lane) (b : Nat) : Lane :=
  (l.modBus b fun u => { u with late := satAdd 0xFF u.late 1 }).spFlag b Bit.SP_SLOT_LATE

/-- The idle wait of a port begins with IDLEW as it stands (12 R295, R305). -/
def Lane.startWait (l : Lane) (b : Nat) : Lane :=
  let n := l.idlew b
  l.modBus b fun u => { u with idleAt := some l.now, idleLen := n, ready := false }

/-- Mastership ends (12 R296 to R298); the idle wait starts anew. -/
def Lane.endMaster (l : Lane) (b : Nat) (yields : Bool) : Lane :=
  let l := l.modBus b fun u =>
    { u with master := false, ending := false, yieldEnd := false, running := false, poll := none, lostArb := false,
             target := none, announced := false, rewritten := false, ownCap := none, badPolls := 0, first := false,
             yields := satAdd 0xFF u.yields (b2n yields) }
  (l.startWait b).flagIf yields (Reg.SP_STATUS b) Bit.SP_MASTER_YIELD

/-- Mastership ends with the slot in progress, or at once where none is (12 R298). -/
def Lane.endWithSlot (l : Lane) (b : Nat) (yields : Bool) : Lane :=
  let u := l.busOf b
  if !u.master then l
  else if !u.running then l.endMaster b yields
  else l.modBus b fun u => { u with ending := true, yieldEnd := u.yieldEnd || yields }

/-- The slot in progress ends (12 R290, R292, R296, R298). -/
def Lane.endSlot (l : Lane) (b : Nat) : Lane :=
  let u := l.busOf b
  if !u.running then l
  else
    let l := if u.target.isSome && !u.answered then
        (l.modBus b fun u => { u with missing := satAdd 0xFFFF u.missing 1 }).spFlag b Bit.SP_RESP_MISSING
      else l
    let l := if u.poll.isSome || u.lostArb then l.slotLate b else l
    let l := l.modBus b fun u =>
      { u with running := false, target := none, poll := none, lostArb := false, erred := false,
               badPolls := if u.erred then u.badPolls else 0 }
    if u.ending then l.endMaster b u.yieldEnd else l

/-- Slot s starts: the poll is handed to the controller (12 R289, R290). -/
def Lane.startSlot (l : Lane) (b s : Nat) : Lane :=
  let w := l.slotWord b (l.busOf b).mode s
  let r := l.pollOf b s w
  r.2.modBus b fun u =>
    { u with running := true, slot := s, slotAt := l.now, target := if bit w 30 then some (field w 9 6) else none,
             answered := false, poll := some r.1, lostArb := false, erred := false, sent := u.sent ++ [r.1] }

/-- The announced mode at a cycle boundary (12 R293): switched, held, or withdrawn for a rewritten one. -/
def Lane.settleMode (l : Lane) (b : Nat) : Lane :=
  let u := l.busOf b
  let need := l.nodesOf b
  if !u.announced then l
  else if u.rewritten then l.modBus b fun u => { u with announced := false, rewritten := false }
  else if need &&& u.acked = need ∧ !u.nak then
    ((l.modBus b fun u => { u with mode := u.pend, announced := false }).setFld (Reg.SP_MODE b) 6 1 0).spFlag b
      Bit.SP_MODE_SWITCHED
  else (l.modBus b fun u => { u with held := satAdd 0xFF u.held 1 }).spFlag b Bit.SP_MODE_HELD

/-- The boundary of a cycle at the master (12 R292, R293). -/
def Lane.boundary (l : Lane) (b : Nat) : Lane :=
  let l := l.settleMode b
  let pv := l.rbit (Reg.SP_MODE b) 6
  let pend := l.fld (Reg.SP_MODE b) 4 2
  l.modBus b fun u =>
    { u with announced := u.announced || pv, pend := if u.announced then u.pend else pend, ack := u.acked, acked := 0,
             nak := false, seen := u.seenNow, seenNow := 0 }

/-- The node becomes master (12 R294, R295). -/
def Lane.startMaster (l : Lane) (b : Nat) : Lane :=
  match l.lowestMode b with
  | none => l
  | some low =>
    let u := l.busOf b
    let mode := u.heard.getD u.mode
    let mode := if l.modeLoaded b mode then mode else low
    let cycle := match u.heardCycle with | some c => (c + 1) % 256 | none => 0
    let l := (l.modBus b fun u =>
      { u with master := true, ending := false, ready := false, idleAt := none, mode := mode, cycle := cycle, clash := false, first := true,
               acked := 0, nak := false, seenNow := 0, badPolls := 0, ownCap := none }).spFlag b Bit.SP_MASTER_START
    (l.boundary b).startSlot b 0

/-- A SPRUE_SLOT action of slot s (12 R289, R295). -/
def Lane.slotEvent (l : Lane) (b s : Nat) : Lane :=
  let u := l.busOf b
  if !u.master then (if u.ready && s == 0 && l.mayMaster b then l.startMaster b else l)
  else
    let enabled := fun (l : Lane) => bit (l.slotWord b (l.busOf b).mode s) 31
    let l := if s = 0 then l.endSlot b else if enabled l then l.endSlot b else l
    if !(l.busOf b).master then l
    else
      let l := if s = 0 then (l.boundary b).modBus b fun u => { u with cycle := (u.cycle + 1) % 256 } else l
      if enabled l then l.startSlot b s else l.spFlag b Bit.SP_SLOT_SKIP

/-- SPRUE_SLOT: the action of the TLE that falls in this cycle (12 R282, 02 R60). ARG: the bus in bit 0, the slot in bits [6:1]. -/
def opSprueSlot (l : Lane) : Lane := l.dispatch 5 fun l d => l.slotEvent (d.arg % 2) (d.arg / 2 % 64)

/-- The slot in progress has run its LEN (12 R289). -/
def Lane.slotDone (l : Lane) (b : Nat) : Bool :=
  let u := l.busOf b
  elapsed l.now u.slotAt (1250 * slotLen (l.slotWord b u.mode u.slot))

/-- SLOT_START: LEN after the start of the previous slot the next enabled slot starts (12 R289). -/
def opSlotStart (l : Lane) (b : Nat) : Lane :=
  let u := l.busOf b
  if !u.master ∨ !l.slotDone b then l
  else
    match (List.range 64).find? fun s => decide (u.slot < s) && bit (l.slotWord b u.mode s) 31 with
    | none => l
    | some s =>
      let l := l.endSlot b
      if (l.busOf b).master then l.startSlot b s else l

/-- SLOT_END: the slot in progress has run its LEN (12 R292). -/
def opSlotEnd (l : Lane) (b : Nat) : Lane := if (l.busOf b).master && l.slotDone b then l.endSlot b else l

/-! Receiving -/

/-- The controller receives (12 Table 12.2): the port is in use, the lane is in SETUP, where it only monitors, or in RUN, and it is not
bus-off. In DOZE it serves the wake detection alone (15 Table 15.9). -/
def Lane.busHears (l : Lane) (b : Nat) : Bool :=
  decide (b < 2) && l.rbit (Reg.SP_CFG b) 31 && l.awake && (l.busOf b).err != 2

/-- Error-passive ends when both counters have fallen below 128, as ISO 11898-1 lays down (12 R280). -/
def SprueBus.recovered (u : SprueBus) : SprueBus := if u.err = 1 ∧ u.tec < 128 ∧ u.rec_ < 128 then { u with err := 0 } else u

/-- A frame has been received (12 Table 12.18; ISO 11898-1). -/
def SprueBus.rxOk (u : SprueBus) : SprueBus :=
  ({ u with rec_ := if 127 < u.rec_ then 127 else u.rec_ - 1 } : SprueBus).recovered

/-- A frame of the node's own has been sent (12 Table 12.18; ISO 11898-1). -/
def SprueBus.txOk (u : SprueBus) : SprueBus := ({ u with tec := u.tec - 1 } : SprueBus).recovered

/-- A capture of WCLK (12 R299). -/
def Lane.sofCap (l : Lane) : SprueCap := { cyc := l.now, ns := l.wns, added := l.tl.added, rank := 0, cycle := 0 }

/-- The own poll leaves: late beyond 16 cycles after the slot start; the cycle-start poll is captured (12 R290, R299). -/
def Lane.ownPoll (l : Lane) (b : Nat) (p : SprueTx) (lost : Bool) : Lane :=
  let u := l.busOf b
  let l := if u.slotAt + 16 < l.now then l.slotLate b else l
  l.modBus b fun u =>
    { u with poll := none, echo := if lost then [] else [p], lostArb := lost, first := false,
             ownCap := if u.slot = 0 then (if lost then none else some (u.cycle, l.wns)) else u.ownCap }

/-- SPRUE_SOF: a SOF on the bus, `own` where this node sends the frame, `lost` where it loses its arbitration (12 R295, R296,
R299, R300). -/
def opSof (l : Lane) (b : Nat) (own lost : Bool) : Lane :=
  if !l.busHears b then l
  else
    let l := l.modBus b fun u => { u with sof := some l.sofCap }
    let l := if (l.busOf b).master then l else l.startWait b
    -- a new master that sees another node's SOF before its own sends nothing (12 R296)
    if !own then (if (l.busOf b).first then l.endMaster b false else l)
    else
      match (l.busOf b).poll, (l.busOf b).resp with
      | some p, _ => l.ownPoll b p lost
      | none, some (r, _) => l.modBus b fun u => { u with echo := if lost then [] else [r] }
      | none, none => l

/-- The TIME field of a poll makes a reference event (12 R300): `cap` is the capture of the previous cycle-start poll. -/
def Lane.takeTime (l : Lane) (b rank cycle : Nat) (tm : Nat) : Lane :=
  if l.refSrc ≠ 2 + b ∨ (l.busOf b).master then l
  else
    match (l.busOf b).cap with
    | some c =>
      if c.rank = rank ∧ (c.cycle + 1) % 256 = cycle then
        let tdly := signed 16 (l.fld (Reg.SP_TDLY b) 0 16)
        l.refEventAt ((c.ns : Int) - ((tm : Int) + tdly)) c.cyc c.added
      else l.spFlag b Bit.SP_TIME_UNPAIRED
    | none => l.spFlag b Bit.SP_TIME_UNPAIRED

/-- The poll is followed (12 R294 to R298): the mode and cycle of a slave, and the yields of a master. -/
def Lane.followPoll (l : Lane) (b rank : Nat) (bs : List Byte) : Lane :=
  let mode := leAt bs 0 1 / 64
  let cycle := leAt bs 3 1
  let u := l.busOf b
  let l := if u.master && u.lostArb then l.endMaster b true
    else if u.master && decide (rank < l.rankOf b) then l.endWithSlot b true
    else l
  l.modBus b fun u =>
    let u := { u with heard := some mode, heardCycle := some cycle, heardAt := some l.now }
    if u.master then u else { u with mode := mode, cycle := cycle, slot := leAt bs 0 1 % 64, mrank := rank }

/-- The response of the lane to a poll (12 R291, R293): the header alone where its entry is disabled or the mode is not LOADED. -/
def Lane.respond (l : Lane) (b : Nat) (bs : List Byte) : Lane :=
  let slot := leAt bs 0 1 % 64
  let mode := leAt bs 0 1 / 64
  let b1 := leAt bs 1 1
  let w := l.slotWord b mode slot
  let u := l.busOf b
  let pv := b1 / 4 % 2 == 1
  let ok := l.modeLoaded b (b1 % 4)
  let head : List Byte := [BitVec.ofNat 8 (slot + 64 * u.mode),
    BitVec.ofNat 8 (if pv then b1 % 4 + (if ok then 4 else 8) else 0), BitVec.ofNat 8 (l.nodeOf b), bs.getD 3 0]
  let ident := 0x200 + 8 * l.nodeOf b
  let stop := (match u.sof with | some c => c.cyc | none => l.now) + 1250 * slotLen w
  let put := fun (l : Lane) (f : List Byte) => l.modBus b fun u =>
    let t : SprueTx := { ident := ident, bytes := f }
    { u with resp := some (t, stop), sent := u.sent ++ [t] }
  if !bit w 31 ∨ !l.modeLoaded b mode then (put l head).spFlag b Bit.SP_MODE_BAD
  else
    let recs := if l.ln.role = .withdrawn then l.statusRecord b else l.reportRecords b (field w 23 6)
    let r := l.closeFrame (l.slotConn b (field w 15 4)) (head ++ recs)
    let l := { r.2 with hr := { r.2.hr with viewFlag := r.2.hr.viewFlag &&& (63 - 2 ^ (4 + b)) } }
    put l r.1

/-- A frame that no Sprue node sends (12 R283). -/
def Lane.foreign (l : Lane) (b : Nat) : Lane :=
  (l.modBus b fun u => { u.rxOk with foreign := satAdd 0xFFFF u.foreign 1 }).spFlag b Bit.SP_FOREIGN

/-- FOREIGN_FRAME: acknowledged, ignored and counted (12 R283). -/
def opForeign (l : Lane) (b : Nat) : Lane := if l.busHears b then l.foreign b else l

/-- SPRUE_POLL_RECEIVE: a valid poll of another node (12 R283, R291, R294, R300, R301). -/
def opPollRecv (l : Lane) (b ident : Nat) (bs : List Byte) : Lane :=
  if !l.busHears b then l
  else if 0x200 ≤ ident ∨ ident % 32 ≠ 0 then l.foreign b
  else
    let rank := ident / 32
    let b1 := leAt bs 1 1
    let time := b1 / 32 % 2 == 1
    let l := (l.modBus b SprueBus.rxOk).followPoll b rank bs
    let r := l.takeFrame b (if time then 16 else 4) bs
    let l := r.2
    let tm := leAt bs 4 4 % 2 ^ 30 + 1000000000 * leAt bs 8 6
    let l := if r.1 && time then l.takeTime b rank (leAt bs 3 1) tm else l
    let l := if b1 / 8 % 2 == 1 then
        l.modBus b fun u => { u with cap := u.sof.map fun c => { c with rank := rank, cycle := leAt bs 3 1 } }
      else l
    if b1 / 16 % 2 == 1 && leAt bs 2 1 == l.nodeOf b && l.busNormal b then l.respond b bs else l

/-- The acknowledgement a response carries (12 R293). -/
def SprueBus.ackFrom (u : SprueBus) (n b1 : Nat) : SprueBus :=
  let nak := b1 / 8 % 2 == 1
  let ack := b1 / 4 % 2 == 1 && u.announced && !u.rewritten && b1 % 4 == u.pend
  { u with acked := if ack then u.acked ||| 2 ^ n else u.acked, nak := u.nak || (nak && !u.rewritten) }

/-- SPRUE_RESPONSE_RECEIVE: a valid response (12 R283, R292, R293, R301). -/
def opRespRecv (l : Lane) (b ident : Nat) (bs : List Byte) : Lane :=
  if !l.busHears b then l
  else if ident < 0x200 ∨ 0x400 ≤ ident ∨ ident % 8 ≠ 0 then l.foreign b
  else
    let n := (ident - 0x200) / 8
    let l := l.modBus b fun u =>
      let u := u.rxOk
      if !u.master then u
      else ({ u with answered := u.answered || (u.target == some n), seenNow := u.seenNow ||| 2 ^ n } : SprueBus).ackFrom n (leAt bs 1 1)
    (l.takeFrame b 4 bs).2

/-- TX_ECHO: the frame the lane sends is received; its envelope is compared with the one the SFE formed (12 R302). -/
def opTxEcho (l : Lane) (b : Nat) (bs : List Byte) (tdcv : Nat) : Lane :=
  if !l.busHears b then l
  else
    match (l.busOf b).echo with
    | [] => l
    | t :: _ =>
      let tail := fun (x : List Byte) => x.drop (x.length - 16)
      let env := enveloped t.bytes
      let differs := env && (tail bs != tail t.bytes)
      let l := l.modBus b fun u =>
        let u := u.txOk
        let run := if differs then min 2 (u.echoRun + 1) else if env then 0 else u.echoRun
        { u with echo := [], resp := if (u.resp.map (·.1)) = some t then none else u.resp, tdcv := tdcv % 256, badPolls := 0,
                 echoRun := run, echoLost := if run = 2 then true else if env && !differs then false else u.echoLost,
                 echoCnt := satAdd 0xFF u.echoCnt (b2n differs) }
      l.flagIf differs (Reg.SP_STATUS b) Bit.SP_TX_ECHO

/-- RESPONSE_WITHDRAW: at the slave's slot end a response that has not begun is withdrawn (12 R291). -/
def opRespWithdraw (l : Lane) (b : Nat) : Lane :=
  match (l.busOf b).resp with
  | none => l
  | some (_, stop) => if stop ≤ l.now then (l.modBus b fun u => { u with resp := none }).slotLate b else l

/-- POLL_ERROR: the own poll ends in a bit or form error; three slots in a row end mastership (12 R297). -/
def opPollError (l : Lane) (b : Nat) : Lane :=
  let u := l.busOf b
  if !u.master ∨ !u.running ∨ u.echo = [] then l
  else
    let l := l.modBus b fun u => { u with echo := [], erred := true, badPolls := u.badPolls + 1, tec := satAdd 0xFF u.tec 8 }
    if (l.busOf b).badPolls < 3 then l
    else ((l.endMaster b false).modBus b fun u => { u with clash := true }).spFlag b Bit.SP_RANK_CLASH

/-- IDLE_WAIT_EXPIRY: the bus has been idle for IDLEW (12 R295). -/
def opIdleWait (l : Lane) (b : Nat) : Lane :=
  let u := l.busOf b
  match u.idleAt with
  | none => l
  | some t => if l.mayMaster b && !u.master && elapsed l.now t u.idleLen then l.modBus b fun u => { u with ready := true } else l

/-- BUS_OFF: the controller enters bus-off (12 R298, R303). -/
def opBusOff (l : Lane) (b : Nat) : Lane :=
  if !l.busHears b then l
  else
    let l := if (l.busOf b).master then l.endMaster b false else l
    (l.modBus b fun u =>
      { u with err := 2, tec := 255, busOff := satAdd 0xFF u.busOff 1, idleAt := none, ready := false, resp := none,
               echo := [] }).spFlag b Bit.SP_BUS_OFF

/-- ERR_PASSIVE: the controller enters error-passive, with its counters (12 R303). -/
def opErrPassive (l : Lane) (b tec rec_ : Nat) : Lane :=
  if !l.busHears b then l
  else (l.modBus b fun u => { u with err := 1, tec := min 255 tec, rec_ := min 255 rec_ }).spFlag b Bit.SP_ERR_PASSIVE

/-- BUS_OFF_RECOVERY: 128 occurrences of 11 recessive bits have passed (12 Table 12.1, R303). -/
def opBusRecovery (l : Lane) (b : Nat) : Lane :=
  if b < 2 ∧ (l.busOf b).err = 2 then
    (l.modBus b fun u => { u with err := 0, tec := 0, rec_ := 0 }).startWait b
  else l

/-! Requests and tables -/

/-- A request for a mode: PEND with PEND_VALID (12 R293), false where the master refuses it. -/
def Lane.pendRequest (l : Lane) (b m : Nat) : Bool × Lane :=
  if (l.busOf b).master ∧ !l.modeLoaded b m then (false, l.spFlag b Bit.SP_MODE_BAD)
  else
    let l := l.setFld (Reg.SP_MODE b) 4 3 (4 + m % 4)
    (true, l.modBus b fun u => if u.announced then { u with rewritten := true, acked := 0, nak := false } else u)

/-- The request is withdrawn: the announcement ends at once (12 R293). -/
def Lane.pendWithdraw (l : Lane) (b pend : Nat) : Lane :=
  (l.setFld (Reg.SP_MODE b) 4 3 (pend % 4)).modBus b fun u => { u with announced := false, rewritten := false, acked := 0, nak := false }

/-- A write of SP_MODE with PEND and PEND_VALID (12 R293, R305). -/
def Lane.pendWrite (l : Lane) (b : Nat) (v : Word) : Lane :=
  if bit v 6 then (l.pendRequest b (field v 4 2)).2 else l.pendWithdraw b (field v 4 2)

/-- The mode of the window is in force, or announced (12 Table 12.10); a port out of use has none in force. -/
def Lane.tableBusy (l : Lane) (b m : Nat) : Bool :=
  let u := l.busOf b
  l.rbit (Reg.SP_CFG b) 31 && l.inRun && (m == u.mode || (u.announced && m == u.pend))

/-- A mode is checked again (12 R288). -/
def Lane.recheck (l : Lane) (b m : Nat) : Lane :=
  let ok := l.modePasses b m
  let bad := l.modeAny b m && !ok
  let put := fun (v : Nat) (x : Bool) => maskOf 4 fun k => if k = m then x else v.testBit k
  l.modBus b fun u => { u with loaded := put u.loaded ok, bad := put u.bad bad }

/-- A slot entry is written through the window, and its mode checked again (12 R288). -/
def Lane.putSlot (l : Lane) (b m s : Nat) (v : Word) : Lane :=
  ({ l with sp := { l.sp with sched := fset (fun _ => (0 : Word)) l.sp.sched (256 * b + 64 * m + s) v } } : Lane).recheck b m

/-- A write of SP_TWDATA (12 R288, Table 12.10). -/
def Lane.tableWrite (l : Lane) (b : Nat) (v : Word) : Lane :=
  let m := l.fld (Reg.SP_TWSEL b) 8 2
  let s := l.fld (Reg.SP_TWSEL b) 0 6
  if l.tableBusy b m then l.spFlag b Bit.SP_TBL_REFUSED
  else l.putSlot b m s v

/-- The idle wait starts when the node may become master, and mastership ends with what allowed it (12 Table 12.2, R295, R298). -/
def Lane.spWatch (l : Lane) (b : Nat) : Lane :=
  let u := l.busOf b
  if l.mayMaster b then
    (if u.master || u.idleAt.isSome then l else l.startWait b)
  else
    let l := l.endWithSlot b false
    if u.idleAt.isNone && !u.ready then l else l.modBus b fun u => { u with idleAt := none, ready := false }

end Sys2Proof.Machine
end

