-- ==== Sys2Proof/Machine/HostRings.lean ====
section
/-! DEFINITION. The endpoint and its rings: doorbell services, CMD descriptors, ABORT, telemetry, endpoint resets (14). -/

namespace Sys2Proof.Machine

/-- The lane with its rings changed. -/
def Lane.modHr (l : Lane) (f : Rings → Rings) : Lane := { l with hr := f l.hr }

/-! Doorbell services -/

/-- DBTO in cycles (14 Table 14.17). -/
def Lane.dbto (l : Lane) : Nat := us (between 2 1000 (l.fld Reg.HR_DBCFG 4 10))

/-- FETCHMAX (14 Table 14.17). -/
def Lane.fetchMax (l : Lane) : Nat := between 1 8 (l.fld Reg.HR_DBCFG 0 4)

/-- An HR_COUNT field and its flag (14 Tables 14.15, 14.20): 0 DB_BAD, 1 RDFAIL, 2 DB_BUSY, 3 DB_GAP. -/
def Lane.hrCount (l : Lane) (i : Nat) : Lane :=
  (l.modHr fun r =>
    match i with
    | 0 => { r with dbBad := satAdd 0xFF r.dbBad 1 }
    | 1 => { r with rdFail := satAdd 0xFF r.rdFail 1 }
    | 2 => { r with dbBusy := satAdd 0xFF r.dbBusy 1 }
    | _ => { r with dbGap := satAdd 0xFF r.dbGap 1 }).flag Reg.HR_STATUS i

/-- The longest read request the endpoint sends: 512 bytes or the programmed value (14 R320). -/
def Lane.readMax (l : Lane) : Nat := between 128 512 l.hr.mrrs

/-- A read leaves the endpoint where it can issue requests (14 R322, R328), as requests none of which exceeds `readMax`. -/
def Lane.readReq (l : Lane) (addr len : Nat) : Lane :=
  let c := l.readMax
  if l.canIssue then l.each (List.range ((len + c - 1) / c)) fun l i => l.hostSend (.read (addr + c * i) (min c (len - c * i))) else l

/-- A 64-bit host address of two registers. -/
def Lane.addr64 (l : Lane) (lo hi : Nat) : Nat := (l.reg lo).toNat + 2 ^ 32 * (l.reg hi).toNat

/-- A service of mask m starts (14 R327, R328). -/
def Lane.startService (l : Lane) (m : Nat) : Lane :=
  if l.hr.svc.isSome then l.hrCount 2
  else
    let cmd := m.testBit 0
    let gap := match l.hr.lastCmdSvc with
      | some t => cmd && decide (t + us (l.fld Reg.HR_DBCFG 16 16) < l.now)
      | none => false
    let l := if gap then l.hrCount 3 else l
    let s : Service := { mask := m % 16, start := l.now, issued := l.now, dbto := l.dbto, fetchMax := l.fetchMax, left := none }
    (l.modHr fun r => { r with svc := some s, lastCmdSvc := if cmd then some l.now else r.lastCmdSvc }).readReq
      (l.addr64 Reg.HR_DBLO Reg.HR_DBHI) 64

/-- DOORBELL: the action of the TLE that falls in this cycle (14 R327). -/
def opDoorbell (l : Lane) : Lane := l.dispatch 4 fun l d => l.startService d.arg

/-- Staged descriptors whose rings have room are written (14 R331); `fuel` bounds them. -/
def Lane.writeStaged : Nat → Lane → Lane
  | 0, l => l
  | f + 1, l => Lane.writeStaged f (opOutbound l)

/-- A service ends: what is staged is written, then the index block (14 R328, R331). -/
def Lane.endService (l : Lane) (completed : Bool) : Lane :=
  match l.hr.svc with
  | none => l
  | some s =>
    let l := (l.writeStaged (l.hr.staged.length)).writeIndex
    l.modHr fun r =>
      { r with svc := none, services := (r.services + b2n completed) % 65536,
               longest := min 0xFFFF (max r.longest (l.now - s.start)),
               lastFour := if s.mask.testBit 0 then (completed :: r.lastFour).take 4 else r.lastFour }

/-- A doorbell word of ring k passes its tests (14 R328, R329). -/
def Lane.wordOk (l : Lane) (k : Nat) (w : Word) : Bool :=
  let v := field w 0 16
  let r := l.ring k
  field w 16 16 == 65535 - v &&
    (if k = 0 then decide ((v + 65536 - r.dev) % 65536 ≤ l.ringN 0)
     else decide ((v + 65536 - r.host) % 65536 ≤ (r.dev + 65536 - r.host) % 65536))

/-- A doorbell word is adopted, or counted (14 R328). -/
def Lane.adoptWord (l : Lane) (k : Nat) (w : Word) : Lane :=
  if l.wordOk k w then l.modRing k fun r => { r with host := field w 0 16 } else l.hrCount 0

/-- The descriptors a fetch takes (14 R328). -/
def Lane.fetchCount (l : Lane) (fetchMax : Nat) : Nat :=
  let c := l.ring 0
  let p := l.ring 1
  let slot := c.dev % l.ringN 0
  let used := (p.dev + 65536 - p.host) % 65536 + l.stagedFor 1 + l.hr.reserved
  min (min ((c.host + 65536 - c.dev) % 65536) fetchMax) (min (l.ringN 1 - used) (min (l.ringN 0 - slot) (64 - slot % 64)))

/-- The fetch of a service, or its end (14 R328). -/
def Lane.fetch (l : Lane) (s : Service) : Lane :=
  let n := if s.mask.testBit 0 && l.ringOn 0 && l.ringOn 1 then l.fetchCount s.fetchMax else 0
  if n = 0 then l.endService true
  else
    let slot := (l.ring 0).dev % l.ringN 0
    (l.modHr fun r => { r with svc := some { s with issued := l.now, left := some n } }).readReq
      (l.addr64 (Reg.HR_RING_LO 0) (Reg.HR_RING_LO 0 + 4) / 4096 * 4096 + 64 * slot) (64 * n)

/-- The image read in progress fails (14 R344). -/
def Lane.imageFail (l : Lane) (reason : Nat) : Lane :=
  ((l.modHr fun r => { r with img := { r.img with state := 4, reason := reason } }).flag Reg.HR_STATUS Bit.HR_IMG_FAIL)

/-- The read of a service is abandoned (14 R328, Table 14.13): what has landed stands. -/
def Lane.readFail (l : Lane) (s : Service) : Lane := (l.hrCount 1).endService s.left.isSome

/-- The image read in progress is abandoned (14 R344). -/
def Lane.imageReadFail (l : Lane) : Lane := if l.hr.img.state = 1 then (l.hrCount 1).imageFail 2 else l

/-- DOORBELL_READ_COMPLETE: the doorbell block lands; or a read of the DE completes with an error or poisoned data, be it the
doorbell read, the fetch that follows it, or outside a service the read of an image (14 R328, R344, Table 14.13). A completion
after the deadline is discarded. -/
def opDoorbellRead (l : Lane) (ok : Bool) (w0 w1 w2 w3 : Word) : Lane :=
  match l.hr.svc with
  | none => if ok then l else l.imageReadFail
  | some s =>
    if s.issued + s.dbto < l.now then l
    else if !ok then l.readFail s
    else if s.left.isSome then l
    else
      let ws : Nat → Word := fun k => match k with | 0 => w0 | 1 => w1 | 2 => w2 | _ => w3
      (l.each (members s.mask 4) fun l k => l.adoptWord k (ws k)).fetch s

/-- READ_DEADLINE: a read of the DE has not landed by its deadline (14 R328, R344): that of the service where it is due, else that
of the image. -/
def opReadDeadline (l : Lane) : Lane :=
  let due := match l.hr.svc with
    | some s => if s.issued + s.dbto ≤ l.now then some s else none
    | none => none
  match due with
  | some s => l.readFail s
  | none => if l.hr.img.issued + l.dbto ≤ l.now then l.imageReadFail else l

/-! Descriptors -/

/-- The bits that the type of a CMD descriptor defines, by byte; TYPE, TAG and envelope apart (14 R334, Table 14.4). -/
def descMask (ty i : Nat) : Nat :=
  if i = 0 ∨ i = 2 ∨ i = 3 ∨ 48 ≤ i then 0xFF
  else
    match ty with
    | 1 => if i = 4 ∨ i = 5 then 0x3F else if 8 ≤ i ∧ i < 32 then 0xFF else 0
    | 2 => if i = 4 ∨ i = 5 ∨ i = 6 then 0x3F else if i = 7 then 0x83 else if i = 8 ∨ i = 9 then 0xC3 else 0
    | 3 => if i = 4 ∨ i = 5 then 0x3F else 0
    | 4 => if i = 4 ∨ i = 5 then 0xFF else if i = 6 then 1 else 0
    | 5 => if i = 4 then 3 else 0
    | 6 => if i = 4 ∨ i = 5 then 0xFF else 0
    | 7 => if i = 4 then 0xF else if i = 5 then 0x3F else if 8 ≤ i ∧ i < 16 then 7 else 0
    | _ => 0

/-- What is wrong with a descriptor: 0 nothing, 1 a reserved TYPE, 2 a non-zero undefined field (14 R334, Table 14.6). -/
def descFault (bs : List Byte) : Nat :=
  let ty := leAt bs 0 1
  if 8 ≤ ty then 1
  else if (List.range 48).all fun i => leAt bs i 1 ||| descMask ty i == descMask ty i then 0 else 2

/-- The row of the command table that a descriptor is: its TYPE, or 8 for BAD_DESC (14 R334, R335). -/
def descRow (bs : List Byte) : Nat := if descFault bs = 0 then leAt bs 0 1 else 8

/-- A completion recorded in the arrival cycle (14 R338). -/
def Lane.done (l : Lane) (c : CmdRef) (status : Nat) (result : List Nat) : Lane := l.complete c status 0 false false result

/-- HELD where a part that acts in the ACTIVE lane only was asked of another lane, else DONE (14 R336). -/
def Lane.heldOr (l : Lane) (asked : Bool) : Nat := if asked && !l.isActive then 1 else 0

/-- SETPOINT (14 Table 14.4): stored or held, discarded and limited axes. -/
def Lane.descSetpoint (l : Lane) (k : Nat) (c : CmdRef) (bs : List Byte) : Lane :=
  let mask := leAt bs 4 1 % 64
  let ok := l.permitted k mask
  let st := (envelopeOf bs).stamp
  let pos := fun n => (leAt bs 5 1).testBit n
  let val := fun n => signed 32 (leAt bs (8 + 4 * n) 4)
  let act := l.isActive
  let kept := maskOf 6 fun n => ok.testBit n && !(act && (l.safetyOf n).ramp)
  let limited := maskOf 6 fun n => kept.testBit n &&
    ((if pos n then l.limitPsp n true (val n) else l.limitTgt n (val n)) != val n)
  let l := l.each (members ok 6) fun l n => if pos n then l.cmdPsp n (val n) st else l.cmdTgt n (val n) st
  l.done c (l.heldOr true) [kept, mask - ok, limited]

/-- The Sprue part of MODE for one bus (14 Table 14.4): true where the request is refused. -/
def Lane.modeRequest (l : Lane) (b v : Nat) : Bool × Lane :=
  if v.testBit 6 then (false, l.pendWithdraw b (l.fld (Reg.SP_MODE b) 4 2))
  else if v.testBit 7 then
    let r := l.pendRequest b (v % 4)
    (!r.1, r.2)
  else (false, l)

/-- The STARTs of a MODE (05 R129): the mask of those that wait for their cut-off. -/
def Lane.modeStarts (l : Lane) (idx mask : Nat) : Nat × Lane :=
  (members mask 6).foldl (fun (r : Nat × Lane) n =>
    match r.2.startAxis n (some idx) with
    | (true, l) => (r.1 ||| 2 ^ n, l)
    | (false, l) => (r.1, l)) (0, l)

/-- An outcome is kept for an ABORT (14 R339). -/
def Lane.record (l : Lane) (c : CmdRef) (status : Nat) : Lane :=
  l.modHr fun r => { r with recorded := { tag := c.tag, cmdIdx := c.cmdIdx, status := status, cyc := l.now } :: r.recorded }

/-- MODE (14 Table 14.4): STOP, START, profile, RESUME, Sprue requests. -/
def Lane.descMode (l : Lane) (k : Nat) (c : CmdRef) (bs : List Byte) : Lane :=
  let start := leAt bs 4 1 % 64
  let stop := leAt bs 5 1 % 64
  let resume := leAt bs 6 1 % 64
  let prof := leAt bs 7 1
  let asked := start != 0 || stop != 0 || resume != 0 || prof.testBit 7
  let act := l.isActive
  let l := l.cmdStop (l.permitted k stop)
  let r := l.modeStarts c.cmdIdx (if act then l.permitted k start else 0)
  let l := r.2
  let l := if act && prof.testBit 7 then l.selectProfile (prof % 4) else l
  let l := if act then l.resumeAxes (l.permitted k resume) else l
  let a := l.modeRequest 0 (leAt bs 8 1)
  let b := a.2.modeRequest 1 (leAt bs 9 1)
  let refused := b2n a.1 + 2 * b2n b.1
  let l := b.2
  if r.1 ≠ 0 then
    l.modHr fun h => { h with pendOps := h.pendOps ++ [{ tag := c.tag, cmdIdx := c.cmdIdx, cseq := c.cseq, ctype := 2, open_ := r.1,
                                                         result := #v[0, 0, 0, 0, refused, 0, 0, 0] }] }
  else
    let s := l.heldOr asked
    let l := if start = 0 then l else l.record c s
    l.done c s [0, 0, 0, 0, refused]

/-- ARM (14 Table 14.4, 03 R70): DISARM first. -/
def Lane.descArm (l : Lane) (k : Nat) (c : CmdRef) (bs : List Byte) : Lane :=
  if !l.isActive then l.done c 1 []
  else
    let arm := l.permitted k (leAt bs 4 1)
    let l := l.each (members (l.permitted k (leAt bs 5 1)) 6) Lane.disarmIndex
    let r := (members arm 6).foldl (fun (r : Nat × Lane) n =>
      match r.2.armIndex n with
      | (l, true) => (r.1, l)
      | (l, false) => (r.1 ||| 2 ^ n, l)) (0, l)
    r.2.done c 0 [r.1]

/-- SHAKEOUT (14 Table 14.4, 11 R262): refused for its role, queued, or complete at once where it names no test that acts. -/
def Lane.descShakeout (l : Lane) (c : CmdRef) (bs : List Byte) : Lane :=
  let m := (leAt bs 4 3 % 2 ^ 17) &&& onDemand
  if !l.shakeOk then
    ((l.flag Reg.TS_STATUS Bit.TS_TEST_REFUSED).record c 2).complete c 2 1 false false []
  else if m = 0 then (l.record c 0).done c 0 []
  else
    (l.modHr fun h => { h with pendOps := h.pendOps ++ [{ tag := c.tag, cmdIdx := c.cmdIdx, cseq := c.cseq, ctype := 4, open_ := m,
                                                           result := .replicate 8 0 }] }).shakeQueue m (some c.cmdIdx)

/-- TIME (14 Table 14.4, 02 R49). -/
def Lane.descTime (l : Lane) (c : CmdRef) (bs : List Byte) : Lane :=
  let l := match leAt bs 4 1 % 4 with
    | 1 => l.acceptSlew
    | 2 => l.acceptStep
    | _ => l
  l.done c 0 []

/-- A pending operation is aborted (14 R339): its STARTs are withdrawn, or its tests abandoned; it completes ABORTED. -/
def Lane.abortOp (l : Lane) (p : PendOp) : Lane :=
  if p.ctype = 4 then l.abortShake p.cmdIdx
  else
    let l : Lane := { l with cm := l.cm.map fun (a : CmAxis) => { a with starts := a.starts.filter fun t => t != some p.cmdIdx } }
    l.endOp { p with result := p.result.set 3 p.open_ } 4 false false

/-- ABORT_LATE is set in a completion recorded in this cycle and still staged; its check value follows (14 R339, 13 R308). -/
def lateNote (tag : Nat) (d : OutDesc) : OutDesc :=
  if d.ring = 1 ∧ leAt d.bytes 2 2 = tag ∧ leAt d.bytes 1 1 = 0 then
    let b := (d.bytes.take 60).set 7 (BitVec.ofNat 8 (leAt d.bytes 7 1 ||| 1))
    { d with bytes := b ++ wordBytes (checkVal (wordAt b 48) b) }
  else d

/-- ABORT (14 R339): the pending operations of a TAG are withdrawn, or a recorded completion wins, or there is none. -/
def Lane.descAbort (l : Lane) (c : CmdRef) (bs : List Byte) : Lane :=
  let tag := leAt bs 4 2
  match l.hr.pendOps.filter fun p => p.tag == tag with
  | p :: ps => ((p :: ps).foldl Lane.abortOp l).done c 0 [4, p.cmdIdx % 256, p.cmdIdx / 256]
  | [] =>
    match l.hr.recorded.find? fun r => r.tag == tag with
    | none => l.complete c 2 2 false false []
    | some r =>
      let l := if r.cyc = l.now then l.modHr fun h => { h with staged := h.staged.map (lateNote tag) } else l
      l.complete c 0 0 true false [r.status, r.cmdIdx % 256, r.cmdIdx / 256]

/-- LANE (14 Table 14.4): HANDOVER, ACK_SILENT, fault clears, ZERO. -/
def Lane.descLane (l : Lane) (k : Nat) (c : CmdRef) (bs : List Byte) : Lane :=
  let v := leAt bs 4 1
  let zeroAsk := leAt bs 5 1 % 64
  let h := if v.testBit 1 then l.askHandover else (true, l)
  let a := if v.testBit 0 then h.2.ackSilent else (true, h.2)
  let l := a.2
  let clear := b2n (v.testBit 3) + 2 * b2n (v.testBit 2)
  let l := if clear = 0 then l else l.sendFclr (BitVec.ofNat 32 clear)
  let l := l.each (List.range 8) fun l u => l.fclr u (leAt bs (8 + u) 1 % 8)
  let act := l.isActive
  let l := if act then l.each (members (l.permitted k zeroAsk) 6) Lane.loopZero else l
  l.done c 0 [b2n (!h.1) + 2 * b2n (!a.1) + 4 * b2n (zeroAsk != 0 && !act)]

/-- What a descriptor that passed its envelope does (14 R334, R335). -/
def Lane.descAct (l : Lane) (k : Nat) (c : CmdRef) (bs : List Byte) : Lane :=
  let f := descFault bs
  if f ≠ 0 then l.complete c 5 f false false []
  else
    match c.ctype with
    | 0 => l.done c 0 []
    | 1 => l.descSetpoint k c bs
    | 2 => l.descMode k c bs
    | 3 => l.descArm k c bs
    | 4 => l.descShakeout c bs
    | 5 => l.descTime c bs
    | 6 => l.descAbort c bs
    | _ => l.descLane k c bs

/-- The last descriptor of the fetch ends the service (14 R328). -/
def Lane.afterArrival (l : Lane) : Lane :=
  match l.hr.svc with
  | some s => if s.left = some 0 then l.endService true else l
  | none => l

/-- A descriptor lands in staging (14 R328, R330): CI advances, a CPL slot is reserved, and it is checked under R312. -/
def Lane.arrive (l : Lane) (s : Service) (n : Nat) (bs : List Byte) : Lane :=
  let idx := (l.ring 0).dev
  let l := (l.modRing 0 fun r => { r with dev := (r.dev + 1) % 65536 }).modHr fun r =>
    { r with svc := some { s with left := some n }, reserved := r.reserved + 1, indexNews := r.indexNews ||| 8 }
  let k := l.ringConn 0
  let l := match l.envMessage k l.now bs with
    | (some f, l) => l.complete { tag := 0, cmdIdx := idx, cseq := 0, ctype := 0xFF } 3 f false false []
    | (none, l) => l.descAct k { tag := leAt bs 2 2, cmdIdx := idx, cseq := (envelopeOf bs).seq, ctype := leAt bs 0 1 } bs
  l.afterArrival

/-- A descriptor of 64 bytes of the row `row` arrives within the deadline of its fetch (14 R328). -/
def Lane.descriptor (l : Lane) (row : Nat) (bs : List Byte) : Lane :=
  match l.hr.svc with
  | none => l
  | some s =>
    match s.left with
    | some (n + 1) => if bs.length = 64 ∧ descRow bs = row ∧ l.now ≤ s.issued + s.dbto then l.arrive s n bs else l
    | _ => l

/-! Telemetry -/

/-- The instants of an AXIS record before the first pass: the spec gives them no value (log 4). -/
def Lane.passTimes (l : Lane) (n : Nat) : Nat × Nat × Lane :=
  match (l.loopOf n).last with
  | some p => (p.capS, p.capL, l)
  | none => (l.freeVal, l.took.freeVal, l.took.took)

/-- E0 to E7 as 6 bytes (14 Table 14.9). -/
def expBytes (e : Vector Int 8) : List Byte :=
  leBytes 6 (((List.range 8).map fun i => twos 6 (vget e i 0) * 64 ^ i).sum)

/-- A WCLK count as seconds and ns. -/
def instant (ns : Nat) : List Byte := leBytes 6 (secOf ns) ++ leBytes 4 (nsOf ns)

/-- The AXIS telemetry record of axis n before its envelope (14 Table 14.9); before the first pass it reports the stored state. -/
def Lane.tlmAxis (l : Lane) (n : Nat) : List Byte × Lane :=
  let x := l.loopOf n
  let a := l.axis n
  let t := l.passTimes n
  let st := match x.last with | some p => p.st | none => x.st
  let spd := match x.last with | some p => p.spd | none => l.speed n
  let apos := match x.last with | some p => p.apos | none => l.apos n
  let ref := match x.last with | some p => p.ref | none => a.ref
  let limited := match x.last with | some p => p.limited | none => a.limited
  let shadow := match x.last with | some p => p.shadow | none => !l.isActive
  let jit := match x.last with | some p => p.jit | none => 0
  ([BitVec.ofNat 8 (0x10 + n),
      BitVec.ofNat 8 (b2n shadow + 2 * b2n l.bench + 4 * b2n (l.hr.viewFlag.testBit 2) + 8 * b2n a.drive + 16 * b2n limited +
        32 * b2n (st.satDir != 0) + 64 * (l.safetyOf n).react)] ++
    leBytes 2 x.passes ++ instant t.1 ++ instant t.2.1 ++ leBytes 2 (twos 16 st.duty) ++ expBytes st.e ++
    leBytes 4 (twos 32 spd) ++ wordBytes apos ++ leBytes 4 (twos 32 ref) ++ leBytes 3 (twos 24 st.i) ++
    [BitVec.ofNat 8 (min 255 jit)], t.2.2)

/-- The LANE telemetry record before its envelope (14 Table 14.10). -/
def Lane.tlmLane (l : Lane) : List Byte :=
  [0x20, BitVec.ofNat 8 (b2n (!l.isActive) + 2 * b2n l.bench + 4 * b2n (l.hr.viewFlag.testBit 2))] ++ leBytes 2 l.hr.laneRecs ++
    instant l.wns ++ [0, 0] ++
    ([0x480C, 0x4814, Reg.LN_REPLACE, Reg.LN_PATHS, Reg.SF_CTRL, 0x540C, 0x6008, 0x4020].flatMap fun o =>
      wordBytes (l.readReg true o))

/-- A telemetry record is staged, or dropped after its envelope is formed (14 R333). -/
def Lane.tlmPut (l : Lane) (body : List Byte) : Lane :=
  let l := l.viewGiven 2
  if l.ringRoom 2 then l.stage 2 body
  else
    ((l.takeSeq (l.ringConn 2)).modRing 2 fun r => { r with drops := satAdd 0xFFFF r.drops 1 }).flag Reg.HR_STATUS Bit.HR_TLM_DROP

/-- A record that an ARG names is formed (14 R341, R333). -/
def Lane.telemetry (l : Lane) (arg : Nat) : Lane :=
  if 0x10 ≤ arg ∧ arg < 0x16 then
    (if l.ringOn 2 then
      let r := l.tlmAxis (arg - 0x10)
      r.2.tlmPut r.1
    else l)
  else if arg = 0x20 then
    (if l.ringOn 2 then (l.tlmPut l.tlmLane).modHr fun r => { r with laneRecs := (r.laneRecs + 1) % 65536 } else l)
  else l.flag Reg.HR_STATUS Bit.HR_TLM_BAD

/-- TELEMETRY: the action of the TLE that falls in this cycle (14 R341). -/
def opTelemetry (l : Lane) : Lane := l.dispatch 6 fun l d => l.telemetry d.arg

/-! The endpoint -/

/-- The HR_ registers and the MSI-X table at their reset values (14 R322). -/
def Lane.clearHrRegs (l : Lane) : Lane :=
  { l with regs := l.regs.filter fun e => e.1 < 0x7000 || 0x7800 ≤ e.1,
           status := l.status.filter fun e => e.1 != Reg.HR_STATUS }

/-- A status register whose host token is STALE; one back at its reset state is not listed (16 R381). -/
def staleHost (e : Nat × StatusReg) : Option (Nat × StatusReg) :=
  let r := { e.2 with hostTok := none, hostWas := none }
  if r = initStatus then none else some (e.1, r)

/-- The host's key is disarmed, and its tokens are STALE (16 R381, R384). -/
def Lane.forgetHost (l : Lane) : Lane :=
  { l with sys := { l.sys with keyHost := false }, status := l.status.filterMap staleHost }

/-- The endpoint is reset (14 R322); the queue of EVT records without an envelope stands. `link`: DL_Active stands. -/
def Lane.endpointReset (l : Lane) (link : Bool) : Lane :=
  l.clearHrRegs.forgetHost.modHr fun r =>
    { initRings with evtQueue := r.evtQueue, evtDropped := r.evtDropped, sent := r.sent, viewFlag := r.viewFlag,
                     dlActive := r.dlActive && link }

/-- ENDPOINT_RESET: 0 PERST_N_x low, 1 hot reset, 2 FLR, 3 loss of DL_Active (14 R322). -/
def opEndpointReset (l : Lane) (kind : Nat) : Lane := if kind < 4 then l.endpointReset (kind == 2) else l

/-- DL_ACTIVE_ENTRY: the link reaches DL_Active (14 R343). -/
def opDlActive (l : Lane) : Lane := l.modHr fun r => { r with dlActive := true }

/-- PCIE_CONFIG_WRITE: Memory Space Enable, Bus Master Enable, MSI-X enable, the D-state and Max_Read_Request_Size (14 R320,
R343). -/
def opPcieConfig (l : Lane) (mse bme msixEn d3hot : Bool) (mrrs : Nat) : Lane :=
  if l.hr.dlActive then l.modHr fun r => { r with mse := mse, bme := bme, msixEn := msixEn, d3hot := d3hot, mrrs := 128 * 2 ^ mrrs }
  else l

end Sys2Proof.Machine
end

