-- ==== Sys2Proof/Machine/Memory.lean ====
section
/-! DEFINITION. The internal address space as bytes (01 R21, 10 R236): a list of written bytes with rising addresses. -/

namespace Sys2Proof.Machine

/-- What lies at an internal address (01 Table 1.4). -/
inductive Region where
  | shm | rom | chill | otp | regs | outside
  deriving DecidableEq, Repr

/-- The region of an internal address (01 Table 1.4). -/
def regionOf (a : Nat) : Region :=
  if a < 0x200000 then .shm
  else if 0x10000000 ≤ a ∧ a < 0x10080000 then .rom
  else if 0x20000000 ≤ a ∧ a < 0x20010000 then .chill
  else if 0x30000000 ≤ a ∧ a < 0x30002000 then .otp
  else if 0x40000000 ≤ a ∧ a < 0x40010000 then .regs
  else .outside

/-- The byte listed at an address. -/
def cellGet : List Host.Cell → Nat → Option Byte
  | [], _ => none
  | (k, v) :: t, a => if a = k then some v else if a < k then none else cellGet t a

/-- A byte that an unlisted address reads as: zero in Chill RAM, which every power-on start initialises to zero (15 R352). What
SHM holds before it is written is free (log 5), so no byte stands for it. -/
def cellIdle (a : Nat) (b : Byte) : Bool := decide (regionOf a = .chill) && b == 0

/-- The list with a byte put, whatever it is. -/
def cellInsert : List Host.Cell → Nat → Byte → List Host.Cell
  | [], a, b => [(a, b)]
  | (k, v) :: t, a, b => if a < k then (a, b) :: (k, v) :: t else if a = k then (a, b) :: t else (k, v) :: cellInsert t a b

/-- The list without an address. -/
def cellErase (m : List Host.Cell) (a : Nat) : List Host.Cell := m.filter fun c => c.1 != a

/-- The list with a byte written. -/
def cellPut (m : List Host.Cell) (a : Nat) (b : Byte) : List Host.Cell := if cellIdle a b then cellErase m a else cellInsert m a b

/-- Addresses rising strictly from `lo`, and no entry equal to what an unlisted address reads as. -/
def cellWfFrom : Nat → List Host.Cell → Bool
  | _, [] => true
  | lo, (k, v) :: t => decide (lo ≤ k) && !cellIdle k v && cellWfFrom (k + 1) t

/-- The canonical form of a memory: addresses strictly rising, and no Chill RAM byte listed as zero. -/
def Memory.wf (m : List Host.Cell) : Bool := cellWfFrom 0 m

/-- The byte of the coded memories at an internal address: the written one; else the ROM's (log 6), zero in Chill RAM (15 R352), or
the fresh one (log 5). OTP is no coded memory (`Lane.otpByte`), and an address outside the ranges reads zero (01 R21). -/
def memByte (m : List Host.Cell) (a : Nat) : Byte :=
  match regionOf a with
  | .rom => Config.romByte (a - 0x10000000)
  | .shm => (cellGet m a).getD (Config.freshByte a)
  | .chill => (cellGet m a).getD 0
  | .otp | .regs | .outside => 0

/-- Byte `n` of a number in two's complement, low byte first (00 R11). -/
def bytePart (v : Int) (n : Nat) : Byte := BitVec.ofInt 8 (v / 256 ^ n)

/-- Byte `i` of a CORE slot before its CRC (11 Table 11.6). TJ and the step count take two bytes each (DESIGN CHOICE, log 16); the
version is free (log 5), and a byte that the table does not name is zero (11 R276). -/
def Birth.dataByte (b : Birth) (off i : Nat) : Byte :=
  if i = 0 then 0xE7
  else if i = 1 then 0xB1
  else if i < 4 then Config.freshByte (0x30000000 + off + i)
  else if i < 6 then bytePart b.tj (i - 4)
  else if i < 8 then bytePart b.steps (i - 6)
  else if i < 0x68 then bytePart (b.slack.getD ((i - 8) / 2) 0) (i % 2)
  else if i < 0x78 then bytePart (b.dref.getD ((i - 0x68) / 4) 0) (i % 4)
  else if i < 0x82 then bytePart (b.err.getD ((i - 0x78) / 2) 0) (i % 2)
  else if i < 0x87 then bytePart (b.trim.getD (i - 0x82) 0) 0
  else if 0x90 ≤ i ∧ i < 0xDA then bytePart (b.sink.getD ((i - 0x90) / 2) 0) (i % 2)
  else 0

/-- Byte `i` of a CORE slot that holds the record `b` (11 Table 11.6): the CRC-32 stands in its last four bytes. -/
def Birth.otpByte (b : Birth) (off i : Nat) : Byte :=
  if i < 0x3FC then b.dataByte off i
  else bytePart (crc32 ((List.range 0x3FC).map (b.dataByte off))).toNat (i - 0x3FC)

/-- A byte of OTP by offset (11 Table 11.6, R276, R277): the factory record, the CORE and CLOCK slots, blank ones and every location
outside the map zero, and the two copies of the progress word. -/
def Lane.otpByte (l : Lane) (off : Nat) : Byte :=
  let slot := if off < 0x1000 then vget l.ts.coreSlot ((off - 0x800) / 0x400) 0 else vget l.ts.clockSlot ((off - 0x1000) / 0x100) 0
  if off < 0x800 then Config.freshByte (0x30000000 + off)
  else if off < 0x1200 then
    if slot = 0 then 0
    else
      match slot, l.ts.birth with
      | 1, some b => if off < 0x1000 then b.otpByte (off / 0x400 * 0x400) (off % 0x400) else Config.freshByte (0x30000000 + off)
      | _, _ => Config.freshByte (0x30000000 + off)
  else if off < 0x1210 then BitVec.ofNat 8 (l.ts.progress / 256 ^ (off % 8))
  else 0

/-- The line of an internal address: 32 bytes (10 R236). -/
def lineOf (a : Nat) : Nat := a / 32 * 32

/-- The bytes of a line (10 R236). -/
def lineBytes (m : List Host.Cell) (line : Nat) : List Byte := (List.range 32).map fun i => memByte m (line + i)

/-- Consecutive bytes written. -/
def cellPuts (m : List Host.Cell) (a : Nat) : List Byte → List Host.Cell
  | [] => m
  | b :: t => cellPuts (cellPut m a b) (a + 1) t

/-- The bytes of one region dropped: its power is lost. -/
def cellDrop (r : Region) (m : List Host.Cell) : List Host.Cell := m.filter fun c => decide (regionOf c.1 ≠ r)

/-- Whether an engine may write an SHM offset (01 R22, Table 1.5); `setup`: the lane is in SETUP. Codes 0x0E and 0x0F, the
debug port and the scrubber, are no engines and are not blocked. -/
def mayWrite (src off : Nat) (setup : Bool) : Bool :=
  let le := decide (1 ≤ src ∧ src ≤ 6)
  if 0xE ≤ src then true
  else if off < 0x40000 then le || (src == 0 && setup)
  else if off < 0x60000 then src == 0xA || src == 9 || (src == 0 && setup)
  else if off < 0x80000 then src == 0xB || src == 0xC || (src == 0 && setup)
  else if off < 0x100000 then src == 0xD || src == 8
  else if off < 0x140000 then src == 8 || le || src == 7
  else if off < 0x180000 then src == 8
  else if off < 0x1C0000 then src == 0xD || src == 0
  else src == 0

end Sys2Proof.Machine
end

