-- ==== Sys2Proof/Machine/Integrity.lean ====
section
/-! DEFINITION. Memory codes, scrubbing, lock-step, parity, debug access and error injection (10). -/

namespace Sys2Proof.Machine

/-- The lane with its integrity state changed. -/
def Lane.modIg (l : Lane) (f : Integrity → Integrity) : Lane := { l with ig := f l.ig }

/-- The first fatal error since VALID cleared is captured (10 Tables 10.14, 10.15); the syndrome is a free value, since the
spec gives no check matrix (log 4). -/
def Lane.captureUe (l : Lane) (kind src addr : Nat) (inj park : Bool) (syn : Nat) : Lane :=
  if l.ig.cap.valid then l
  else l.modIg fun g => { g with cap := { valid := true, kind := kind, inj := inj, park := park, syn := syn % 256,
                                          src := src, addr := if 4 ≤ kind then 0 else addr } }

/-- MEM of IG_CEINFO (10 Table 10.13). -/
def memCode (r : Region) : Nat :=
  match r with
  | .shm => 0
  | .rom => 1
  | .chill | .otp | .regs | .outside => 2

/-- One correctable error in the word at `addr` (10 R239): counted and captured; SHM and Chill RAM write the corrected word back. -/
def Lane.correct (l : Lane) (src addr syn : Nat) (inj scrub : Bool) (word : BitVec 64) : Lane :=
  let r := regionOf addr
  let hard := scrub && l.ig.cePrev.contains addr
  let l := l.modIg fun g =>
    { g with ceShm := if r = .shm then satAdd 0xFFFF g.ceShm 1 else g.ceShm,
             ceRom := if r = .rom then satAdd 0xFF g.ceRom 1 else g.ceRom,
             ceChill := if r = .chill then satAdd 0xFF g.ceChill 1 else g.ceChill,
             ceAddr := addr, ceSyn := syn, ceSrc := src, ceInj := inj, ceHard := hard, ceMem := memCode r,
             ceNow := if scrub then addr :: g.ceNow else g.ceNow,
             wback := if r = .rom then g.wback else g.wback ++ [{ addr := addr, word := word }] }
  let l := l.event Reg.IG_STATUS (2 ^ Bit.IG_CE + b2n hard * 2 ^ Bit.IG_HARD_BIT)
  if hard then l.hardNotice else l

/-- One uncorrectable error in the word at `addr` (10 R240). -/
def Lane.uncorrectable (l : Lane) (src addr syn : Nat) (inj : Bool) : Lane :=
  ((l.captureUe 1 src addr inj false syn).flag Reg.IG_STATUS Bit.IG_UE).trigger 0x02 src

/-! Lines and code words -/

/-- An access that meets no error. -/
def LineErr.none : LineErr := { data := .replicate 4 0, chk := .replicate 4 0, outer := 0, other := Option.none }

/-- Errors on top of errors. -/
def LineErr.add (a b : LineErr) : LineErr :=
  { a with data := .ofFn fun w => vget a.data w.val 0 ^^^ vget b.data w.val 0,
           chk := .ofFn fun w => vget a.chk w.val 0 ^^^ vget b.chk w.val 0,
           outer := a.outer ^^^ b.outer }

/-- Word `w` of the bytes of a line. -/
def wordOf (bs : List Byte) (w : Nat) : BitVec 64 := BitVec.ofNat 64 (leAt bs (8 * w) 8)

/-- The codes that a write of a line computes (10 R236, R237, R242). -/
def lineCode (line : Nat) (bs : List Byte) : LineCode :=
  { inner := .ofFn fun w => Config.innerCheck (wordOf bs w.val), outer := outerCheck line bs, flaw := LineErr.none }

/-- The check bits in the array of a line: those last written, else the codes of its bytes. -/
def Integrity.codeOf (g : Integrity) (line : Nat) : LineCode :=
  (fget (fun _ => Option.none) g.codes line).getD (lineCode line (lineBytes g.mem line))

/-- The line that an access reads or writes: the one addressed, unless the address decoder selects another (10 Table 10.1). -/
def LineErr.reaches (e : LineErr) (line : Nat) : Nat := (e.other.map lineOf).getD line

/-- The number of bits set. -/
def ones (w v : Nat) : Nat := (members v w).length

/-- What the inner code makes of one word (10 R239, R240). -/
structure Inner where
  /-- 0 no error, 1 a correctable one, 2 an uncorrectable one. -/
  kind : Nat
  /-- The word delivered. -/
  word : BitVec 64
  /-- The syndrome. -/
  syn : BitVec 8
  deriving DecidableEq, Repr

/-- The inner code of one word: `s` its bits in the array as written, `k` its check bits, `d` and `c` the bits in error. One bit
is corrected and two are detected; three or more are detected, or corrected to another word, which the free value `f` says
(10 Table 10.1; the check matrix is free, log 4). -/
def innerOf (s d : BitVec 64) (k c : BitVec 8) (f : Nat) : Inner :=
  let read := s ^^^ d
  let syn := Config.innerCheck read ^^^ k ^^^ c
  match ones 64 d.toNat + ones 8 c.toNat with
  | 0 => { kind := 0, word := read, syn := 0 }
  | 1 => { kind := 1, word := s, syn := syn }
  | 2 => { kind := 2, word := read, syn := syn }
  | _ => if f % 2 = 0 then { kind := 2, word := read, syn := syn } else { kind := 1, word := read ^^^ (1 <<< (f / 2 % 64)), syn := syn }

/-- A line as a read finds it (10 R238): its four words after the inner code, and the stored outer check exclusive-or the one
computed over them. -/
structure LineRead where
  /-- Words 0–3. -/
  words : List Inner
  /-- The outer check's difference; 0 where it passes. -/
  diff : BitVec 16
  deriving DecidableEq, Repr

/-- The bytes that a read delivers (10 R238). -/
def LineRead.bytes (r : LineRead) : List Byte := r.words.flatMap fun i => leBytes 8 i.word.toNat

/-- The words with an inner-code result of a kind. -/
def LineRead.having (r : LineRead) (kind : Nat) : List Nat := (List.range 4).filter fun w => (r.words[w]?.map Inner.kind) == some kind

/-- A line is read with errors `e` (10 R236 to R241): `f` says what the inner code makes of three or more bits. -/
def Integrity.read (g : Integrity) (line : Nat) (e : LineErr) (f : Nat) : LineRead :=
  let at_ := e.reaches line
  let c := g.codeOf at_
  let e := c.flaw.add e
  let bs := lineBytes g.mem at_
  let ws := (List.range 4).map fun w =>
    innerOf (wordOf bs w) (vget e.data w 0) (vget c.inner w 0) (vget e.chk w 0) (f / 128 ^ w)
  { words := ws, diff := c.outer ^^^ e.outer ^^^ outerCheck line (ws.flatMap fun i => leBytes 8 i.word.toNat) }

/-- An injection that is armed for a target in the accessed line, of one of the kinds (10 R255). -/
def Lane.injFor (l : Lane) (line : Nat) (kinds : List Nat) : Option (Nat × Nat) :=
  match l.ig.inj with
  | some (k, t) => if kinds.contains k ∧ lineOf t = line then some (k, t) else none
  | none => none

/-- The error that an injection of kind 1, 2 or 3 puts into the read of its line (10 Table 10.7); which bits, is free. -/
def injErr (kind target f : Nat) : LineErr :=
  let w := target / 8 % 4
  let b := f % 64
  match kind with
  | 1 => { LineErr.none with data := vmod LineErr.none.data w fun _ => 1 <<< b }
  | 2 => { LineErr.none with data := vmod LineErr.none.data w fun _ => (1 <<< b) ||| (1 <<< ((b + 1 + f / 64 % 63) % 64)) }
  | _ => { LineErr.none with outer := 1 <<< (f % 16) }

/-- A line is read for a requester (10 R238 to R240, R255): an armed injection acts, and each word with an error is counted or
triggers. The lane, and what was read. -/
def Lane.readLine (l : Lane) (src line : Nat) (e : LineErr) (scrub : Bool) : LineRead × Bool × Lane :=
  let i := l.injFor line [1, 2, 3]
  let e := match i with
    | some (k, t) => e.add (injErr k t l.freeVal)
    | none => e
  let l := if i.isSome then l.took.modIg fun g => { g with inj := none } else l
  let r := l.ig.read line e l.freeVal
  let injAt := fun w => match i with
    | some (_, t) => t / 8 % 4 == w
    | none => false
  let syn := fun w => ((r.words[w]?.map Inner.syn).getD 0).toNat
  let l := l.took.each (r.having 1) fun l w =>
    l.correct src (line + 8 * w) (syn w) (injAt w) scrub ((r.words[w]?.map Inner.word).getD 0)
  (r, i.isSome, l.each (r.having 2) fun l w => l.uncorrectable src (line + 8 * w) (syn w) (injAt w))

/-- The outer check of a read is under way (10 R238), with the write that waits for it. -/
def Lane.startCheck (l : Lane) (src line : Nat) (r : LineRead) (inj : Bool) (merge : Option (Nat × List Byte)) : Lane :=
  l.modIg fun g => { g with checks := g.checks ++
    [{ line := line, src := src, cyc := l.now, merge := merge, inj := inj, diff := r.diff, ue := !(r.having 2).isEmpty }] }

/-- A whole line is written: both codes are computed, and its check bits are read again within 32 cycles (10 R242). `e` says what
the array takes wrong (10 Table 10.1); an injection of kind 4 loses the write whole (10 R255). -/
def Lane.storeLine (l : Lane) (src line : Nat) (bs : List Byte) (e : LineErr) : Lane :=
  let lost := (l.injFor line [4]).isSome
  let c := lineCode line bs
  let v : Verify := { line := line, src := src, cyc := l.now, inner := c.inner, outer := c.outer, inj := lost }
  let dest := e.reaches line
  l.modIg fun g =>
    { g with mem := if lost then g.mem else cellPuts g.mem dest bs,
             codes := if lost then g.codes
               else fset (fun _ => none) g.codes dest (some { c with flaw := { e with other := none } }),
             inj := if lost then none else g.inj,
             wback := g.wback.filter fun w => lineOf w.addr != line,
             verify := (g.verify.filter fun v => v.line != line) ++ [v] }

/-- A whole line and the codes of its bytes in the array, with nothing of an earlier error. -/
def Integrity.putLine (g : Integrity) (line : Nat) (bs : List Byte) : Integrity :=
  { g with mem := cellPuts g.mem line bs, codes := fset (fun _ => none) g.codes line none,
           wback := g.wback.filter fun w => lineOf w.addr != line }

/-- The bytes `bs` at `a` merged into the bytes of their line (10 R242). -/
def mergeLine (old : List Byte) (a : Nat) (bs : List Byte) : List Byte :=
  old.take (a % 32) ++ bs ++ old.drop (a % 32 + bs.length)

/-- SHM_ACCESS: a line access by `src` at `a`, a read or a write of the given bytes (10 R236 to R242, 01 R21, R22). -/
def opAccess (l : Lane) (src a : Nat) (w : Option (List Byte)) (e : LineErr) : Lane :=
  let line := lineOf a
  let bs := w.map fun bs => bs.take (line + 32 - a)
  match regionOf a with
  | .outside | .regs => l.modIg fun g => { g with delivered := some (line, lineBytes g.mem line) }
  | .otp => l.modIg fun g => { g with delivered := some (line, (List.range 32).map fun i => l.otpByte (line + i - 0x30000000)) }
  | .rom | .shm | .chill =>
    let r := regionOf a
    match bs with
    | none =>
      let x := l.readLine src line e false
      (x.2.2.modIg fun g => { g with delivered := some (line, x.1.bytes) }).startCheck src line x.1 x.2.1 none
    | some bs =>
      if r = .rom then l
      else if r = .shm ∧ !mayWrite src a (l.pw.state == .setup) then
        (l.modIg fun g => { g with regCount := satAdd 63 g.regCount 1, regSrc := src, regOff := a }).flag
          Reg.IG_STATUS Bit.IG_REGION_BLOCKED
      else if a = line ∧ bs.length = 32 then l.storeLine src line bs e
      else
        let x := l.readLine src line e false
        x.2.2.startCheck src line x.1 x.2.1 (some (line, mergeLine x.1.bytes a bs))

/-- An outer-code error of a kind (10 R241, R242). One in a line with an uncorrectable error leaves that error's cause in LN_CAUSE
(10 Table 10.8). -/
def Lane.outerError (l : Lane) (kind src line : Nat) (inj ue : Bool) (syn flags : Nat) : Lane :=
  let l := (l.captureUe kind src line inj false syn).event Reg.IG_STATUS flags
  l.trigger (if ue then 0x02 else 0x03) src

/-- OUTER_CHECK_RESULT: the oldest outer check completes 2 cycles after its delivery (10 R238, R241); a merge that waited for
it is written where it passes (10 R242). -/
def opOuterCheck (l : Lane) : Lane :=
  match l.ig.checks with
  | [] => l
  | c :: t =>
    if l.now < c.cyc + 2 then l
    else
      let l := l.modIg fun g => { g with checks := t }
      if c.diff = 0 then
        match c.merge with
        | some (a, bs) => l.storeLine c.src a bs LineErr.none
        | none => l
      else l.outerError 2 c.src c.line c.inj c.ue c.diff.toNat (2 ^ Bit.IG_OUTER)

/-- A word in the array takes its corrected value, with its inner check bits (10 R239). -/
def Integrity.putWord (g : Integrity) (b : WriteBack) : Integrity :=
  let line := lineOf b.addr
  let w := b.addr / 8 % 4
  let c := g.codeOf line
  { g with mem := cellPuts g.mem (b.addr / 8 * 8) (leBytes 8 b.word.toNat),
           codes := fset (fun _ => none) g.codes line (some { c with
             inner := vmod c.inner w fun _ => Config.innerCheck b.word,
             flaw := { c.flaw with data := vmod c.flaw.data w fun _ => 0, chk := vmod c.flaw.chk w fun _ => 0 } }) }

/-- CE_WRITE_BACK: the oldest corrected word goes back to the array; a write that has reached its line since has dropped it
(10 R239). -/
def opWriteBack (l : Lane) : Lane :=
  match l.ig.wback with
  | [] => l
  | b :: t => l.modIg fun g => { g.putWord b with wback := t }

/-- WRITE_VERIFY_READ: the check bits of the oldest line written in the last 32 cycles are read again, with errors `e`, and
compared with those written (10 R242). -/
def opWriteVerify (l : Lane) (e : LineErr) : Lane :=
  match l.ig.verify.filter fun v => decide (l.now ≤ v.cyc + 32) with
  | [] => l.modIg fun g => { g with verify := [] }
  | v :: t =>
    let l := l.modIg fun g => { g with verify := t }
    let c := l.ig.codeOf (e.reaches v.line)
    let e := c.flaw.add e
    let same := (List.range 4).all fun w => vget c.inner w 0 ^^^ vget e.chk w 0 == vget v.inner w 0
    if same && c.outer ^^^ e.outer == v.outer then l
    else l.outerError 3 v.src v.line v.inj false (c.outer ^^^ e.outer ^^^ v.outer).toNat
      (2 ^ Bit.IG_WRITE_VERIFY + 2 ^ Bit.IG_OUTER)

/-! Scrubbing -/

/-- The internal address of scrub line k, in the order of 10 R243. -/
def scrubAddr (k : Nat) : Nat :=
  if k < 65536 then 32 * k else if k < 81920 then 0x10000000 + 32 * (k - 65536) else 0x20000000 + 32 * (k - 81920)

/-- RATE in cycles per scrub line; values below 16 act as 16 (10 Table 10.9). -/
def Lane.scrubRate (l : Lane) : Nat := max 16 (l.fld Reg.IG_CTRL 0 10)

/-- A scrub pass ends: the errors found are judged (10 R245). -/
def Lane.scrubPass (l : Lane) : Lane :=
  let storm := decide (l.fld Reg.IG_CTRL 16 8 < l.ig.ceNow.length)
  let l := l.modIg fun g => { g with scrubLine := 0, passes := (g.passes + 1) % 4096, cePrev := g.ceNow, ceNow := [] }
  if storm then (l.flag Reg.IG_STATUS Bit.IG_CE_STORM).temperNotice else l

/-- SCRUB_READ: in RUN and DOZE the scrubber reads its next line, RATE cycles after its last read or later (10 R243 to R245). How
long the read waits behind others is the arbiter's (01 R23), and comes with the command's cycle (log 37). -/
def opScrub (l : Lane) (e : LineErr) : Lane :=
  if !(l.pw.state == .run || l.pw.state == .doze) || decide (l.now < l.ig.scrubAt) then l
  else
    let line := scrubAddr l.ig.scrubLine
    let l := l.modIg fun g => { g with scrubAt := l.now + l.scrubRate }
    let x := l.readLine 0x0F line e true
    let l := x.2.2.startCheck 0x0F line x.1 x.2.1 none
    if l.ig.scrubLine + 1 < 83968 then l.modIg fun g => { g with scrubLine := g.scrubLine + 1 } else l.scrubPass

/-- PARK_SCRUB: in PARK the always-on domain scrubs one Chill RAM line per 64 µs (10 R244); a fatal error is reported after the
restart. -/
def opParkScrub (l : Lane) (e : LineErr) : Lane :=
  if l.pw.state != .park ∨ l.now < l.ig.parkAt then l
  else
    let line := 0x20000000 + 32 * l.ig.parkLine
    let r := l.ig.read line e l.freeVal
    let ues := r.having 2
    let ces := r.having 1
    let l := l.took.modIg fun g => { g with parkLine := (g.parkLine + 1) % 2048, parkAt := l.now + us 64 }
    let l := l.modIg fun g => ces.foldl (fun g w => g.putWord { addr := line + 8 * w, word := ((r.words[w]?.map Inner.word).getD 0) })
      { g with ceChill := satAdd 0xFF g.ceChill ces.length }
    let l := l.each ues fun l w => l.captureUe 1 0x0F (line + 8 * w) false true ((r.words[w]?.map Inner.syn).getD 0).toNat
    let l := if r.diff = 0 then l else l.captureUe 2 0x0F line false true r.diff.toNat
    if !ues.isEmpty then l.modIg fun g => { g with parkFault := some (g.parkFault.getD 0x02) }
    else if r.diff ≠ 0 then l.modIg fun g => { g with parkFault := some (g.parkFault.getD 0x03) }
    else l

/-! Lock-step and parity -/

/-- A mismatch of the comparator of engine `k` (10 R248, R251): after a debug grant it is recorded only. -/
def Lane.lockMismatch (l : Lane) (k : Nat) (inj : Bool) : Lane :=
  let l := (l.modIg fun g => { g with last := k }).flag Reg.IG_STATUS Bit.IG_LOCKSTEP
  if l.ig.compareOff then l else (l.captureUe 4 k 0 inj false 0).trigger 0x01 k

/-- LOCKSTEP_MISMATCH (10 R248). -/
def opMismatch (l : Lane) (k : Nat) : Lane := if 10 < k then l else l.lockMismatch k false

/-- COMPARATOR_SELFTEST: every comparator has a difference forced on its test input, 2^20 cycles after the last time or later;
`fails` did not register it (10 R248). -/
def opSelfTest (l : Lane) (fails : BitVec 11) : Lane :=
  if l.ig.selfAt.any fun t => decide (l.now < t + 2 ^ 20) then l
  else
    let l := l.modIg fun g => { g with passed := (~~~fails).toNat, selfAt := some l.now }
    l.each (members fails.toNat 11) fun l k =>
      let l := (l.modIg fun g => { g with last := k + 0x80 }).flag Reg.IG_STATUS Bit.IG_LS_SELFTEST
      if l.ig.compareOff then l else (l.captureUe 6 k 0 false false 0).trigger 0x01 (k + 0x80)

/-- The register at an offset carries a parity bit: it holds an RW, RWK or RWL field (10 R253). -/
def parityChecked (off : Nat) : Bool :=
  match regRow? off with
  | some r => r.fields.any fun f => !f.acc.writeOnly
  | none => false

/-- A parity mismatch of the register at an offset (10 R253). -/
def Lane.parityError (l : Lane) (off : Nat) (inj : Bool) : Lane :=
  let l := l.modIg fun g => { g with parOff := if g.parOff = 0xFFFF then off % 0x10000 else g.parOff }
  ((l.flag Reg.IG_STATUS Bit.IG_PARITY).captureUe 5 0 0 inj false 0).trigger 0x04 (off / 256 % 256)

/-- One stored bit of an event-table entry flipped: bit b % 32 of W(b / 32) (02 R52). -/
def Entry.flip (e : Entry) (b : Nat) : Entry :=
  let m : Word := 1 <<< (b % 32)
  match b / 32 with
  | 0 => { e with w0 := e.w0 ^^^ m }
  | 1 => { e with w1 := e.w1 ^^^ m }
  | 2 => { e with w2 := e.w2 ^^^ m }
  | 3 => { e with w3 := e.w3 ^^^ m }
  | 4 => { e with w4 := e.w4 ^^^ m }
  | _ => { e with w5 := e.w5 ^^^ m }

/-- PARITY_ERROR: a stored bit of a register, or of an event-table entry, changes without a write (10 R253, Table 10.6,
02 R52). `was` is the lane at the start of this cycle: a write that lands in the cycle of the flip recomputes parity, and the flip
is not reported (10 R253). -/
def opParity (was l : Lane) (off b : Nat) (entry : Option Nat) : Lane :=
  match entry with
  | some k =>
    let e := fget (fun _ => initEntry) l.tl.entries k
    if e.commitAt = l.now ∧ (fget (fun _ => initEntry) was.tl.entries k).commitAt ≠ l.now then l
    else
      let l := { l with tl := { l.tl with entries := fset (fun _ => initEntry) l.tl.entries k (e.flip b) } }
      ((l.flag Reg.TL_STATUS Bit.TL_PARITY).captureUe 5 7 0 false false 0).trigger 0x04 (Reg.TL_STATUS / 256 % 256)
  | none =>
    match regRow? off with
    | none => l
    | some r =>
      if !(r.fields.any fun f => !f.acc.writeOnly && decide (f.lo ≤ b) && decide (b < f.lo + f.width)) ∨
        was.reg off ≠ l.reg off ∨ (off = Reg.IG_UEINFO ∧ was.ig.cap.valid ≠ l.ig.cap.valid) then l
      else if off = Reg.IG_UEINFO then
        (l.modIg fun g => { g with cap := { g.cap with valid := !g.cap.valid } }).parityError off false
      else (l.setReg off (l.reg off ^^^ (1 <<< b))).parityError off false

/-! Debug access -/

/-- The instruction that the TAP acts as: BYPASS for a refused one, and for an attaching one until its grant (10 Table 10.5,
R250). -/
def Integrity.tapActs (g : Integrity) : TapIr :=
  match g.tap with
  | .intest | .runbist | .usercode => .bypass
  | .extest | .clamp | .highz | .dbgAccess => if g.granted then g.tap else .bypass
  | .bypass | .idcode | .sample => g.tap

/-- What the instruction register captures while an attaching instruction is held (10 R250). -/
def Integrity.irCapture (g : Integrity) : BitVec 4 := if g.granted then 0b1001 else 0b0101

/-- TAP_OPEN_INSTRUCTION: an open instruction, or a refused one that acts as BYPASS, loads (10 Table 10.5, R250): lock-step is left
as it is. It takes the place of an attaching one, whose grant or wait ends (log 37). -/
def opTapOpen (l : Lane) (ir : TapIr) : Lane :=
  l.modIg fun g => { g with tap := ir, waiting := false, granted := false, pads := false, wantPads := false }

/-- An attach (10 R250, R252): the latch, its copy in Chill RAM, the deferred cause and the flag. -/
def Lane.attach (l : Lane) (ir : TapIr) (code : Nat) : Lane :=
  let l := l.modIg fun g =>
    { g with unlocked := 7, unlockedCopy := true, tap := ir, attachWait := none, waiting := true, granted := false,
             wantPads := ir.drives, pads := false, ir := code }
  (l.flag Reg.IG_STATUS Bit.IG_DEBUG_ATTACH).deferCause 0x15 0

/-- TAP_ATTACH: an attaching instruction at Update-IR (10 R250); one in PARK acts at wake (10 Table 10.8). -/
def opTapAttach (l : Lane) (ir : TapIr) (code : BitVec 8) : Lane :=
  if l.alive then l.attach ir code.toNat
  else if l.pw.state == .park then l.modIg fun g => { g with attachWait := some (ir, code.toNat) }
  else l

/-- An attach of PARK acts at wake (10 Table 10.8). -/
def Lane.attachAtWake (l : Lane) : Lane :=
  match l.ig.attachWait with
  | some (ir, code) => l.attach ir code
  | none => l

/-- DEBUG_GRANT: a waiting attach is granted (10 R250, R251), and the comparators stop acting. -/
def opDebugGrant (l : Lane) : Lane :=
  let bench := l.rbit Reg.LN_CFG 23 && l.unlocked
  let free := if l.ig.wantPads then l.ln.role == .offline || l.ln.role == .withdrawn
    else !l.isActive || (bench && l.healthyMask == 0)
  if !l.ig.waiting ∨ !free then l
  else l.modIg fun g => { g with waiting := false, granted := true, pads := g.wantPads, compareOff := true }

/-- TAP_RESET: TRST_N_x ends a pending request and the instruction in force; the latch and the comparison stay (10 R249,
R251, Table 10.8). IEEE 1149.1 loads IDCODE (PRESUMED, log 37). -/
def opTapReset (l : Lane) : Lane :=
  l.modIg fun g =>
    { g with tap := .idcode, attachWait := none, waiting := false, granted := false, pads := false, wantPads := false }

/-- The effect of a write of IG_INJ that has landed (10 R255): kinds 0x1 to 0x4 wait for their access; the parity and the
comparator are checked in every cycle, so kinds 0x5 and 0x6 act at once; a kind 0x5 whose target has no parity bit stays armed. -/
def Lane.inject (l : Lane) (kind : Nat) : Lane :=
  let target := (l.reg Reg.IG_INJADDR).toNat
  match kind with
  | 1 | 2 | 3 | 4 => l.modIg fun g => { g with inj := some (kind, target) }
  | 5 =>
    if parityChecked target then (l.modIg fun g => { g with inj := none }).parityError target true
    else l.modIg fun g => { g with inj := some (5, target) }
  | 6 => (l.modIg fun g => { g with inj := none }).lockMismatch target true
  | _ => l

/-- IG_UEINFO_VALID_CLEAR: a write of 0 to VALID releases the capture (10 Table 10.15). -/
def Lane.releaseUe (l : Lane) : Lane := l.modIg fun g => { g with cap := { g.cap with valid := false } }

end Sys2Proof.Machine
end

