-- ==== Sys2Proof/Machine/PowerStates.lean ====
section
/-! DEFINITION. Supplies, lane starts, low-power entry, wake and pad release (15 R347 to R371; 01 R25). -/

namespace Sys2Proof.Machine

/-- The lane with its power state changed. -/
def Lane.modPw (l : Lane) (f : Power → Power) : Lane := { l with pw := f l.pw }

/-! Lane starts -/

/-- The registers of the always-on domain (15 R373). -/
def alwaysOn (off : Nat) : Bool := off == Reg.PW_VTH || off == Reg.PW_WAKE

/-- Temper after a lane reset: what OTP holds stays; a record whose programming was cut short is torn and ignored (11 R276,
R277, 15 Table 15.12). -/
def Temper.restarted (t : Temper) (factoryOk : Bool) : Temper :=
  let torn := t.burns.head?
  let core := match torn with | some (.core i _) => vmod t.coreSlot i fun _ => 2 | _ => t.coreSlot
  let clock := match torn with | some (.clock i _) => vmod t.clockSlot i fun _ => 2 | _ => t.clockSlot
  { initTemper with factoryOk := factoryOk, level := burnedLevel t.progress, lSlack := burnedLevel t.progress,
                    steps := burnedSteps t.progress, progress := t.progress, coreSlot := core, birth := t.birth,
                    clockSlot := clock, xoBirth := t.xoBirth }

/-- Integrity after a lane reset: OTP, Chill RAM and its captures, the debug latch and the comparison mode stay; SHM starts as
after reset (10 R236, R240, R251, R252, 15 R368). -/
def Integrity.restarted (g : Integrity) : Integrity :=
  { initIntegrity g.mirror with
    mem := cellDrop .shm g.mem, codes := g.codes.filter fun e => decide (regionOf e.1 ≠ .shm), cap := g.cap,
    parkFault := g.parkFault, compareOff := g.compareOff, unlocked := g.unlocked, unlockedCopy := g.unlockedCopy, tap := g.tap,
    attachWait := g.attachWait }

/-- The power block after a lane reset (15 R352, Table 15.3). -/
def Power.restarted (p : Power) (t : Nat) : Power :=
  { initPower p.start t p.padLatch with
    vlow := p.vlow, vinLow := p.vinLow, wakeCause := p.wakeCause, saved := p.saved, clockLoss := p.clockLoss, wokeAt := p.wokeAt }

/-- Every unit at its state after reset, at reset release (the chapters' reset tables; 15 R353). -/
def Lane.restarted (l : Lane) (factoryOk : Bool) : Lane :=
  let vdrv := l.pw.start == 0 || l.pw.start == 5 || l.die.vdrvUv
  { l with
    relAt := l.now, regs := l.regs.filter fun e => alwaysOn e.1, status := [], sys := initSys, tl := initTimeline,
    fb := .replicate 8 (initUnit l.now), cv := initConversion factoryOk l.now, cm := .replicate 6 initCm, le := initLoops,
    sf := initSafety, port := initPort, die := initDie vdrv,
    -- DEBUG_UNLOCKED keeps the lane IMPAIRED (10 R252)
    ln := { initLaneCtl with sent := l.ln.sent, impaired := if l.unlocked then BitVec.ofNat 8 (2 ^ 5) else 0 },
    ig := l.ig.restarted, ts := l.ts.restarted factoryOk, sp := initSprue, env := initEnvelopes,
    hr := { initRings with sent := l.hr.sent }, pw := l.pw.restarted l.now }

/-- A cause that the lane kept through its reset is reported after the restart (08 Table 8.3, 10 R244): LN_CAUSE and a
request. The restarted lane is not FAILED by it (log 22). -/
def Lane.reportCause (l : Lane) (code detail : Nat) : Lane := let l := l.setCause code detail; l.request l.ln.item

/-- The lane leaves reset with the kind of start it recorded (15 R352, R353): SETUP, and SVC boot begins; an attach of PARK acts
(10 Table 10.8). -/
def Lane.release (l : Lane) (factoryOk : Bool) : Lane :=
  let kind := l.pw.start
  let l := l.restarted factoryOk
  let l := l.flagIf (!factoryOk) Reg.CV_STATUS Bit.CV_FACTORY_BAD
  let l := l.flagIf (kind == 5) Reg.PW_STATUS Bit.PW_WOKE
  (if kind = 3 ∧ l.pw.clockLoss then l.reportCause 0x0B 0 else l).attachAtWake

/-- The lane reset asserts, for a start of a kind (15 R351, R352): its Runner and Riser links are silent (01 R25), its endpoint resets, and the save record is
discarded. The gate-drive die keeps its power. -/
def Lane.enterReset (l : Lane) (kind : Nat) : Lane :=
  let l := l.endpointReset false
  ({ l with ln := { l.ln with line := .silent } } : Lane).modPw fun p =>
    { p with state := .reset, start := kind, resetAt := none, entry := none, wakeWaits := false, waking := false, saved := none,
             padLatch := false }

/-- An ordered reset is due (08 R198, 15 R351). -/
def Lane.resetDue (l : Lane) : Lane :=
  match l.pw.resetAt with
  | some (t, kind) => if t ≤ l.now then l.enterReset kind else l
  | none => l

/-- POWER_ON: VIN_x rises above VPOR (15 R349, R352): the always-on domain takes its reset values, Chill RAM reads zero and
DEBUG_UNLOCKED is clear. LSMODE_x gives the lock-step mode of the lane (10 R247). -/
def opPowerOn (l : Lane) (mirror : Bool) : Lane :=
  match l.pw.state with
  | .unpowered =>
    { l with
      regs := [], die := initDie true,
      ig := { initIntegrity mirror with mem := cellDrop .chill (cellDrop .shm l.ig.mem) },
      pw := { initPower 0 l.now false with state := .reset, bootAt := none, vdrvOn := false } }
  | .reset | .setup | .run | .doze | .park | .off => l

/-- VPOR_LOSS: VIN_x falls below VPOR (15 R351): the lane is dark; the burning of an OTP record is cut short. -/
def opVporLoss (l : Lane) : Lane :=
  let l := l.endpointReset false
  { l with
    die := initDie true, ln := { l.ln with line := .silent },
    pw := { initPower 0 l.now false with state := .unpowered, bootAt := none, vdrvOn := false } }

/-- VIN_BELOW_VRST: VIN_x has been below VRST for 64 cycles (08 R198, 15 R351): trigger 0x06, and the lane reset 32 cycles
later. A parked lane stays parked. -/
def opVrst (l : Lane) : Lane :=
  match l.pw.state with
  | .setup | .run | .doze => (l.trigger 0x06 0).modPw fun p => { p with vinLow := true, resetAt := some (l.now + 32, 1) }
  | .park | .reset => l.modPw fun p => { p with vinLow := true }
  | .unpowered | .off => l

/-- A parked lane wakes as a start of kind 5 (15 R366, R367). -/
def Lane.parkWake (l : Lane) : Lane :=
  l.modPw fun p => { p with state := .reset, start := 5, wakeWaits := false, wokeAt := some l.now }

/-- VRST_RECOVER: VIN_x has stood above VRST + 0.3 V for 1.0 ms (15 R351, R366): a lane that VRST holds in reset restarts, and a
wake that waited acts. -/
def opVrstRecover (l : Lane) (factoryOk : Bool) : Lane :=
  let l := l.modPw fun p => { p with vinLow := false }
  match l.pw.state with
  | .reset => if l.pw.start = 1 then l.release factoryOk else l
  | .park => if l.pw.wakeWaits then l.parkWake else l
  | .setup | .run | .doze | .unpowered | .off => l

/-- RESET_RELEASE: supplies, PLL and RST_N_x are good (15 R353). -/
def opRelease (l : Lane) (factoryOk : Bool) : Lane :=
  if l.pw.state == .reset && !l.pw.vinLow then l.release factoryOk else l

/-- RST_N: RST_N_x has been low and rises, a start of kind 2 that samples LSMODE_x (15 R352, Table 15.12, 10 R247); ignored in
OFF. -/
def opRstN (l : Lane) (mirror : Bool) : Lane :=
  match l.pw.state with
  | .setup | .run | .doze | .park | .reset =>
    let l := l.enterReset 2
    { l with ig := { l.ig with mirror := mirror } }
  | .unpowered | .off => l

/-- CLOCK_LOSS: the clock monitor holds the lane in reset and records it in Chill RAM (01 R25, 15 R352). -/
def opClockLoss (l : Lane) : Lane :=
  if l.alive then (l.enterReset 3).modPw fun p => { p with clockLoss := true } else l

/-- VWARN_TRIP: VIN_x has been below VWARN for WFILT (15 R350); in PARK only VLOW follows. -/
def opVwarn (l : Lane) : Lane :=
  match l.pw.state with
  | .unpowered | .off => l
  | .park | .reset => l.modPw fun p => { p with vlow := true }
  | .setup | .run | .doze => (l.modPw fun p => { p with vlow := true }).flagEvt Reg.PW_STATUS Bit.PW_VWARN 0x1E 255

/-- VWARN_CLEAR: VIN_x is above VWARN + 0.2 V (15 R350): VLOW clears, and the VWARN bit of the Sprue STATUS records with it; the
flag of PW_STATUS stays for its write-back. -/
def opVwarnClear (l : Lane) : Lane := l.modPw fun p => { p with vlow := false }

/-- SVC_BOOT_END: 0.30 ms after the reset release Shakeout test 0 begins (15 Table 15.4). -/
def opBootEnd (l : Lane) : Lane :=
  match l.pw.bootAt with
  | none => l
  | some t =>
    if elapsed l.now t 75000 && l.alive then
      { l with pw := { l.pw with bootAt := none }, ts := { l.ts with startAt := some (0, l.now) } }
    else l

/-- The lane enters RUN (15 R353): intervals of Temper begin, and start failures raise their causes once LN_AXCFG is loaded (11
R261). -/
def Lane.enterRun (l : Lane) : Lane :=
  ({ l with
    pw := { l.pw with state := .run, runAt := some l.now, saved := none },
    ts := { l.ts with tintAt := l.now, gcellAt := l.now, gcellInt := l.gateInterval, chopAt := l.now } } :
      Lane).beginTurns.raiseFails.each l.axes Lane.checkCfg

/-! Pads -/

/-- The latched pads follow their live values, and every feedback unit restarts (15 R371). -/
def Lane.padRelease (l : Lane) : Lane :=
  if !l.pw.padLatch then l
  else
    ({ l with pw := { l.pw with padLatch := false }, fb := .replicate 8 (initUnit l.now) } : Lane).flag Reg.PW_STATUS
      Bit.PW_PADS_RELEASED

/-! Low-power entry -/

/-- CLAIMING (08 Table 8.19). -/
def Lane.claiming (l : Lane) : Bool := l.ln.line == .claim || (l.ln.line == .hold && !l.ln.held)

/-- A WAIT is refused (15 R361). -/
def Lane.waitRefused (l : Lane) (mode : Nat) : Bool :=
  l.isActive || l.claiming || (l.pw.state == .setup && mode != 3) || l.ts.startAt.isSome ||
    l.ts.running.isSome || l.hr.img.state == 1 || l.hr.img.state == 2 || (l.pw.start == 5 && l.pw.saved.isSome)

/-- Step 2 of the entry sequence (15 R362). -/
def Lane.beginEntry (l : Lane) : Lane := l.sendIsolate true

/-- WAIT is written to PW_CMD (15 R361): refused, ignored with MODE RUN, or the entry sequence begins. -/
def Lane.doWait (l : Lane) : Lane :=
  let mode := l.fld Reg.PW_MODE 0 2
  if mode = 0 ∨ l.pw.entry.isSome ∨ (l.pw.state ≠ .setup ∧ l.pw.state ≠ .run) then l
  else if l.waitRefused mode then l.flag Reg.PW_STATUS Bit.PW_WAIT_REFUSED
  else
    let held := !l.ts.burns.isEmpty
    let l := l.modPw fun p =>
      { p with entry := some { mode := mode, beats := 0, isolated := false, held := held }, wakeCause := 0, wakeWaits := false }
    if held then l else l.beginEntry

/-- A WAIT that waited for OTP programming begins (15 R361). -/
def Lane.entryHeld (l : Lane) : Lane :=
  match l.pw.entry with
  | some e =>
    if e.held && l.ts.burns.isEmpty then (l.modPw fun p => { p with entry := some { e with held := false } }).beginEntry else l
  | none => l

/-- LOW_POWER_ENTRY_ISOLATED: the LEVELS word that confirms isolation arrives (15 R362). -/
def opIsolated (l : Lane) : Lane :=
  match l.pw.entry with
  | some e =>
    if !e.held && l.port.levelsSeen && bit l.port.levels 26 then
      l.modPw fun p => { p with entry := some { e with isolated := true } }
    else l
  | none => l

/-- An offset that a REG entry may name (15 R358): a register with an RW, RWK or RWL field, the exceptions apart. -/
def regEntryOk (off : Nat) : Bool :=
  match regRow? off with
  | none => false
  | some r =>
    r.fields.any (fun f => !f.acc.writeOnly) && !(decide (0x7000 ≤ off) && decide (off < 0x7800)) &&
      off != Reg.TL_EVT_SEL && !(decide (0x1010 ≤ off) && decide (off < 0x1028)) && off != Reg.LE_WSEL && off != Reg.LE_WDATA &&
      off != Reg.SP_TWSEL 0 && off != Reg.SP_TWSEL 1 && off != Reg.SP_TWDATA 0 && off != Reg.SP_TWDATA 1 && off != Reg.PW_MODE

/-- A register of the save list (15 Table 15.11). -/
def savedReg (off : Nat) : Bool :=
  regEntryOk off && ((decide (0x1000 ≤ off) && decide (off < 0x7000)) || decide (0x7800 ≤ off)) && !alwaysOn off

/-- The save record that PARK entry writes (15 R368). -/
def Lane.saveRec (l : Lane) : SaveRec :=
  { imageId := l.pw.imgId, stepping := Config.stepping, regs := l.regs.filter fun e => savedReg e.1, entries := l.tl.entries,
    banks := l.le.banks, empty := l.le.empty.toNat, sched := l.sp.sched }

/-- DOZE begins: converters, loops and the other gated islands stop (15 R362 to R364, 04 R110, 11 R273). -/
def Lane.enterDoze (l : Lane) : Lane :=
  let l := l.stopShadow
  { l with
    pw := { l.pw with state := .doze, entry := none },
    cv := { l.cv with flights := [], reqs := [], run := none, monEntry := 0, monDesc := 0, monAt := none },
    ts := { l.ts with pausedAt := some l.now, cell := none, chopTest := none } }

/-- PARK begins (15 R362, R368, R370). -/
def Lane.enterPark (l : Lane) : Lane :=
  let s := l.saveRec
  let l := l.endpointReset false
  { l with die := initDie true,
           ln := { l.ln with line := .silent },
           pw := { l.pw with state := .park, entry := none, saved := some s, padLatch := true, vdrvOn := false } }

/-- OFF begins (15 R362, R365). -/
def Lane.enterOff (l : Lane) : Lane :=
  let l := l.endpointReset false
  { l with die := initDie true, ln := { l.ln with line := .silent },
           pw := { l.pw with state := .off, entry := none, padLatch := true, vdrvOn := false } }

/-- A wake from DOZE begins: the gated islands power up (15 R366, R367). -/
def Lane.dozeWake (l : Lane) : Lane :=
  (l.modPw fun p => { p with waking := true, wakeWaits := false, wokeAt := some l.now }).flag Reg.PW_STATUS Bit.PW_WOKE

/-- The entry sequence ends once isolation stands, for PARK and OFF after two more RESTING heartbeats (15 R362); a wake that fired
meanwhile acts at once (15 R366). -/
def Lane.entryDone (l : Lane) : Lane :=
  match l.pw.entry with
  | none => l
  | some e =>
    if !e.isolated ∨ (e.mode ≠ 1 ∧ e.beats < 2) then l
    else
      match e.mode with
      | 1 => let l := l.enterDoze; if l.pw.wakeWaits then l.dozeWake else l
      | 2 => let l := l.enterPark; if l.pw.wakeWaits then l.parkWake else l
      | _ => l.enterOff

/-! Wake -/

/-- A wake source fires: 0 pin, 1 Sprue A, 2 Sprue B, 3 PPS, 4 PW_CMD.WAKE (15 R366). -/
def Lane.wake (l : Lane) (src : Nat) : Lane :=
  let mark := fun (l : Lane) => l.modPw fun p => { p with wakeCause := p.wakeCause ||| BitVec.ofNat 6 (2 ^ src) }
  let same : Bool := match l.pw.wokeAt with | some t => decide (l.now < t + 250) | none => false
  if l.pw.entry.isSome then (mark l).modPw fun p => { p with wakeWaits := true }
  else
    match l.pw.state with
    | .doze => if l.pw.waking then (if same then mark l else l) else (mark l).dozeWake
    | .park =>
      if src = 4 then l
      else if l.pw.vinLow then
        (mark l).modPw fun p => { p with wakeCause := p.wakeCause ||| 0x20, wakeWaits := true }
      else (mark l).parkWake
    | .reset => if l.pw.start = 5 ∧ same ∧ src ≠ 4 then mark l else l
    | .setup | .run | .unpowered | .off => l

/-- WAKE_PIN: WAKE_x has stood at its WK_POL level for 10 µs (15 Table 15.10). -/
def opWakePin (l : Lane) : Lane := if l.rbit Reg.PW_WAKE 31 then l.wake 0 else l

/-- WAKE_SPRUE: a dominant level of at least DOM on Sprue b (15 Table 15.10). -/
def opWakeSprue (l : Lane) (b : Nat) : Lane := if b < 2 ∧ l.rbit Reg.PW_WAKE (29 - b) then l.wake (1 + b) else l

/-- WAKE_PPS: the PPSN-th PPS edge after the entry (15 Table 15.10). -/
def opWakePps (l : Lane) : Lane := if l.fld Reg.PW_WAKE 0 16 = 0 then l else l.wake 3

/-- Temper's intervals continue at the positions they had reached (11 R273). -/
def Temper.resumed (t : Temper) (now : Nat) : Temper :=
  match t.pausedAt with
  | none => t
  | some p => { t with pausedAt := none, tintAt := t.tintAt + (now - p), gcellAt := t.gcellAt + (now - p), chopAt := t.chopAt + (now - p) }

/-- DOZE_WAKE_COMPLETE: the gated islands run again and the lane returns to RUN, as SPARE or by its health (15 R367). The
islands come out of reset (15 R364); the isolation of the entry ends (DEDUCED, log 22). -/
def opDozeWake (l : Lane) : Lane :=
  if l.pw.state != .doze || !l.pw.waking then l
  else
    let l : Lane := { l with
      pw := { l.pw with state := .run, waking := false, runAt := some l.now },
      ts := l.ts.resumed l.now,
      cm := .replicate 6 initCm, le := { l.le with axis := .replicate 6 initLoopAxis }, sf := initSafety,
      ln := { l.ln with role := if l.ln.failed then .withdrawn else .spare, axisGot := 0, laneGot := false },
      cv := { l.cv with resumeAt := l.now } }
    let l := l.beginTurns
    if l.ln.failed then l else l.sendIsolate false

/-! Restore -/

/-- The items of a save record are written back in SETUP (15 R368, R369): registers with GD_DT as its one write, event table,
banks, schedules; the gate-drive die gets its words (07 R184). -/
def Lane.restoreItems (l : Lane) (s : SaveRec) : Lane :=
  let l := (s.regs.filter fun e => savedReg e.1).foldl (fun l e => l.setReg e.1 e.2) l
  let l : Lane := { l with
    le := { l.le with banks := s.banks, empty := BitVec.ofNat 12 s.empty },
    sp := { l.sp with sched := s.sched }, port := { l.port with dtLocked := true },
    ts := { l.ts with gcellAt := l.now } }
  let l := l.each (List.range 8) fun l i => l.recheck (i / 4) (i % 4)
  let l := s.entries.foldl (fun l e =>
    l.commitEntry e.1 { initEntry with w0 := e.2.w0, w1 := e.2.w1, w2 := e.2.w2, w3 := e.2.w3, w4 := e.2.w4, w5 := e.2.w5,
                                       commitAt := l.now }) l
  l.sendAllCfg

/-- RESTORE_SAVE_LIST: the check of the save record after a wake from PARK (15 R369, 10 R244). The verdict of the codes over
Chill RAM: 0 clean, 1 an inner UE, 2 an outer-code error, 3 the record's own CRC fails. -/
def opRestore (l : Lane) (verdict : Nat) : Lane :=
  if l.pw.state != .setup || l.pw.start != 5 || !l.ts.done || l.pw.restored then l
  else
    let fault := match l.ig.parkFault with
      | some c => some c
      | none => if verdict = 1 then some 0x02 else if verdict = 2 then some 0x03 else none
    match l.pw.saved, fault, decide (verdict = 3) with
    | some s, none, false =>
      let l := (l.restoreItems s).modPw fun p => { p with restored := true, imgId := s.imageId }
      let l := l.enterRun
      if l.rbit Reg.PW_VCFG 31 then l.padRelease else l
    | some _, some c, _ =>
      let l := if l.ig.parkFault.isSome then l
        else (l.took.captureUe (if c = 2 then 1 else 2) 0x0F 0x20000000 false true l.freeVal)
      let l := { l with ig := { l.ig with parkFault := none } }
      let l := (l.modPw fun p => { p with saved := none }).flag Reg.PW_STATUS Bit.PW_RESTORE_FAIL
      l.reportCause c 0
    | _, _, _ => (l.modPw fun p => { p with saved := none }).flag Reg.PW_STATUS Bit.PW_RESTORE_FAIL

end Sys2Proof.Machine
end

