-- ==== Sys2Proof/Machine/State.lean ====
section
/-! DEFINITION. The state of the block: three lanes as plain data and the queue of waiting commands; why a step may stop; and the
state after reset. -/

namespace Sys2Proof.Machine

/-- The block: the three lanes of the module (00 R1, 01 R16) and the commands that wait, first in, first out. -/
structure State where
  /-- Lane A. -/
  a : Lane
  /-- Lane B. -/
  b : Lane
  /-- Lane C. -/
  c : Lane
  /-- Lane A as it stood at the start of its present cycle, which is what a read in that cycle returns. 16 R376. -/
  aWas : Lane
  /-- Lane B as it stood at the start of its present cycle. 16 R376. -/
  bWas : Lane
  /-- Lane C as it stood at the start of its present cycle. 16 R376. -/
  cWas : Lane
  /-- MODEL'S OWN: the commands that wait, the oldest first. Reset empty. -/
  pending : List Instr
  deriving DecidableEq, Repr

/-- Why a command stops with a fault. -/
inductive Fault where
  /-- Raised by no command: one whose operand names a unit, entry, peer, bus, connection or register that no lane has (it is not
  `Instr.wf`) only lets time pass (log 25). SAFE: nothing stops here. -/
  | noSuchUnit
  deriving DecidableEq, Repr

/-- Why a command is refused. -/
inductive Refusal where
  /-- Raised by a command that the model gives no meaning yet, named by its mnemonic. SAFE: it answers no state. -/
  | notModelled (mnemonic : String)
  deriving DecidableEq, Repr

/-- A lane at the release of its power-on reset (15 R352, R353): SETUP, START 0, and SVC boot begins. LSMODE_x is low and the factory
records are good (log 23). -/
def initLane (id : LaneId) : Lane :=
  { id := id, now := 0, relAt := 0, free := 0, regs := [], status := [], sys := initSys, tl := initTimeline,
    fb := .replicate 8 (initUnit 0), cv := initConversion true 0, cm := .replicate 6 initCm, le := initLoops, sf := initSafety,
    port := initPort, die := initDie true, ln := initLaneCtl, ig := initIntegrity false,
    ts := { initTemper with factoryOk := true }, sp := initSprue, env := initEnvelopes, hr := initRings,
    head := initHead id, pw := initPower 0 0 false }

/-- The block right after reset: every lane has just left its power-on reset, and no command waits. -/
def State.reset : State :=
  { a := initLane .a, b := initLane .b, c := initLane .c, aWas := initLane .a, bWas := initLane .b, cWas := initLane .c,
    pending := [] }

end Sys2Proof.Machine
end

