-- ==== Sys2Proof/Machine/Advance.lean ====
section
/-! DEFINITION. What surrounds every command: time passes in its lane, what is due acts, the command acts, and what follows at once
settles. -/

namespace Sys2Proof.Machine

/-- Time passes: with its clock running the lane's timeline moves; without, only the count of cycles (02 R44, R46, 15 Table
15.9). -/
def Lane.advance (l : Lane) (d : Nat) : Lane := if l.alive then l.tick d else { l with now := l.now + d }

/-- The module condition and the role follow what the lane hears (08 R190, R194, R196, R204, R210). -/
def Lane.settleRoles (l : Lane) : Lane :=
  l.condFall.joinRole.silentRelease.handBack.promoted.promote.becomeActive.leaveAtTr.quenchSync.deferredRetry

/-- A deferred cause of a lane without the token, or one that has given it up, settles its role (08 R197). -/
def Lane.settleCause (l : Lane) : Lane := if l.ln.line == .hold then l else l.settleRole

/-- What else follows in the same cycle: the paths and the views, the axes without commands, Temper and Shakeout, the Sprue ports, a
low-power entry and the profile (08 R209, R211, 13 R316, 11 R262, R274, 12 R295, 15 R361, R362, 09 R218). -/
def Lane.settleRest (l : Lane) (wasActive : Bool) : Lane :=
  let l := l.pathEdges.viewWatch
  let l := l.withoutSync (l.isActive && !wasActive)
  let l := l.clockStep.sensorsClear.settleCause.nextTest
  ((l.spWatch 0).spWatch 1).entryHeld.entryDone.profileSync

/-- What follows a command at once, in a lane whose logic runs. -/
def Lane.settle (l : Lane) (wasActive : Bool) : Lane :=
  (if l.alive then l.settleRoles.settleRest wasActive else l).resetDue

/-- A command acts only while the lane's logic runs: SETUP, RUN and DOZE (15 Table 15.9). -/
def Lane.whenAlive (l : Lane) (f : Lane → Lane) : Lane := if l.alive then f l else l

/-- A command acts only while the islands that DOZE gates run (15 Table 15.9, R364). -/
def Lane.whenAwake (l : Lane) (f : Lane → Lane) : Lane := if l.awake then f l else l

/-- A command acts only while the lane has power (15 R349, R351). -/
def Lane.whenPowered (l : Lane) (f : Lane → Lane) : Lane := if l.pw.state = .unpowered then l else f l

/-- A command of an input pad acts only while its receiver is not latched (15 R370). -/
def Lane.whenPads (l : Lane) (f : Lane → Lane) : Lane := if l.alive && !l.pw.padLatch then f l else l

/-- One lane of the block. -/
def State.lane (s : State) : LaneId → Lane
  | .a => s.a
  | .b => s.b
  | .c => s.c

/-- One lane of the block at the start of its present cycle (16 R376). -/
def State.wasLane (s : State) : LaneId → Lane
  | .a => s.aWas
  | .b => s.bWas
  | .c => s.cWas

/-- The block with one lane, and its start of the cycle, replaced. -/
def State.setLane (s : State) (k : LaneId) (was l : Lane) : State :=
  match k with
  | .a => { s with a := l, aWas := was }
  | .b => { s with b := l, bWas := was }
  | .c => { s with c := l, cWas := was }

/-- The tests whose end has come in a lane whose logic runs: a gate cell's, and the missing-phase test (11 R264, 05 R128). -/
def Lane.testsDue (l : Lane) : Lane := if l.alive then l.cellDone.phasesDue else l

/-- The lane that a header names, its cycles later, with what fell due before the command: the slots of the Runner block in
progress, the tests that end and an ordered reset. -/
@[irreducible] def State.arrive (s : State) (h : Hdr) : Lane := ((s.lane h.lane).advance h.dt).fillDue.testsDue.resetDue

/-- The lane that a header names at the start of the cycle of its command: as it arrives there, and as it stood before the
other commands of that cycle (16 R376). -/
def State.start (s : State) (h : Hdr) : Lane := if h.dt = 0 then s.wasLane h.lane else s.arrive h

/-- The block after a command that left the lane of its header as `l`: the lane settles (`was`: it was ACTIVE before). -/
def State.put (s : State) (h : Hdr) (was : Bool) (l : Lane) : State := s.setLane h.lane (s.start h) (l.settle was)

/-- A command's effect on the lane that its header names. -/
def State.onLane (s : State) (h : Hdr) (f : Lane → Lane) : Host.Outcome State Fault Refusal :=
  .next (s.put h (s.arrive h).isActive (f (s.arrive h)))

end Sys2Proof.Machine
end

