-- ==== Sys2Proof/Machine/RegWrite.lean ====
section
/-! DEFINITION. Register reads and writes: landing, the key, refusals and what each write does (16 R374 to R387; the register
tables of the chapters). -/

namespace Sys2Proof.Machine

/-- The lane with its key, refusal and latch state changed. -/
def Lane.modSys (l : Lane) (f : Sys → Sys) : Lane := { l with sys := f l.sys }

/-- A requester reaches the registers: out of reset, and for the host the endpoint answers BAR0 (14 R322, R343, 15 Table 15.9). -/
def Lane.reaches (l : Lane) (q : Requester) : Bool :=
  match q with
  | .host => l.alive && l.hr.dlActive && l.hr.mse && !l.hr.d3hot
  | .internal => l.alive

/-! Fields -/

/-- A window data register, whose accepted writes always store (16 R377). -/
def windowReg (off : Nat) : Bool :=
  off == Reg.LE_WDATA || (decide (0x1010 ≤ off) && decide (off < 0x1028)) || off == Reg.SP_TWDATA 0 || off == Reg.SP_TWDATA 1

/-- The WO fields of a row read zero (16 R377, 00 R13). -/
def storedWord (fs : List Fld) (new : Word) : Word :=
  fs.foldl (fun w f => if f.acc.writeOnly then setField w f.lo f.width 0 else w) new

/-- What a register holds before a write: its stored fields, with its WO fields at zero; VALID of IG_UEINFO stands in the capture
(10 Table 10.15), and the windows show what they address. -/
def Lane.held (l : Lane) (off : Nat) (fs : List Fld) : Word :=
  storedWord fs (if off = Reg.IG_UEINFO then pack [(b2n l.ig.cap.valid, 24)] else l.reg off)

/-- The lower refusal code; 0 stands for none (16 R387). -/
def lowerCode (a b : Nat) : Nat := if a = 0 then b else if b = 0 then a else min a b

/-- What the writer may do: its key, the RUN lock in force, and whether equal fields count as written (16 R377). -/
structure Landing where
  keyed : Bool
  run : Bool
  always : Bool
  deriving DecidableEq, Repr

/-- One field of a write (16 R377): the register's word so far and the lowest refusal code so far. -/
def Landing.field (c : Landing) (old v : Word) (acc : Word × Nat) (f : Fld) : Word × Nat :=
  let nv := Sys2Proof.field v f.lo f.width
  let ov := if f.acc.writeOnly then 0 else Sys2Proof.field old f.lo f.width
  if nv = ov ∧ !c.always then acc
  else if f.acc.keyed ∧ !c.keyed then (acc.1, lowerCode acc.2 1)
  else if f.acc.runLocked ∧ c.run then (acc.1, lowerCode acc.2 2)
  else (setField acc.1 f.lo f.width nv, acc.2)

/-- Every field of a write under its own access code (16 R377): the word that would stand, WO bits among it, and the lowest
refusal code. -/
def Landing.fields (c : Landing) (fs : List Fld) (old v : Word) : Word × Nat := fs.foldl (c.field old v) (old, 0)

/-! Refusals by value and by state -/

/-- A value its register refuses by its own rule (16 R378). -/
def Lane.valueRefused (l : Lane) (off : Nat) (new : Word) : Bool :=
  if off = Reg.GD_OV then
    !(decide (Sys2Proof.field new 0 10 < Sys2Proof.field new 10 10) && decide (Sys2Proof.field new 10 10 < Sys2Proof.field new 20 10))
  else if off = Reg.PW_VTH then decide (Sys2Proof.field new 16 10 < Sys2Proof.field new 0 10 + 5)
  else if off = Reg.GD_DT then decide (4 < Sys2Proof.field new 0 3)
  else if off = Reg.IG_INJ then
    decide (Sys2Proof.field new 0 4 = 6) && decide (0x0A < (l.reg Reg.IG_INJADDR).toNat)
  else false

/-- A ring can be enabled (14 Table 14.13, 13 R309): SIZE, addresses, its connection, and CPL before CMD. -/
def Lane.ringReady (l : Lane) (k : Nat) (new : Word) : Bool :=
  let size := l.fld (Reg.HR_RING_LO k) 0 4
  decide (4 ≤ size) && decide (size ≤ 12) && l.addr64 Reg.HR_DBLO Reg.HR_DBHI != 0 && l.addr64 Reg.HR_IXLO Reg.HR_IXHI != 0 &&
    l.ringConn k != 15 && (k != 0 || bit new 1)

/-- A LOAD is accepted (14 R344, 15 R354). -/
def Lane.loadOk (l : Lane) : Bool :=
  let len := l.fld Reg.HR_IMG_LEN 0 19
  l.ln.role == .offline && l.ts.done && l.hr.img.state != 1 && l.hr.img.state != 2 && decide (64 ≤ len) && decide (len ≤ 262144) &&
    len % 4 == 0

/-- A write refused for the state of the lane or block (16 Table 16.1; 07 R167, 08 Table 8.23, 10 R255, 14 Table 14.13, 15
R371). -/
def Lane.stateRefused (l : Lane) (off : Nat) (old new : Word) : Bool :=
  if off = Reg.GD_DT then l.port.dtLocked && new != old
  else if off = Reg.IG_INJ then l.isActive && new != 0
  else if off = Reg.LN_CMD then l.isActive && Sys2Proof.field new 0 2 == 2
  else if off = Reg.HR_CTRL then (List.range 4).any fun k => bit new k && !bit old k && !l.ringReady k new
  else if off = Reg.HR_IMGCMD then bit new 0 && !l.loadOk
  else if off = Reg.PW_PADREL then bit new 0 && !l.ts.done
  else if (Reg.HR_IMG_LO ≤ off ∧ off ≤ Reg.HR_IMG_LEN) then
    new != old && (l.hr.img.state == 1 || l.hr.img.state == 2)
  else if (Reg.HR_DBLO ≤ off ∧ off ≤ Reg.HR_IXHI) ∨ (0x7040 ≤ off ∧ off < 0x7080) then
    new != old && l.fld Reg.HR_CTRL 0 4 != 0
  else false

/-! What an accepted write does -/

/-- The unit of a per-unit register, with its offset in the unit. -/
def unitAt (base stride count off : Nat) : Option (Nat × Nat) :=
  if base ≤ off ∧ (off - base) / stride < count then some ((off - base) / stride, (off - base) % stride) else none

/-- A write of TL_PTn_CFG (02 R43): a timebase of another source waits for its first event, and CPR 0 leaves it unsynchronised. -/
def Lane.wrotePtCfg (l : Lane) (n : Nat) (old new : Word) : Lane :=
  if Sys2Proof.field new 0 16 = 0 ∨ Sys2Proof.field new 16 2 ≠ Sys2Proof.field old 16 2 then l.unsyncPt n else l

/-- A write in the timeline block (02 R43, R49, R52); after a change of TL_WCFG.SRC no PPS edge is expected until one is accepted
(02 R47). -/
def Lane.wroteTl (l : Lane) (off : Nat) (old new : Word) : Lane :=
  if off = Reg.TL_EVT_CMD then
    match Sys2Proof.field new 0 2 with
    | 1 => l.evtRead
    | 2 => l.evtCommit
    | _ => l
  else if off = Reg.TL_TACCEPT then
    match Sys2Proof.field new 0 2 with
    | 1 => l.acceptSlew
    | 2 => l.acceptStep
    | _ => l
  else if off = Reg.TL_WCFG ∧ Sys2Proof.field new 0 3 ≠ Sys2Proof.field old 0 3 then
    l.modTl fun t => { t with ppsMissed := true }
  else
    match unitAt 0x1040 0x20 8 off with
    | some (n, 0x00) => l.wrotePtCfg n old new
    | _ => l

/-- A write in the feedback block (03 R70, R85): ARM and DISARM, clears, and sources that are enabled start from their state
after reset. -/
def Lane.wroteFb (l : Lane) (off : Nat) (old new : Word) : Lane :=
  match unitAt 0x1880 0x80 8 off with
  | none => l
  | some (n, 0x00) =>
    let l := if bit new 6 && !bit old 6 then l.modUnit n fun u => { u with hall := initHall } else l
    if bit new 7 && !bit old 7 then l.modUnit n fun u => { u with sent := initSent l.now } else l
  | some (n, 0x08) =>
    match Sys2Proof.field new 0 2 with
    | 1 => (l.armIndex n).1
    | 2 => l.disarmIndex n
    | _ => l
  | some (n, 0x0C) => l.modUnit n fun u => { u with cnt := { u.cnt with idxValWas := noteWas l.now u.cnt.idxValWas old } }
  | some (n, 0x34) => l.fclr n (Sys2Proof.field new 0 3)
  | some _ => l

/-- A write in the conversion block (04 R93, R110). -/
def Lane.wroteCv (l : Lane) (off : Nat) : Lane :=
  if off = Reg.CV_ROT then l.rotWritten
  else if 0x2040 ≤ off ∧ off < 0x2080 then l.seqOverlap ((off - 0x2040) / 4)
  else l

/-- A write of CM_CFGn (05 R117), CM_CMDn (05 R129) or LE_CMDn (06 R153). -/
def Lane.wroteAxis (l : Lane) (off : Nat) (new : Word) : Lane :=
  match unitAt 0x2840 0x80 6 off with
  | some (n, 0x00) => l.checkCfg n
  | some (n, 0x2C) =>
    (match Sys2Proof.field new 0 2 with
    | 1 => (l.startAxis n none).2
    | 2 => l.cmdStop (2 ^ n)
    | _ => l)
  | _ =>
    match unitAt 0x3100 0x40 6 off with
    | some (n, 0x10) => if Sys2Proof.field new 0 2 = 1 then l.loopZero n else l
    | _ => l

/-- A write in the gate-drive block (07 R167, R174, R178, R184). -/
def Lane.wroteGd (l : Lane) (off : Nat) (new : Word) : Lane :=
  if off = Reg.GD_FCLR then l.sendFclr new
  else
    let l := if off = Reg.GD_DT then { l with port := { l.port with dtLocked := true } } else l
    let i := (off - 0x4000) / 4
    if shadowIndices.contains i && i != 11 then l.sendCfg i else l

/-- A write in the lane and takeover block (08 R197, R203, R214, 07 R184, 11 R261). -/
def Lane.wroteLn (l : Lane) (off : Nat) (new : Word) : Lane :=
  if off = Reg.LN_AXCFG then (l.sendCfg 11).raiseFails
  else if off = Reg.LN_CMD then
    match Sys2Proof.field new 0 2 with
    | 1 => l.askHandover.2
    | 2 => l.modPw fun p => { p with resetAt := some (l.now, 4) }
    | 3 => l.ackSilent.2
    | _ => l
  else l

/-- A write in the safety or envelope block (09 R217, R218, R229, 13 Table 13.6). -/
def Lane.wroteSf (l : Lane) (off : Nat) (old new : Word) : Lane :=
  if off = Reg.SF_CTRL then l.profileSync
  else if off = Reg.SF_CMD then l.resumeAxes (Sys2Proof.field new 0 6)
  else
    match unitAt 0x5440 0x20 15 off with
    | some (k, 0x0C) => opEnvWatchdog l k
    | some (k, 0x08) => l.wroteLimits k old
    | some _ => l
    | none => if off < 0x5400 then l.relimitAll else l

/-- A write in the integrity, Temper or power block (10 R240, R255, 11 R262, 15 R361, R366, R371). -/
def Lane.wroteMisc (l : Lane) (off : Nat) (new : Word) : Lane :=
  if off = Reg.IG_UEINFO then (if bit new 24 then l else l.releaseUe)
  else if off = Reg.IG_INJ then l.inject (Sys2Proof.field new 0 4)
  else if off = Reg.TS_CMD then l.shakeCmd (Sys2Proof.field new 0 17)
  else if off = Reg.TS_BG then l.modTs fun t => { t with gcellInt := l.gateInterval }
  else if off = Reg.PW_CMD then
    let l := if bit new 0 then l.doWait else l
    if bit new 1 then l.wake 4 else l
  else if off = Reg.PW_PADREL then (if bit new 0 then l.padRelease else l)
  else l

/-- An image load starts: the first read of up to 512 bytes is issued (14 R344). -/
def Lane.startLoad (l : Lane) : Lane :=
  let len := l.fld Reg.HR_IMG_LEN 0 19
  (l.modHr fun r => { r with img := { state := 1, reason := 0, fetched := 0, issued := l.now, checked := [] } }).readReq
    (l.addr64 Reg.HR_IMG_LO Reg.HR_IMG_HI) (min 512 len)

/-- A write in the host-rings block or the MSI-X table (14 R329, R344, R346). -/
def Lane.wroteHr (l : Lane) (off : Nat) (old new : Word) : Lane :=
  if off = Reg.HR_CTRL then
    Lane.drainEvt 257 <|
      l.each ((List.range 4).filter fun k => bit new k && !bit old k) fun l k => l.modRing k fun r => { r with dev := 0, host := 0 }
  else if off = Reg.HR_IMGCMD then (if bit new 0 then l.startLoad else l)
  else
    match unitAt 0x7400 0x10 16 off with
    | some (v, 0xC) => if bit old 0 && !bit new 0 then l.unmasked v else l
    | _ => l

/-- What an accepted write does beyond the fields it stores, by block. -/
def Lane.wrote (l : Lane) (off : Nat) (old new : Word) : Lane :=
  if off < 0x1800 then l.wroteTl off old new
  else if off < 0x2000 then l.wroteFb off old new
  else if off < 0x2800 then l.wroteCv off
  else if off < 0x4000 then l.wroteAxis off new
  else if off < 0x4800 then l.wroteGd off new
  else if off < 0x5000 then l.wroteLn off new
  else if off < 0x5800 then l.wroteSf off old new
  else if off < 0x6800 then l.wroteMisc off new
  else if off < 0x7000 then l
  else if off < 0x7800 then l.wroteHr off old new
  else l.wroteMisc off new

/-- A timebase offset: its index (02 R45). -/
def offsetReg (off : Nat) : Option Nat :=
  match unitAt 0x1040 0x20 8 off with
  | some (n, 0x08) => some n
  | _ => none

/-- An accepted write takes effect: windows and requests act by their own rules (06 R148, 12 R293, Table 12.10, 02 R45); every
other register stores its word. -/
def Lane.accept (l : Lane) (off : Nat) (fs : List Fld) (old new : Word) : Lane :=
  if off = Reg.LE_WDATA then l.windowWrite new
  else if off = Reg.SP_TWDATA 0 ∨ off = Reg.SP_TWDATA 1 then l.tableWrite ((off - 0x6800) / 0x400) new
  else if off = Reg.SP_MODE 0 ∨ off = Reg.SP_MODE 1 then l.pendWrite ((off - 0x6800) / 0x400) new
  else if off = Reg.IG_UEINFO then l.wrote off old new
  else
    match offsetReg off with
    | some n => l.offsetWrite n new
    | none => (l.setReg off (storedWord fs new)).wrote off old new

/-! Landing -/

/-- A write lands on a register with writable fields (16 R377, R378): the lane, and the refusal code, 0 for none. -/
def Lane.landFields (l : Lane) (keyed : Bool) (off : Nat) (fs : List Fld) (v : Word) : Nat × Lane :=
  let old := l.held off fs
  let first := off == Reg.GD_DT && !l.port.dtLocked && keyed && !l.inRun
  let c : Landing := { keyed := keyed, run := l.inRun, always := windowReg off || first }
  let r := c.fields fs old v
  let bad := if l.valueRefused off r.1 then 3 else if l.stateRefused off old r.1 then 4 else 0
  let l' := if off = Reg.GD_OV ∧ bad = 3 then l.flag Reg.GD_STATUS Bit.GD_OV_ORDER else l
  if bad ≠ 0 then (lowerCode r.2 bad, l')
  else if r.1 = old ∧ (!c.always ∨ r.2 ≠ 0) then (r.2, l)
  else (r.2, l.accept off fs old r.1)

/-- The token of a requester (16 R381). -/
def StatusReg.tok (r : StatusReg) (q : Requester) : Option (BitVec 8) := if q.isHost then r.hostTok else r.intTok

/-- A requester's token as it stood before the events of this cycle, where there were any (16 R383). -/
def StatusReg.tokWas (r : StatusReg) (q : Requester) (now : Nat) : Option (BitVec 8) :=
  if r.cyc = some now then (if q.isHost then r.hostWas else r.intWas) else none

/-- A status write-back (16 R382): with a FRESH token and its SEQ the named flags clear; LN_REPLACE acknowledges. One that
meets events of its own cycle is judged by the token from before them, and what they set stands (16 R383). -/
def Lane.writeBack (l : Lane) (q : Requester) (off : Nat) (v : Word) : Lane :=
  let r := l.stat off
  if r.tok q = some (BitVec.ofNat 8 (Sys2Proof.field v 24 8)) then
    (if off = Reg.LN_REPLACE then l.modLn fun n => { n with level := 0, item1 := 0, item2 := 0 }
     else l.setStat off { r with flags := r.flags &&& ~~~(v &&& 0x00FFFFFF) })
  else if r.tok q = none ∧ r.tokWas q l.now = some (BitVec.ofNat 8 (Sys2Proof.field v 24 8)) then
    (if off = Reg.LN_REPLACE then l
     else l.setStat off { r with flags := r.flags &&& ~~~(v &&& 0x00FFFFFF &&& ~~~r.fresh) })
  else l.modSys fun s => { s with stale := satAdd 0xFFFF s.stale 1 }

/-- A requester's key is armed (16 R384). -/
def Lane.keyOf (l : Lane) (q : Requester) : Bool := if q.isHost then l.sys.keyHost else l.sys.keyInt

/-- A requester's key is set. -/
def Lane.setKey (l : Lane) (q : Requester) (b : Bool) : Lane :=
  l.modSys fun s => if q.isHost then { s with keyHost := b } else { s with keyInt := b }

/-- SYS_KEY is written (16 R384). -/
def Lane.keyWrite (l : Lane) (q : Requester) (v : Word) : Lane :=
  if v = 0xC1E7 then l.setKey q true
  else ((l.setKey q false).modSys fun s => { s with badKeys := satAdd 0xFF s.badKeys 1 }).flag Reg.SYS_LSTATUS Bit.SYS_KEY_BAD

/-- A write that has passed its byte enables lands on a location other than SYS_KEY, with the key it found (16 R377, R384). -/
def Lane.landAt (l : Lane) (q : Requester) (keyed : Bool) (off : Nat) (v : Word) : Lane :=
  match (if off % 4 = 0 ∧ off < 0x8000 then regRow? off else none) with
  | none => l
  | some r =>
    if r.status then l.writeBack q off v
    else
      match l.landFields keyed off r.fields v with
      | (0, l) => l
      | (code, l) => l.refuse q.isHost off code

/-- A register write lands (16 R374 to R387). -/
def Lane.landWrite (l : Lane) (off : Nat) (w : Wr) : Lane :=
  if !l.reaches w.req then l
  else if w.be ≠ 0xF then l.refuse w.req.isHost off 5
  else if off = Reg.SYS_KEY then l.keyWrite w.req w.val
  else (l.setKey w.req false).landAt w.req (l.keyOf w.req) off w.val

/-- A write of the SVC with its own key (16 R385): the refusal code, and the lane. -/
def Lane.svcWrite (l : Lane) (off : Nat) (v : Word) : Nat × Lane :=
  match regRow? off with
  | none => (0, l)
  | some r => if r.status then (0, l) else l.landFields true off r.fields v

/-! Reads -/

/-- A read returns what the register held at the start of its cycle, `was` (16 R376). -/
def Lane.readVal (l was : Lane) (q : Requester) (off : Nat) : Lane :=
  l.modSys fun s => { s with lastRead := some { host := q.isHost, off := off, value := was.readReg q.isHost off } }

/-- What a clearing read leaves of a count: what its own cycle has added (16 R379). -/
def carried (was now : Nat) : Nat := now - was

/-- What a clearing read leaves of a largest value: one that its own cycle has brought (16 R379). -/
def carriedMax (was now : Nat) : Nat := if now = was then 0 else now

/-- A read of FB_SENTSn clears NEW (03 Table 3.27), unless its own cycle has brought a message. -/
def Lane.serRead (l was : Lane) (n : Nat) : Lane :=
  let old := (was.unit n).sent.serNew
  l.modUnit n fun u => { u with sent := { u.sent with serNew := u.sent.serNew && !old } }

/-- A read of SYS_CLKLO latches CLKHI for its requester (16 Table 16.8). -/
def Lane.latchClk (l : Lane) (q : Requester) : Lane :=
  let hi := BitVec.ofNat 32 (l.clk / 2 ^ 32)
  l.modSys fun s => if q.isHost then { s with clkHiHost := hi } else { s with clkHiInt := hi }

/-- A read of TL_WSEC_LO latches SEC_HI and NS of the same cycle (02 Table 2.20). -/
def Lane.latchWclk (l was : Lane) : Lane :=
  l.modTl fun t => { t with latchHi := secOf was.wns / 2 ^ 32 % 65536, latchNs := nsOf was.wns }

/-- The token of a status register after a read (16 R381): FRESH with the SEQ returned, unless an event of the same cycle has
made it STALE (16 R383). -/
def Lane.readToken (l was : Lane) (q : Requester) (off : Nat) : Lane :=
  let r := l.stat off
  let seq := some (was.stat off).seq
  if r.cyc = some l.now ∧ r.seq ≠ (was.stat off).seq then
    l.setStat off (if q.isHost then { r with hostWas := seq } else { r with intWas := seq })
  else l.setStat off (if q.isHost then { r with hostTok := seq } else { r with intTok := seq })

/-- What a read of a register changes (16 R376, R379, R381). -/
def Lane.readEffect (l was : Lane) (q : Requester) (off : Nat) : Lane :=
  if isStatusReg off then l.readToken was q off
  else if off = 0x0024 then l.latchClk q
  else if off = 0x1200 then l.latchWclk was
  else if off = 0x1034 then l.modTl fun t => { t with perrMax := carriedMax was.tl.perrMax t.perrMax }
  else if off = 0x2010 then l.modCv fun c => { c with jitMax := carriedMax was.cv.jitMax c.jitMax }
  else if off = 0x500C then { l with sf := { l.sf with maxCyc := carriedMax was.sf.maxCyc l.sf.maxCyc } }
  else if off = 0x4820 then l.modLn fun n => { n with tkoMax := carriedMax was.ln.tkoMax n.tkoMax }
  else if off = 0x4830 then l.modPeer 0 fun p => { p with bad := carried (was.peerOf 0).bad p.bad }
  else if off = 0x4834 then l.modPeer 1 fun p => { p with bad := carried (was.peerOf 1).bad p.bad }
  else if off = 0x70A4 then l.modHr fun r => { r with longest := carriedMax was.hr.longest r.longest }
  else
    match unitAt 0x1880 0x80 6 off with
    | some (n, 0x64) => l.serRead was n
    | _ => l

/-- A register is read (16 R376). -/
def Lane.readAt (l was : Lane) (q : Requester) (off : Nat) : Lane :=
  if l.reaches q then (l.readVal was q off).readEffect was q off else l

/-! The register window -/

/-- Byte enables and value of a write of bytes at an address of the register window (01 R21). -/
def windowWr (a : Nat) (bs : List Byte) : Wr :=
  let n := min bs.length (4 - a % 4)
  { req := .internal, val := BitVec.ofNat 32 (leVal (bs.take n) * 256 ^ (a % 4)), be := BitVec.ofNat 4 ((2 ^ n - 1) * 2 ^ (a % 4)) }

/-- An access to the register window (01 R21): the registers of BAR0 at their offsets, each as four bytes, the low one first
(00 R11). -/
def opWindow (was l : Lane) (a : Nat) (w : Option (List Byte)) : Lane :=
  let off := (a - 0x40000000) / 4 * 4
  match w with
  | none =>
    (l.readAt was .internal off).modIg fun g => { g with delivered := some (a / 4 * 4, wordBytes (was.readReg false off)) }
  | some bs => l.landWrite off (windowWr a bs)

/-- SHM_ACCESS: an access to the internal address space (01 R21), of the debug port only under a granted DBG_ACCESS (10 R249,
R250). -/
def opBusAccess (was l : Lane) (src a : Nat) (w : Option (List Byte)) (e : LineErr) : Lane :=
  if src = 0x0E ∧ l.ig.tapActs ≠ .dbgAccess then l
  else if regionOf a = .regs then opWindow was l a w
  else opAccess l src a w e

end Sys2Proof.Machine
end

