-- ==== Sys2Proof/WellFormed.lean ====
section
/-! DEFINITION. Which commands are well formed: their operands name units, entries, buses and registers that a lane has. -/

namespace Sys2Proof

/-- Axes 0–5 (01 R30). -/
def isAxis (n : Nat) : Bool := decide (n < 6)

/-- Feedback units FU0–FU7 (03 R64), and timebases PT0–PT7 (02 R42). -/
def isUnit (n : Nat) : Bool := decide (n < 8)

/-- Feedback units with a Hall decoder and a SENT receiver (03 Table 3.1). -/
def isHallUnit (n : Nat) : Bool := decide (n < 6)

/-- Entries of the event table (02 R52). -/
def isEntry (k : Nat) : Bool := decide (k < 256)

/-- Sequence descriptors of the converters (04 R93). -/
def isSeq (k : Nat) : Bool := decide (k < 16)

/-- Converters CV0–CV3 (04 R90). -/
def isConv (m : Nat) : Bool := decide (m < 4)

/-- Motor gates 0–35 (07 R156). -/
def isGate (g : Nat) : Bool := decide (g < 36)

/-- The two peers of a lane, lower-lettered first (08 Table 8.25). -/
def isPeer (k : Nat) : Bool := decide (k < 2)

/-- The command paths of a lane (08 R211). -/
def isPath (p : Nat) : Bool := decide (p < 3)

/-- Sprue A and Sprue B (12 R280). -/
def isBus (b : Nat) : Bool := decide (b < 2)

/-- Envelope connections (13 R308). -/
def isConn (k : Nat) : Bool := decide (k < 15)

/-- Register offsets of BAR0 (16 R374). -/
def isOffset (off : Nat) : Bool := decide (off < 0x8000) && decide (off % 4 = 0)

/-- Offsets of status registers, LN_REPLACE among them (16 R380, R382). -/
def isStatusOffset (off : Nat) : Bool := Machine.isStatusReg off

/-- Offsets of the gate-drive block (16 Table 16.1, 07 R184). -/
def isGdOffset (off : Nat) : Bool := isOffset off && decide (0x4000 ≤ off) && decide (off < 0x4800)

/-- A command is well formed. -/
def Instr.wf : Instr → Bool
  | .powerOn _ _ => true
  | .vporLoss _ => true
  | .vinBelowVrst _ => true
  | .vrstRecover _ _ => true
  | .vwarnTrip _ => true
  | .vwarnClear _ => true
  | .rstN _ _ => true
  | .clockLoss _ => true
  | .resetRelease _ _ => true
  | .shakeoutTestComplete _ _ restore _ _ => decide (restore < 3)
  | .restoreSaveList _ verdict => decide (verdict < 4)
  | .soloExpiry _ => true
  | .pwWait _ _ => true
  | .lowPowerEntryIsolated _ => true
  | .pwWake _ _ => true
  | .wakePin _ => true
  | .wakeSprue _ b => isBus b
  | .wakePps _ => true
  | .dozeWakeComplete _ => true
  | .pwPadRelease _ _ => true
  | .sysKeyWrite _ _ => true
  | .registerWrite _ off _ => isOffset off
  | .statusRead _ _ off => isStatusOffset off
  | .statusWriteBack _ off _ => isStatusOffset off
  | .sysClkloRead _ _ => true
  | .tlWsecLoRead _ _ => true
  | .tlPerrRead _ _ => true
  | .cvJitRead _ _ => true
  | .sfSfeRead _ _ => true
  | .lnTkoRead _ _ => true
  | .lnPeerRead _ _ k => isPeer k
  | .hrSvcRead _ _ => true
  | .fbSentsRead _ _ n => isHallUnit n
  | .tlPtOffsetWrite _ n _ => isUnit n
  | .ppsEdge _ => true
  | .ppsMissing _ => true
  | .timeAcceptSlew _ _ => true
  | .timeAcceptStep _ _ => true
  | .tlEvtRead _ _ => true
  | .tlEvtCommit _ _ => true
  | .entryBaseInstant _ k => isEntry k
  | .rePrediction _ k => isEntry k
  | .adcTrig _ => true
  | .loopStart _ => true
  | .edgePeriodCommit _ k => isEntry k
  | .edgeSectorCommit _ k => isEntry k
  | .edgeGateCommit _ k => isEntry k
  | .doorbell _ => true
  | .sprueSlot _ => true
  | .telemetry _ => true
  | .quadCount _ n _ _ _ _ => isUnit n
  | .doubleEdge _ n => isUnit n
  | .indexEvent _ n _ _ _ => isUnit n
  | .fbArm _ _ n => isUnit n
  | .fbDisarm _ _ n => isUnit n
  | .aoffWrite _ n _ => isUnit n
  | .tooth _ n _ _ => isUnit n
  | .threshLoad _ n => isUnit n
  | .hallChange _ n hs => isHallUnit n && decide (hs < 8)
  | .hallInvalidTimeout _ n => isHallUnit n
  | .sentFrame _ n _ => isHallUnit n
  | .sentTimeout _ n => isHallUnit n
  | .speedDecay _ n => isUnit n
  | .standstillTimeout _ n => isUnit n
  | .speedWindowEnd _ n => isUnit n
  | .fbFclrCounter _ _ n => isUnit n
  | .fbFclrHall _ _ n => isUnit n
  | .fbFclrSent _ _ n => isUnit n
  | .nominalInstant _ k => isSeq k
  | .controlSeqStart _ => true
  | .controlHold _ => true
  | .monitorHold _ _ => true
  | .monitorResume _ => true
  | .conversionComplete _ m sl raw => isConv m && decide (sl < 5) && decide (raw < 16384)
  | .turnEnd _ m _ => isConv m
  | .sliceSwap _ m => isConv m
  | .cvSeqWrite _ k _ => isSeq k
  | .cvMonenWrite _ _ => true
  | .cvRotWrite _ _ => true
  | .passStart _ n => isAxis n
  | .dutyArrival _ n => isAxis n
  | .cutOff _ n => isAxis n
  | .bemfEvaluate _ n => isAxis n
  | .zcMiss _ n => isAxis n
  | .cmStart _ _ n => isAxis n
  | .cmStop _ _ n => isAxis n
  | .stopPeriodStart _ n => isAxis n
  | .leZero _ _ n => isAxis n
  | .leBankWrite _ n _ => isAxis n
  | .leWindowWrite _ _ => true
  | .runnerBlockVerify _ _ _ _ _ => true
  | .commandWord _ _ => true
  | .isolateEnter _ _ => true
  | .isolateLeave _ _ => true
  | .chopflt _ _ => true
  | .cfg _ _ => true
  | .safe _ _ => true
  | .align _ _ => true
  | .idle _ _ => true
  | .tokenRaise _ _ => true
  | .tokenDrop _ _ => true
  | .tokenHoldStart _ => true
  | .queuedWordExecute _ _ => true
  | .deadTimeTurnOn _ => true
  | .heartbeatLoss _ => true
  | .lossSafeExpiry _ => true
  | .alignPeriodic _ => true
  | .gdDtWrite _ _ => true
  | .gdFclrPersist _ _ => true
  | .gdFclrChop _ _ => true
  | .gdRegisterWrite _ off _ => isGdOffset off
  | .bootUv _ g => isGate g
  | .bootPersist _ g => isGate g
  | .desatTrip _ g => isGate g
  | .ocTrip _ n => isAxis n
  | .pfDecay _ g => isGate g
  | .vdrvUvTrip _ => true
  | .vdrvUvPersist _ => true
  | .vdrvRecover _ => true
  | .ov1Trip _ => true
  | .ov1Release _ => true
  | .ov2Enter _ => true
  | .ov2Leave _ => true
  | .ov3Trip _ => true
  | .ov3Release _ => true
  | .ov3Persist _ => true
  | .chopperTestEnd _ _ => true
  | .chopCurrentVerdict _ => true
  | .returnBlockVerify _ _ _ _ _ => true
  | .levelsWord _ _ => true
  | .eventWord _ _ => true
  | .fblkWord _ _ => true
  | .cfgcrcWord _ _ => true
  | .gdLost _ => true
  | .tokenLineChange _ k _ => isPeer k
  | .heartbeatSend _ => true
  | .heartbeatReceive _ k _ _ _ _ _ => isPeer k
  | .axcfgMismatch _ => true
  | .peerSilent _ k => isPeer k
  | .riserLinkRestored _ k => isPeer k
  | .selfDiagnosisTrigger _ code _ => decide (1 ≤ code) && decide (code ≤ 0x0B)
  | .deferredCause _ code _ => decide (0x10 ≤ code) && decide (code ≤ 0x17)
  | .handoverFrame _ k _ => isPeer k
  | .handoverRetry _ => true
  | .handoverDrop _ => true
  | .handoverCheck _ => true
  | .claimStart _ => true
  | .claimHold _ => true
  | .splitTimeout _ => true
  | .laneRecordSend _ => true
  | .axisRecordReceive _ k _ _ n _ _ => isPeer k && isAxis n
  | .laneRecordReceive _ k _ _ _ _ => isPeer k
  | .envRecordReceive _ k _ _ _ _ _ => isPeer k
  | .conditionRecount _ k => isPeer k
  | .viewDisagree _ => true
  | .pathConfirm _ p => isPath p
  | .lnHandover _ _ => true
  | .lnLaneReset _ _ => true
  | .lnAckSilent _ _ => true
  | .sfeEvaluation _ n _ => isAxis n
  | .sfeDeadline _ n => isAxis n
  | .sfeEvalRateTimeout _ n => isAxis n
  | .sfProfWrite _ _ => true
  | .sfResume _ _ => true
  | .brakeRelease _ n => isAxis n
  | .brakeApplyStart _ n => isAxis n
  | .brakeRampPeriod _ n => isAxis n
  | .shmAccess _ _ _ _ _ => true
  | .outerCheckResult _ => true
  | .ceWriteBack _ => true
  | .writeVerifyRead _ _ => true
  | .scrubRead _ _ => true
  | .parkScrub _ _ => true
  | .lockstepMismatch _ k => decide (k ≤ 10)
  | .comparatorSelftest _ _ => true
  | .parityError _ off b entry => isOffset off && decide (b < if entry.isSome then 192 else 32) && entry.all isEntry
  | .tapOpenInstruction _ ir => !ir.attaching
  | .tapAttach _ ir _ => ir.attaching
  | .debugGrant _ => true
  | .tapReset _ => true
  | .igInjWrite _ _ => true
  | .igUeinfoValidClear _ _ => true
  | .tsCmdRun _ _ => true
  | .gateCellStep _ _ => true
  | .gateCellAbort _ => true
  | .chopperBgTest _ => true
  | .temperInterval _ slacks _ => decide (slacks.length = 48)
  | .birthWriteComplete _ _ => true
  | .slotStart _ b => isBus b
  | .slotEnd _ b => isBus b
  | .spruePollReceive _ b _ _ => isBus b
  | .sprueResponseReceive _ b _ _ => isBus b
  | .foreignFrame _ b => isBus b
  | .txEcho _ b _ _ => isBus b
  | .responseWithdraw _ b => isBus b
  | .pollError _ b => isBus b
  | .idleWaitExpiry _ b => isBus b
  | .busOff _ b => isBus b
  | .errPassive _ b _ _ => isBus b
  | .busOffRecovery _ b => isBus b
  | .spPendWrite _ b _ => isBus b
  | .spTableWrite _ b _ => isBus b
  | .envWatchdog _ k => isConn k
  | .doorbellReadComplete _ _ _ _ _ _ => true
  | .readDeadline _ => true
  | .nop _ bs => decide (bs.length = 64)
  | .setpoint _ bs => decide (bs.length = 64)
  | .mode _ bs => decide (bs.length = 64)
  | .arm _ bs => decide (bs.length = 64)
  | .shakeout _ bs => decide (bs.length = 64)
  | .time _ bs => decide (bs.length = 64)
  | .abort _ bs => decide (bs.length = 64)
  | .lane _ bs => decide (bs.length = 64)
  | .badDesc _ bs => decide (bs.length = 64)
  | .outboundWrite _ => true
  | .indexBlockTimer _ => true
  | .msixModerationExpiry _ v => decide (v < 16)
  | .endpointReset _ kind => decide (kind < 4)
  | .hrRingEnable _ _ => true
  | .imageLoad _ _ => true
  | .imageFetchComplete _ _ => true
  | .imageApplyComplete _ => true
  | .sprueSof _ b _ _ => isBus b
  | .runnerBlockSend _ => true
  | .returnBlockSend _ => true
  | .dlActiveEntry _ => true
  | .pcieConfigWrite _ _ _ _ _ mrrs => decide (mrrs < 6)
  | .svcBootEnd _ => true
  | .progressWordBurned _ => true

end Sys2Proof
end

