-- ==== Sys2Proof/Machine/CmdControl.lean ====
section
/-! DEFINITION. Commands of the loop engines and the commutator: one meaning per row of the command table. -/

namespace Sys2Proof.Machine

/-- PASS_START (06 R134): A pass starts once its awaited result is presented, latching inputs, adopting mirror states and
running the stage chain. -/
def execPassStart (h : Hdr) (n : Nat) (s : State) : Host.Outcome State Fault Refusal :=
  s.onLane h fun l => if isAxis n then l.whenAwake (opPassStart · n) else l

/-- DUTY_ARRIVAL (05 R119): A pass completes and its duty reaches the commutator, which forms or re-forms the commands of the
next period and tests the limits. -/
def execDutyArrival (h : Hdr) (n : Nat) (s : State) : Host.Outcome State Fault Refusal :=
  s.onLane h fun l =>
    if isAxis n then l.whenAwake fun l => if (l.loopOf n).flight.isSome then (opDutyArrival l n).sendAxis n else l else l

/-- CUT_OFF (05 R122): A period's cut-off arrives, so the sector is checked, held duties are formed and pending STARTs are
evaluated. -/
def execCutOff (h : Hdr) (n : Nat) (s : State) : Host.Outcome State Fault Refusal :=
  s.onLane h fun l => if isAxis n then l.whenAwake (opCutOff · n) else l

/-- BEMF_EVALUATE (05 R123): The period's phase-voltage results are examined for a zero crossing, forming a boundary and BSPD.
-/
def execBemfEvaluate (h : Hdr) (n : Nat) (s : State) : Host.Outcome State Fault Refusal :=
  s.onLane h fun l => if isAxis n then l.whenAwake (opBemf · n) else l

/-- ZC_MISS (05 R124): No crossing is accepted by the last boundary + Tzz, so a boundary is placed there and LOCKED may clear.
-/
def execZcMiss (h : Hdr) (n : Nat) (s : State) : Host.Outcome State Fault Refusal :=
  s.onLane h fun l => if isAxis n then l.whenAwake (opZcMiss · n) else l

/-- CM_START (05 R129): A START command is queued for evaluation at the next cut-off, or discarded while SAFE is latched. -/
def execCmStart (h : Hdr) (q : Requester) (n : Nat) (s : State) : Host.Outcome State Fault Refusal :=
  s.onLane h fun l => if isAxis n then l.landWrite (Reg.CM_CMD n) ⟨q, 1, 0xF⟩ else l

/-- CM_STOP (05 R129): A STOP command forms gates-off periods from the next eligible period start, or sends urgent off words
at once. -/
def execCmStop (h : Hdr) (q : Requester) (n : Nat) (s : State) : Host.Outcome State Fault Refusal :=
  s.onLane h fun l => if isAxis n then l.landWrite (Reg.CM_CMD n) ⟨q, 2, 0xF⟩ else l

/-- STOP_PERIOD_START (06 R153): At the period start where a STOP takes effect, REF, LIMITED and the loop states clear. -/
def execStopPeriodStart (h : Hdr) (n : Nat) (s : State) : Host.Outcome State Fault Refusal :=
  s.onLane h fun l => if isAxis n then l.whenAwake (opStopPeriodStart · n) else l

/-- LE_ZERO (06 R153): A ZERO command clears I, IO and the notch states at the next pass start. -/
def execLeZero (h : Hdr) (q : Requester) (n : Nat) (s : State) : Host.Outcome State Fault Refusal :=
  s.onLane h fun l => if isAxis n then l.landWrite (Reg.LE_CMD n) ⟨q, 1, 0xF⟩ else l

/-- LE_BANK_WRITE (06 R148): A write to LE_BANKn selects the bank for the next pass start. -/
def execLeBankWrite (h : Hdr) (n : Nat) (w : Wr) (s : State) : Host.Outcome State Fault Refusal :=
  s.onLane h fun l => if isAxis n then l.landWrite (Reg.LE_BANK n) w else l

/-- LE_WINDOW_WRITE (06 R148): A write to LE_WDATA stores a coefficient-bank word or is refused for a protected bank. -/
def execLeWindowWrite (h : Hdr) (w : Wr) (s : State) : Host.Outcome State Fault Refusal :=
  s.onLane h fun l => l.landWrite Reg.LE_WDATA w

end Sys2Proof.Machine
end

