-- ==== Sys2Proof/Machine/CmdConversion.lean ====
section
/-! DEFINITION. Commands of the converters: one meaning per row of the command table. -/

namespace Sys2Proof.Machine

/-- NOMINAL_INSTANT (04 R97): A CONTROL sequence's nominal instant arrives, so the monitor is suspended and entry 0 waits for
idle positions. -/
def execNominalInstant (h : Hdr) (k : Nat) (s : State) : Host.Outcome State Fault Refusal :=
  s.onLane h fun l => if isSeq k then l.whenAwake (opNominal · k) else l

/-- CONTROL_SEQ_START (04 R97): All occupied positions are idle, so entry 0 holds at t0, jit is recorded and later entries are
scheduled on the grid. -/
def execControlSeqStart (h : Hdr) (s : State) : Host.Outcome State Fault Refusal :=
  s.onLane h fun l => l.whenAwake opSeqStart

/-- CONTROL_HOLD (04 R94): A CONTROL sequence entry holds on its grid instant in all four converters. -/
def execControlHold (h : Hdr) (s : State) : Host.Outcome State Fault Refusal :=
  s.onLane h fun l => l.whenAwake opControlHold

/-- MONITOR_HOLD (04 R96): The next monitor entry holds on the next occupied position, 40 cycles after the previous one. -/
def execMonitorHold (h : Hdr) (check : Bool) (s : State) : Host.Outcome State Fault Refusal :=
  s.onLane h fun l => l.whenAwake (opMonitorHold · check)

/-- MONITOR_RESUME (04 R97): The monitor round resumes at the suspended entry 10 cycles after the last CONTROL hold. -/
def execMonitorResume (h : Hdr) (s : State) : Host.Outcome State Fault Refusal :=
  s.onLane h fun l => l.whenAwake opMonitorResume

/-- CONVERSION_COMPLETE (04 R101): A slice result is ready, corrected and written to its result register 4 cycles later. -/
def execConversionComplete (h : Hdr) (m sl raw : Nat) (s : State) : Host.Outcome State Fault Refusal :=
  s.onLane h fun l => if isConv m && decide (sl < 5) && decide (raw < 16384) then l.whenAwake (opConversion · m sl raw) else l

/-- TURN_END (04 R104): A spare turn ends after EFF and its steps; its training estimate and Shakeout results are judged. -/
def execTurnEnd (h : Hdr) (m : Nat) (t : Machine.TurnMeas) (s : State) : Host.Outcome State Fault Refusal :=
  s.onLane h fun l => if isConv m then l.whenAwake (opTurnEnd · m t) else l

/-- SLICE_SWAP (04 R104): The outgoing slice is idle with no CONTROL sequence pending, so the accepted spare takes the
position. -/
def execSliceSwap (h : Hdr) (m : Nat) (s : State) : Host.Outcome State Fault Refusal :=
  s.onLane h fun l => if isConv m then l.whenAwake (opSwap · m) else l

/-- CV_SEQ_WRITE (04 R93): A write to CV_SEQk that makes two enabled ranges overlap disables the higher descriptor and sets
SEQ_OVERLAP. -/
def execCvSeqWrite (h : Hdr) (k : Nat) (w : Wr) (s : State) : Host.Outcome State Fault Refusal :=
  s.onLane h fun l => if isSeq k then l.landWrite (Reg.CV_SEQ k) w else l

/-- CV_MONEN_WRITE (04 R96): Clearing MONEN stops new monitor holds, and setting it resumes at the next entry. -/
def execCvMonenWrite (h : Hdr) (w : Wr) (s : State) : Host.Outcome State Fault Refusal :=
  s.onLane h fun l => l.landWrite Reg.CV_CTRL w

/-- CV_ROT_WRITE (04 R104): A CV_ROT.INT write ends the present turn on the new value. -/
def execCvRotWrite (h : Hdr) (w : Wr) (s : State) : Host.Outcome State Fault Refusal :=
  s.onLane h fun l => l.landWrite Reg.CV_ROT w

end Sys2Proof.Machine
end

