-- ==== Sys2Proof/Machine/CmdFeedback.lean ====
section
/-! DEFINITION. Commands of the feedback units: one meaning per row of the command table. -/

namespace Sys2Proof.Machine

/-- QUAD_COUNT (03 R68): A single-line quadrature change is counted, moving RAW and updating POS, DIR and PENDING under the
one-count hysteresis. -/
def execQuadCount (h : Hdr) (n : Nat) (a0 b0 a1 b1 : Bool) (s : State) : Host.Outcome State Fault Refusal :=
  s.onLane h fun l => if isUnit n then l.whenPads (opQuad · n a0 b0 a1 b1) else l

/-- DOUBLE_EDGE (03 R67): QA and QB change in one sample, so no count is made, the estimator enters DE_HOLD and the window
count rises. -/
def execDoubleEdge (h : Hdr) (n : Nat) (s : State) : Host.Outcome State Fault Refusal :=
  s.onLane h fun l => if isUnit n then l.whenPads (opDoubleEdge · n) else l

/-- INDEX_EVENT (03 R69): A gated index event captures IDXPOS and resets the counter according to IDXMODE and the arming
state. -/
def execIndexEvent (h : Hdr) (n : Nat) (qz a b : Bool) (s : State) : Host.Outcome State Fault Refusal :=
  s.onLane h fun l => if isUnit n then l.whenPads (opIndex · n qz a b) else l

/-- FB_ARM (03 R70): An ARM command arms ONCE indexing or is refused with ARM_REFUSED. -/
def execFbArm (h : Hdr) (q : Requester) (n : Nat) (s : State) : Host.Outcome State Fault Refusal :=
  s.onLane h fun l => if isUnit n then l.landWrite (Reg.FB_ARM n) ⟨q, 1, 0xF⟩ else l

/-- FB_DISARM (03 R70): A DISARM command returns the ONCE arming state to DISARMED. -/
def execFbDisarm (h : Hdr) (q : Requester) (n : Nat) (s : State) : Host.Outcome State Fault Refusal :=
  s.onLane h fun l => if isUnit n then l.landWrite (Reg.FB_ARM n) ⟨q, 2, 0xF⟩ else l

/-- AOFF_WRITE (03 R71): A write to FB_AOFFn steps APOS by the difference with no count lost. -/
def execAoffWrite (h : Hdr) (n : Nat) (w : Wr) (s : State) : Host.Outcome State Fault Refusal :=
  s.onLane h fun l => if isUnit n then l.landWrite (Reg.FB_AOFF n) w else l

/-- TOOTH (03 R72): A toothed-wheel edge is classified against THRESH as ordinary or reference, and the tooth position is
updated. -/
def execTooth (h : Hdr) (n : Nat) (falling qb : Bool) (s : State) : Host.Outcome State Fault Refusal :=
  s.onLane h fun l => if isUnit n then l.whenPads (opTooth · n falling qb) else l

/-- THRESH_LOAD (03 R72): The FBE loads the reference threshold for the next tooth within 96 cycles. -/
def execThreshLoad (h : Hdr) (n : Nat) (s : State) : Host.Outcome State Fault Refusal :=
  s.onLane h fun l => if isUnit n then l.whenAlive (opThreshLoad · n) else l

/-- HALL_CHANGE (03 R76): The synchronised Hall state changes and is mapped, counted, skipped or marked invalid, with the Hall
cross-check made. -/
def execHallChange (h : Hdr) (n hs : Nat) (s : State) : Host.Outcome State Fault Refusal :=
  s.onLane h fun l => if isHallUnit n && decide (hs < 8) then l.whenPads (opHall · n hs) else l

/-- HALL_INVALID_TIMEOUT (03 R76): An invalid Hall state persists for TSS, so the Hall source is faulted. -/
def execHallInvalidTimeout (h : Hdr) (n : Nat) (s : State) : Host.Outcome State Fault Refusal :=
  s.onLane h fun l => if isHallUnit n then l.whenAlive (opHallTimeout · n) else l

/-- SENT_FRAME (03 R78): A SENT frame completes and is accepted or discarded with SENT_ERR, and the SENT cross-check is made.
-/
def execSentFrame (h : Hdr) (n : Nat) (f : Machine.SentFrame) (s : State) : Host.Outcome State Fault Refusal :=
  s.onLane h fun l => if isHallUnit n then l.whenPads (opSent · n f) else l

/-- SENT_TIMEOUT (03 R79): No accepted SENT frame arrives within SENT_TO, so SENT_LOST is set and the source is faulted. -/
def execSentTimeout (h : Hdr) (n : Nat) (s : State) : Host.Outcome State Fault Refusal :=
  s.onLane h fun l => if isHallUnit n then l.whenAlive (opSentTimeout · n) else l

/-- SPEED_DECAY (03 R80): The 128-cycle decay check in RUN lowers |speed| to the bound of the open interval. -/
def execSpeedDecay (h : Hdr) (n : Nat) (s : State) : Host.Outcome State Fault Refusal :=
  s.onLane h fun l => if isUnit n then l.whenAlive (opDecay · n) else l

/-- STANDSTILL_TIMEOUT (03 R80): No committed update for TSS puts the estimator in STANDSTILL with speed 0. -/
def execStandstillTimeout (h : Hdr) (n : Nat) (s : State) : Host.Outcome State Fault Refusal :=
  s.onLane h fun l => if isUnit n then l.whenAlive (opStandstill · n) else l

/-- SPEED_WINDOW_END (03 R81): A window-mode grid window ends, and the speed is computed or interval mode is resumed. -/
def execSpeedWindowEnd (h : Hdr) (n : Nat) (s : State) : Host.Outcome State Fault Refusal :=
  s.onLane h fun l => if isUnit n then l.whenAlive (opWindowEnd · n) else l

/-- FB_FCLR_COUNTER (03 R85): Clear bit 0 clears the counter fault latch and restarts the counter. -/
def execFbFclrCounter (h : Hdr) (q : Requester) (n : Nat) (s : State) : Host.Outcome State Fault Refusal :=
  s.onLane h fun l => if isUnit n then l.landWrite (Reg.FB_FCLR n) ⟨q, 1, 0xF⟩ else l

/-- FB_FCLR_HALL (03 R85): Clear bit 1 clears the Hall fault latch and restarts the Hall decoder. -/
def execFbFclrHall (h : Hdr) (q : Requester) (n : Nat) (s : State) : Host.Outcome State Fault Refusal :=
  s.onLane h fun l => if isUnit n then l.landWrite (Reg.FB_FCLR n) ⟨q, 2, 0xF⟩ else l

/-- FB_FCLR_SENT (03 R85): Clear bit 2 clears the SENT fault latch and restarts the SENT receiver. -/
def execFbFclrSent (h : Hdr) (q : Requester) (n : Nat) (s : State) : Host.Outcome State Fault Refusal :=
  s.onLane h fun l => if isUnit n then l.landWrite (Reg.FB_FCLR n) ⟨q, 4, 0xF⟩ else l

end Sys2Proof.Machine
end

