-- ==== Sys2Proof/Machine/CmdGateDrive.lean ====
section
/-! DEFINITION. Commands at the gate-drive die: one meaning per row of the command table. -/

namespace Sys2Proof.Machine

/-- RUNNER_BLOCK_VERIFY (07 R158): The gate-drive die verifies a forward block by CRC, parity and BASE, acting on its words or
reporting it failed. -/
def execRunnerBlockVerify (h : Hdr) (w0 w1 w2 ck : Word) (s : State) : Host.Outcome State Fault Refusal :=
  s.onLane h fun l => opBlockVerify l w0 w1 w2 ck

/-- COMMAND_WORD (07 R163): A gate command word arrives and enters the queue, or is dropped as late, far or queue-full. -/
def execCommandWord (h : Hdr) (w : Word) (s : State) : Host.Outcome State Fault Refusal :=
  s.onLane h fun l => l.wordOf (fun g => decide (g < 43)) 1 w

/-- ISOLATE_ENTER (07 R162): An ISOLATE word with LVL 1 puts the gate-drive die in the isolated state. -/
def execIsolateEnter (h : Hdr) (w : Word) (s : State) : Host.Outcome State Fault Refusal :=
  s.onLane h fun l => l.wordOf (fun g => g == 57 && bit w 25) 1 w

/-- ISOLATE_LEAVE (07 R162): An ISOLATE word with LVL 0 takes the gate-drive die out of the isolated state. -/
def execIsolateLeave (h : Hdr) (w : Word) (s : State) : Host.Outcome State Fault Refusal :=
  s.onLane h fun l => l.wordOf (fun g => g == 57 && !bit w 25) 1 w

/-- CHOPFLT (07 R178): A CHOPFLT word latches CHOP_FAULT. -/
def execChopflt (h : Hdr) (w : Word) (s : State) : Host.Outcome State Fault Refusal :=
  s.onLane h fun l => l.wordOf (fun g => g == 58) 1 w

/-- CFG (07 R184): A CFG word writes half of a configuration shadow word, which takes effect at its second half. -/
def execCfg (h : Hdr) (w : Word) (s : State) : Host.Outcome State Fault Refusal :=
  s.onLane h fun l => l.wordOf (fun g => g == 59) 1 w

/-- SAFE (07 R162): A SAFE word sets ENTER axes and clears LEAVE axes in the safe mask. -/
def execSafe (h : Hdr) (w : Word) (s : State) : Host.Outcome State Fault Refusal :=
  s.onLane h fun l => l.wordOf (fun g => g == 60) 1 w

/-- ALIGN (07 R160): An ALIGN word in slot 0 sets the gate-drive die's count and aligns it. -/
def execAlign (h : Hdr) (w : Word) (s : State) : Host.Outcome State Fault Refusal :=
  s.onLane h fun l => l.wordOf (fun g => g == 61) 0 w

/-- IDLE (07 R157): An IDLE word fills a payload slot and has no effect. -/
def execIdle (h : Hdr) (w : Word) (s : State) : Host.Outcome State Fault Refusal :=
  s.onLane h fun l => l.wordOf (fun g => g == 63) 1 w

/-- TOKEN_RAISE (07 R164): A verified TOKEN raise queues the token to be held from T_r. -/
def execTokenRaise (h : Hdr) (w : Word) (s : State) : Host.Outcome State Fault Refusal :=
  s.onLane h fun l => l.wordOf (fun g => g == 62 && bit w 25) 1 w

/-- TOKEN_DROP (07 R164): A TOKEN drop word acts the cycle after its last bit, turning all motor gates off and cancelling a
pending raise. -/
def execTokenDrop (h : Hdr) (w : Word) (s : State) : Host.Outcome State Fault Refusal :=
  s.onLane h fun l => l.wordOf (fun g => g == 62 && !bit w 25) 1 w

/-- TOKEN_HOLD_START (07 R164): At T_r the token becomes held and every motor-gate output adopts its shadow level. -/
def execTokenHoldStart (h : Hdr) (s : State) : Host.Outcome State Fault Refusal :=
  s.onLane h fun l => opTokenHold l

/-- QUEUED_WORD_EXECUTE (07 R164): Queued words reach their instant and execute off before on, setting shadow levels. -/
def execQueuedWordExecute (h : Hdr) (vbs : Nat) (s : State) : Host.Outcome State Fault Refusal :=
  s.onLane h fun l => opExecute l vbs

/-- DEAD_TIME_TURN_ON (07 R166): A turn-on that waited for DT after the complementary turn-off is applied. -/
def execDeadTimeTurnOn (h : Hdr) (s : State) : Host.Outcome State Fault Refusal :=
  s.onLane h fun l => opDeadTime l

/-- HEARTBEAT_LOSS (07 R159): No forward block has been verified for 2 µs, so the gate-drive die turns every gate off. -/
def execHeartbeatLoss (h : Hdr) (s : State) : Host.Outcome State Fault Refusal :=
  s.onLane h fun l => opHbLoss l

/-- LOSS_SAFE_EXPIRY (07 R181): Heartbeat loss lasts LOSS_SAFE, so the class safe pattern is applied. -/
def execLossSafeExpiry (h : Hdr) (s : State) : Host.Outcome State Fault Refusal :=
  s.onLane h fun l => opLossSafe l

/-- BOOT_UV (07 R168): A bootstrap voltage below the trip turns that high side off and sets BOOT_UV. -/
def execBootUv (h : Hdr) (g : Nat) (s : State) : Host.Outcome State Fault Refusal :=
  s.onLane h fun l => if isGate g then opBootUv l g else l

/-- BOOT_PERSIST (07 R169): BOOT_UV persists to the third on word or 1 ms, raising a persistent gate-drive fault. -/
def execBootPersist (h : Hdr) (g : Nat) (s : State) : Host.Outcome State Fault Refusal :=
  s.onLane h fun l => if isGate g then opBootPersist l g else l

/-- DESAT_TRIP (07 R171): A desaturation comparator trips and turns its gate off. -/
def execDesatTrip (h : Hdr) (g : Nat) (s : State) : Host.Outcome State Fault Refusal :=
  s.onLane h fun l => if isGate g then opDesat l g else l

/-- OC_TRIP (07 R172): A shunt comparator trips and turns the axis's on high sides off. -/
def execOcTrip (h : Hdr) (n : Nat) (s : State) : Host.Outcome State Fault Refusal :=
  s.onLane h fun l => if isAxis n then opOc l n else l

/-- PF_DECAY (07 R174): PF_DECAY µs elapse, so a persistent-fault counter counts down by one. -/
def execPfDecay (h : Hdr) (g : Nat) (s : State) : Host.Outcome State Fault Refusal :=
  s.onLane h fun l => if isGate g then opPfDecay l g else l

/-- VDRV_UV_TRIP (07 R175): VDRV_x falls below 9.0 V, turning off all motor gates and the chopper and dropping BRL. -/
def execVdrvUvTrip (h : Hdr) (s : State) : Host.Outcome State Fault Refusal :=
  s.onLane h fun l => opVdrvUv l

/-- VDRV_UV_PERSIST (07 R175): VDRV_x stays below release for 10 µs, so the die sends an EVENT word and the lane raises
trigger 0x05. -/
def execVdrvUvPersist (h : Hdr) (s : State) : Host.Outcome State Fault Refusal :=
  s.onLane h fun l => opVdrvPersist l

/-- VDRV_RECOVER (07 R175): VDRV_x rises above release, and the outputs return to Table 7.8. -/
def execVdrvRecover (h : Hdr) (s : State) : Host.Outcome State Fault Refusal :=
  s.onLane h fun l => opVdrvRecover l

/-- OV1_TRIP (07 R177): The DC link reaches OV1, forcing BRKG on and starting a chopper test. -/
def execOv1Trip (h : Hdr) (s : State) : Host.Outcome State Fault Refusal :=
  s.onLane h fun l => opOv1 l

/-- OV1_RELEASE (07 R177): The DC link falls below OV1 − HYST, releasing the forced chopper. -/
def execOv1Release (h : Hdr) (s : State) : Host.Outcome State Fault Refusal :=
  s.onLane h fun l => opOv1Release l

/-- OV2_ENTER (07 R177): OV2 is reached with CHOP_FAULT latched, so GEN_LIMIT is raised. -/
def execOv2Enter (h : Hdr) (s : State) : Host.Outcome State Fault Refusal :=
  s.onLane h fun l => opOv2 l

/-- OV2_LEAVE (07 R177): OV2 is left below OV2 − HYST or on a chopper clear, and GEN_LIMIT clears. -/
def execOv2Leave (h : Hdr) (s : State) : Host.Outcome State Fault Refusal :=
  s.onLane h fun l => opOv2Leave l

/-- OV3_TRIP (07 R177): The DC link reaches OV3, and the class overvoltage pattern is applied. -/
def execOv3Trip (h : Hdr) (s : State) : Host.Outcome State Fault Refusal :=
  s.onLane h fun l => opOv3 l

/-- OV3_RELEASE (07 R177): The DC link falls below OV2 − HYST, leaving OV3. -/
def execOv3Release (h : Hdr) (s : State) : Host.Outcome State Fault Refusal :=
  s.onLane h fun l => opOv3Release l

/-- OV3_PERSIST (07 R177): OV3 lasts 1 ms, setting OV3_PERSIST and raising a persistent fault. -/
def execOv3Persist (h : Hdr) (s : State) : Host.Outcome State Fault Refusal :=
  s.onLane h fun l => opOv3Persist l

/-- CHOPPER_TEST_END (07 R178): 5 µs after a chopper turn-on, CHOP_FAULT latches if V has not fallen by CHOP_DV. -/
def execChopperTestEnd (h : Hdr) (fallen : Bool) (s : State) : Host.Outcome State Fault Refusal :=
  s.onLane h fun l => opChopTest l fallen

/-- RETURN_BLOCK_SEND (07 R183): Every 16 gate-drive cycles the gate-drive die begins a return block with LEVELS, CFGCRC,
EVENT and FBLK words, dropping words that found no slot in four blocks and setting OVF_EVT. -/
def execReturnBlockSend (h : Hdr) (s : State) : Host.Outcome State Fault Refusal :=
  s.onLane h fun l => opReturnSend l

end Sys2Proof.Machine
end

