-- ==== Sys2Proof/Machine/Images.lean ====
section
/-! DEFINITION. Beyten images: check and apply (15 R357 to R359, 14 R344). -/

namespace Sys2Proof.Machine

/-- One section of an image (15 R358): where its header stands, its fields and its payload. -/
structure Section where
  base : Nat
  kind : Nat
  unit : Nat
  len : Nat
  body : List Byte
  deriving DecidableEq, Repr

/-- A failure of an image check: CAUSE, SECTION and BYTE of PW_IMGERR (15 Table 15.21). -/
structure ImageErr where
  cause : Nat
  sect : Nat
  byte : Nat
  deriving DecidableEq, Repr

/-- The sections from one place of the image on (15 R358): as many as the header names, or the first that runs past the CRC;
sections count from 1. -/
def sectionsFrom (limit : Nat) : Nat → Nat → Nat → List Byte → List Section × Option ImageErr
  | 0, _, _, _ => ([], none)
  | n + 1, i, base, bs =>
    if limit < base + 8 then ([], some ⟨3, i, base⟩)
    else
      let len := leAt bs 4 4
      if limit < base + 8 + len then ([], some ⟨3, i, base + 4⟩)
      else
        let r := sectionsFrom limit n (i + 1) (base + 8 + len) (bs.drop (8 + len))
        (⟨base, leAt bs 0 1, leAt bs 1 1, len, (bs.drop 8).take len⟩ :: r.1, r.2)

/-- The sections of an image. -/
def sectionsOf (bs : List Byte) : List Section × Option ImageErr :=
  sectionsFrom (bs.length - 4) (leAt bs 16 2) 1 32 (bs.drop 32)

/-- Bytes in one entry of a kind's payload, and how many entries there must be; 0 for any number (15 Table 15.6). -/
def kindShape : Nat → Option (Nat × Nat)
  | 1 => some (8, 0)
  | 2 => some (28, 0)
  | 3 => some (4, 86)
  | 4 => some (4, 64)
  | _ => none

/-- The UNIT of a kind is in its range (15 Table 15.6). -/
def unitOk (kind u : Nat) : Bool :=
  match kind with
  | 3 => decide (field (BitVec.ofNat 32 u) 0 3 ≤ 5) && u &&& 0xE8 == 0
  | 4 => decide (u < 8)
  | _ => u == 0

/-- Cause 6 in a section: KIND, UNIT or payload length (15 Table 15.7). -/
def Section.shapeErr (s : Section) (i : Nat) : Option ImageErr :=
  match kindShape s.kind with
  | none => some ⟨6, i, s.base⟩
  | some (size, count) =>
    if !unitOk s.kind s.unit then some ⟨6, i, s.base + 1⟩
    else if s.len % size ≠ 0 ∨ (count ≠ 0 ∧ s.len ≠ size * count) then some ⟨6, i, s.base + 4⟩
    else none

/-- One write of an image (15 Table 15.6). -/
inductive ImageItem where
  | reg (off : Nat) (v : Word)
  | event (k : Nat) (e : Entry)
  | bank (addr : Nat) (v : Word)
  | sched (b m s : Nat) (v : Word)
  deriving DecidableEq, Repr

/-- The writes of one section in entry order, each with the byte of the image where its entry begins. -/
def Section.items (s : Section) : List (Nat × ImageItem) :=
  let sz := ((kindShape s.kind).getD (4, 0)).1
  (List.range (s.len / sz)).map fun i =>
    let e := (s.body.drop (sz * i)).take sz
    (s.base + 8 + sz * i,
      match s.kind with
      | 1 => .reg (leAt e 0 2) (wordAt e 4)
      | 2 => .event (leAt e 0 1) { initEntry with w0 := wordAt e 4, w1 := wordAt e 8, w2 := wordAt e 12, w3 := wordAt e 16,
                                                  w4 := wordAt e 20, w5 := wordAt e 24 }
      | 3 => .bank (512 * (s.unit % 8) + 256 * (s.unit / 16 % 2) + i) (wordAt e 0)
      | _ => .sched (s.unit % 2) (s.unit / 2) i (wordAt e 0))

/-- The sections of an image with their numbers. -/
def numbered {α : Type} (xs : List α) : List (Nat × α) := (List.range xs.length).zipWith (fun i x => (i + 1, x)) xs

/-- Every write of an image in section and entry order: section number, byte, write. -/
def imageItems (ss : List Section) : List (Nat × Nat × ImageItem) :=
  (numbered ss).flatMap fun p => p.2.items.map fun e => (p.1, e.1, e.2)

/-- A bank word is loaded (06 R148, R149); an axis in DRIVE protects the banks of 06 R148. -/
def Lane.loadBank (l : Lane) (addr : Nat) (v : Word) : Nat × Lane :=
  let n := addr / 512
  let b := addr / 256 % 2
  if (l.axis n).drive && (b == l.fld (Reg.LE_BANK n) 0 1 || b == (l.loopOf n).bank) then
    (4, l.flag Reg.LE_GSTATUS Bit.LEG_WIN_REFUSED)
  else
    (0, { l with le := { l.le with banks := fset (fun _ => (0 : Word)) l.le.banks addr (bankKeep (addr % 256) v),
                                   empty := l.le.empty &&& ~~~(1#12 <<< (2 * n + b)) } })

/-- One write of an image as it lands (15 Table 15.6): 0, or why its target refuses it, and the lane after it. -/
def Lane.applyItem (l : Lane) : ImageItem → Nat × Lane
  | .reg off v => l.svcWrite off v
  | .event k e =>
    let refused := e.bad || (e.on && decide (64 ≤ ((l.boundTo e.base).filter fun j => j != k).length))
    (if refused then 9 else 0, l.commitEntry k { e with commitAt := l.now })
  | .bank addr v => l.loadBank addr v
  | .sched b m s v =>
    if l.tableBusy b m then (4, l)
    else (0, l.putSlot b m s v)

/-- The first refused write in the state the lane would have there (15 R359): `events` chooses cause 9, else cause 8. -/
def Lane.itemErr (events : Bool) : Lane → List (Nat × Nat × ImageItem) → Option ImageErr
  | _, [] => none
  | l, (i, byte, it) :: rest =>
    let r := l.applyItem it
    match it with
    | .event _ _ => if events && r.1 != 0 then some ⟨9, i, byte⟩ else Lane.itemErr events r.2 rest
    | .reg _ _ => if !events && r.1 != 0 then some ⟨8, i, byte + 4⟩ else Lane.itemErr events r.2 rest
    | .bank _ _ | .sched _ _ _ _ => if !events && r.1 != 0 then some ⟨8, i, byte⟩ else Lane.itemErr events r.2 rest

/-- The first REG offset that no entry may name (15 R358). -/
def offsetErr (xs : List (Nat × Nat × ImageItem)) : Option ImageErr :=
  xs.findSome? fun x =>
    match x.2.2 with
    | .reg off _ => if off % 4 = 0 ∧ regEntryOk off then none else some ⟨7, x.1, x.2.1⟩
    | _ => none

/-- Causes 1 to 5 that the header shows, with the sections' extents between them (15 Table 15.7). -/
def Lane.headerErr (l : Lane) (bs : List Byte) : Option ImageErr :=
  let n := bs.length - 4
  if crc32 (bs.take n) ≠ wordAt bs n then some ⟨1, 0, n⟩
  else if wordAt bs 0 ≠ 0x4E545942 then some ⟨2, 0, 0⟩
  else if leAt bs 4 2 ≠ 1 then some ⟨2, 0, 4⟩
  else if leAt bs 8 4 ≠ l.fld Reg.HR_IMG_LEN 0 19 then some ⟨3, 0, 8⟩
  else if (sectionsOf bs).2.isSome then (sectionsOf bs).2
  else if !(leAt bs 6 1).testBit l.id.num then some ⟨4, 0, 6⟩
  else if Config.stepping < leAt bs 7 1 then some ⟨5, 0, 7⟩
  else none

/-- Cause 6: SECTIONS out of range, or a section's own fields (15 Table 15.7). -/
def shapeErr (bs : List Byte) : Option ImageErr :=
  if leAt bs 16 2 < 1 ∨ 511 < leAt bs 16 2 then some ⟨6, 0, 16⟩
  else (numbered (sectionsOf bs).1).findSome? fun p => p.2.shapeErr p.1

/-- The check of an image: the first failure in the order of Table 15.7, or none (15 R359). -/
def Lane.imageErr (l : Lane) (bs : List Byte) : Option ImageErr :=
  match l.headerErr bs with
  | some e => some e
  | none =>
    match shapeErr bs with
    | some e => some e
    | none =>
      let xs := imageItems (sectionsOf bs).1
      match offsetErr xs with
      | some e => some e
      | none => (Lane.itemErr false l xs).or (Lane.itemErr true l xs)

/-- The bytes of the words that an image fetch brought, low byte first (00 R11). -/
def imageBytes (ws : List Word) : List Byte := ws.flatMap fun w => leBytes 4 w.toNat

/-- The reads after the first 512 bytes of an image (14 R344). -/
def Lane.imageReads (l : Lane) (len : Nat) : Lane :=
  l.each ((List.range ((len + 511) / 512)).drop 1) fun l i =>
    l.readReq (l.addr64 Reg.HR_IMG_LO Reg.HR_IMG_HI + 512 * i) (min 512 (len - 512 * i))

/-- The Beyten staging region of SHM (01 Table 1.5). -/
def stagingAt : Nat := 0x180000

/-- The bytes of an image in the staging region, from its first byte on (14 R344, 01 Table 1.5). -/
def Integrity.stageImage (g : Integrity) (bs : List Byte) : Integrity :=
  (List.range ((bs.length + 31) / 32)).foldl (fun g i =>
    let line := stagingAt + 32 * i
    g.putLine line (mergeLine (lineBytes g.mem line) line ((bs.drop (32 * i)).take 32))) g

/-- IMAGE_FETCH_COMPLETE: the image is in the staging region, and the SVC checks it whole (15 R359): it passes and awaits its
apply, or is rejected with its cause. -/
def opImageFetched (l : Lane) (ws : List Word) : Lane :=
  if l.hr.img.state != 1 || 4 * ws.length != l.fld Reg.HR_IMG_LEN 0 19 then l
  else
    let l := l.imageReads (4 * ws.length)
    let l := (l.modIg fun g => g.stageImage (imageBytes ws)).modHr fun r => { r with img := { r.img with fetched := 4 * ws.length } }
    match l.imageErr (imageBytes ws) with
    | none => l.modHr fun r => { r with img := { r.img with state := 2, checked := ws } }
    | some e => (l.modPw fun p => { p with errCause := e.cause, errSection := e.sect, errByte := e.byte }).imageFail 3

/-- IMAGE_APPLY_COMPLETE: the checked image is applied in section and entry order, IMG_DONE is set, and the lane enters RUN (15
R359). -/
def opImageApplied (l : Lane) : Lane :=
  if l.hr.img.state != 2 then l
  else
    let bs := imageBytes l.hr.img.checked
    let l := (imageItems (sectionsOf bs).1).foldl (fun l x => (l.applyItem x.2.2).2) l
    let l := l.modPw fun p => { p with imgId := wordAt bs 12 }
    let l := (l.modHr fun r => { r with img := { r.img with state := 3, checked := [] } }).flag Reg.HR_STATUS Bit.HR_IMG_DONE
    if l.pw.state = .setup then l.enterRun else l

end Sys2Proof.Machine
end

