-- ==== Sys2Proof/Machine/CmdHost.lean ====
section
/-! DEFINITION. Commands of the host rings, the endpoint and Beyten images: one meaning per row of the command table. -/

namespace Sys2Proof.Machine

/-- DOORBELL_READ_COMPLETE (14 R328): The doorbell block lands, host indices are tested and adopted, and a descriptor fetch is
issued. -/
def execDoorbellReadComplete (h : Hdr) (ok : Bool) (w0 w1 w2 w3 : Word) (s : State) : Host.Outcome State Fault Refusal :=
  s.onLane h fun l => l.whenAwake (opDoorbellRead · ok w0 w1 w2 w3)

/-- READ_DEADLINE (14 R328): A DE read is not fully landed by DBTO, so it is abandoned and RDFAIL is counted. -/
def execReadDeadline (h : Hdr) (s : State) : Host.Outcome State Fault Refusal :=
  s.onLane h fun l => l.whenAwake opReadDeadline

/-- NOP (14 R335): A NOP descriptor arrives, is checked and completes. -/
def execNop (h : Hdr) (bs : List Byte) (s : State) : Host.Outcome State Fault Refusal :=
  s.onLane h fun l => if decide (bs.length = 64) then l.whenAwake (·.descriptor 0 bs) else l

/-- SETPOINT (14 R335): A SETPOINT descriptor limits and stores speed or position setpoints. -/
def execSetpoint (h : Hdr) (bs : List Byte) (s : State) : Host.Outcome State Fault Refusal :=
  s.onLane h fun l => if decide (bs.length = 64) then l.whenAwake (·.descriptor 1 bs) else l

/-- MODE (14 R335): A MODE descriptor applies STOP, START, profile, RESUME and Sprue requests. -/
def execMode (h : Hdr) (bs : List Byte) (s : State) : Host.Outcome State Fault Refusal :=
  s.onLane h fun l => if decide (bs.length = 64) then l.whenAwake (·.descriptor 2 bs) else l

/-- ARM (14 R335): An ARM descriptor disarms and arms ONCE indexing. -/
def execArm (h : Hdr) (bs : List Byte) (s : State) : Host.Outcome State Fault Refusal :=
  s.onLane h fun l => if decide (bs.length = 64) then l.whenAwake (·.descriptor 3 bs) else l

/-- SHAKEOUT (14 R335): A SHAKEOUT descriptor requests on-demand tests. -/
def execShakeout (h : Hdr) (bs : List Byte) (s : State) : Host.Outcome State Fault Refusal :=
  s.onLane h fun l => if decide (bs.length = 64) then l.whenAwake (·.descriptor 4 bs) else l

/-- TIME (14 R335): A TIME descriptor accepts a refused reference by SLEW or STEP. -/
def execTime (h : Hdr) (bs : List Byte) (s : State) : Host.Outcome State Fault Refusal :=
  s.onLane h fun l => if decide (bs.length = 64) then l.whenAwake (·.descriptor 5 bs) else l

/-- ABORT (14 R339): An ABORT descriptor withdraws the pending operations of a TAG, or loses to a recorded completion. -/
def execAbort (h : Hdr) (bs : List Byte) (s : State) : Host.Outcome State Fault Refusal :=
  s.onLane h fun l => if decide (bs.length = 64) then l.whenAwake (·.descriptor 6 bs) else l

/-- LANE (14 R335): A LANE descriptor applies HANDOVER, ACK_SILENT, fault clears and ZERO. -/
def execLane (h : Hdr) (bs : List Byte) (s : State) : Host.Outcome State Fault Refusal :=
  s.onLane h fun l => if decide (bs.length = 64) then l.whenAwake (·.descriptor 7 bs) else l

/-- BAD_DESC (14 R334): A descriptor with a reserved TYPE or a non-zero undefined field completes BAD_DESC. -/
def execBadDesc (h : Hdr) (bs : List Byte) (s : State) : Host.Outcome State Fault Refusal :=
  s.onLane h fun l => if decide (bs.length = 64) then l.whenAwake (·.descriptor 8 bs) else l

/-- OUTBOUND_WRITE (14 R331): A staged outbound descriptor is written once its ring has room, and PI advances. -/
def execOutboundWrite (h : Hdr) (s : State) : Host.Outcome State Fault Refusal :=
  s.onLane h fun l => l.whenAwake opOutbound

/-- INDEX_BLOCK_TIMER (14 R331): 500 cycles after an uncovered outbound write, the index block is written and MSI-X follows.
-/
def execIndexBlockTimer (h : Hdr) (s : State) : Host.Outcome State Fault Refusal :=
  s.onLane h fun l => l.whenAwake opIndexTimer

/-- MSIX_MODERATION_EXPIRY (14 R342): IMOD ends with an event pending, so the vector fires once. -/
def execMsixModerationExpiry (h : Hdr) (v : Nat) (s : State) : Host.Outcome State Fault Refusal :=
  s.onLane h fun l => if decide (v < 16) then l.whenAlive (opModeration · v) else l

/-- ENDPOINT_RESET (14 R322): PERST_N, hot reset, FLR or DL_Active loss resets the endpoint, the HR_ registers and the staged
descriptors. -/
def execEndpointReset (h : Hdr) (kind : Nat) (s : State) : Host.Outcome State Fault Refusal :=
  s.onLane h fun l => if decide (kind < 4) then l.whenAlive (opEndpointReset · kind) else l

/-- HR_RING_ENABLE (14 R329): Setting a ring's EN zeroes its indices, or is refused. -/
def execHrRingEnable (h : Hdr) (w : Wr) (s : State) : Host.Outcome State Fault Refusal :=
  s.onLane h fun l => l.landWrite Reg.HR_CTRL w

/-- IMAGE_LOAD (14 R344): A LOAD write starts the Beyten image fetch, or is refused. -/
def execImageLoad (h : Hdr) (q : Requester) (s : State) : Host.Outcome State Fault Refusal :=
  s.onLane h fun l => l.landWrite (Reg.HR_IMGCMD) ⟨q, 1, 0xF⟩

/-- IMAGE_FETCH_COMPLETE (15 R359): The image has been fetched, and the SVC checks it completely or rejects it with a cause.
-/
def execImageFetchComplete (h : Hdr) (ws : List Word) (s : State) : Host.Outcome State Fault Refusal :=
  s.onLane h fun l => l.whenAwake (opImageFetched · ws)

/-- IMAGE_APPLY_COMPLETE (15 R359): A checked image is applied, IMG_DONE is set and the lane enters RUN the next cycle. -/
def execImageApplyComplete (h : Hdr) (s : State) : Host.Outcome State Fault Refusal :=
  s.onLane h fun l => l.whenAwake opImageApplied

/-- DL_ACTIVE_ENTRY (14 R343): The PCIe link trains and reaches DL_Active, restoring one condition of the host path being
alive. -/
def execDlActiveEntry (h : Hdr) (s : State) : Host.Outcome State Fault Refusal :=
  s.onLane h fun l => l.whenAlive opDlActive

/-- PCIE_CONFIG_WRITE (14 R343): A configuration-space write sets or clears Memory Space Enable, Bus Master Enable, MSI-X
enable or the D0/D3hot state, changing host-path liveness and request issue. -/
def execPcieConfigWrite (h : Hdr) (mse bme msixEn d3hot : Bool) (mrrs : Nat) (s : State) : Host.Outcome State Fault Refusal :=
  s.onLane h fun l => if decide (mrrs < 6) then l.whenAlive (opPcieConfig · mse bme msixEn d3hot mrrs) else l

end Sys2Proof.Machine
end

