-- ==== Sys2Proof/Machine/CmdIntegrity.lean ====
section
/-! DEFINITION. Commands of memory, lock-step, parity and debug access: one meaning per row of the command table. -/

namespace Sys2Proof.Machine

/-- SHM_ACCESS (10 R238): An arbitrated SHM, ROM or Chill RAM line access is served with inner correction. -/
def execShmAccess (h : Hdr) (src addr : Nat) (data : Option (List Byte)) (e : Machine.LineErr)
    (s : State) : Host.Outcome State Fault Refusal :=
  s.onLane h fun l => l.whenAlive (opBusAccess (s.start h) · src addr data e)

/-- OUTER_CHECK_RESULT (10 R241): The outer check completes 2 cycles after delivery, and a failure registers trigger 0x03. -/
def execOuterCheckResult (h : Hdr) (s : State) : Host.Outcome State Fault Refusal :=
  s.onLane h fun l => l.whenAlive opOuterCheck

/-- CE_WRITE_BACK (10 R239): The corrected word is written back unless a newer write has reached the line. -/
def execCeWriteBack (h : Hdr) (s : State) : Host.Outcome State Fault Refusal :=
  s.onLane h fun l => l.whenAlive opWriteBack

/-- WRITE_VERIFY_READ (10 R242): Within 32 cycles of a line write the check bits are re-read, and a difference is
WRITE_VERIFY. -/
def execWriteVerifyRead (h : Hdr) (e : Machine.LineErr) (s : State) : Host.Outcome State Fault Refusal :=
  s.onLane h fun l => l.whenAlive (opWriteVerify · e)

/-- SCRUB_READ (10 R243): The scrubber reads the next line every RATE cycles and applies the codes. -/
def execScrubRead (h : Hdr) (e : Machine.LineErr) (s : State) : Host.Outcome State Fault Refusal :=
  s.onLane h fun l => l.whenAlive (opScrub · e)

/-- PARK_SCRUB (10 R244): In PARK the always-on domain scrubs one Chill RAM line per 64 µs. -/
def execParkScrub (h : Hdr) (e : Machine.LineErr) (s : State) : Host.Outcome State Fault Refusal :=
  s.onLane h fun l => opParkScrub l e

/-- LOCKSTEP_MISMATCH (10 R248): A comparator registers a lock-step mismatch, raising trigger 0x01 unless debug is granted. -/
def execLockstepMismatch (h : Hdr) (k : Nat) (s : State) : Host.Outcome State Fault Refusal :=
  s.onLane h fun l => if decide (k ≤ 10) then l.whenAlive (opMismatch · k) else l

/-- COMPARATOR_SELFTEST (10 R248): Every 2^20 cycles each comparator's forced difference is checked. -/
def execComparatorSelftest (h : Hdr) (fails : BitVec 11) (s : State) : Host.Outcome State Fault Refusal :=
  s.onLane h fun l => l.whenAlive (opSelfTest · fails)

/-- PARITY_ERROR (10 R253): A stored configuration bit changes without a write, raising trigger 0x04. -/
def execParityError (h : Hdr) (off b : Nat) (entry : Option Nat) (s : State) : Host.Outcome State Fault Refusal :=
  s.onLane h fun l =>
    if isOffset off && decide (b < if entry.isSome then 192 else 32) && entry.all isEntry then l.whenAlive (opParity (s.start h) · off b entry) else l

/-- TAP_OPEN_INSTRUCTION (10 R250): An open TAP instruction loads with no effect on lock-step. -/
def execTapOpenInstruction (h : Hdr) (ir : Machine.TapIr) (s : State) : Host.Outcome State Fault Refusal :=
  s.onLane h fun l => if !ir.attaching then l.whenAlive (opTapOpen · ir) else l

/-- TAP_ATTACH (10 R250): An attaching instruction at Update-IR latches DEBUG_UNLOCKED, raises cause 0x15 and awaits its
grant. -/
def execTapAttach (h : Hdr) (ir : Machine.TapIr) (code : BitVec 8) (s : State) : Host.Outcome State Fault Refusal :=
  s.onLane h fun l => if ir.attaching then opTapAttach l ir code else l

/-- DEBUG_GRANT (10 R251): A waiting attach is granted once the lane is not ACTIVE, and comparison stops until a power cycle.
-/
def execDebugGrant (h : Hdr) (s : State) : Host.Outcome State Fault Refusal :=
  s.onLane h fun l => l.whenAlive opDebugGrant

/-- TAP_RESET (10 R249): TRST_N_x asynchronously resets the TAP and ends a pending attach request. -/
def execTapReset (h : Hdr) (s : State) : Host.Outcome State Fault Refusal :=
  s.onLane h fun l => l.whenPowered opTapReset

/-- IG_INJ_WRITE (10 R255): A write to IG_INJ arms an error injection, or is refused. -/
def execIgInjWrite (h : Hdr) (w : Wr) (s : State) : Host.Outcome State Fault Refusal :=
  s.onLane h fun l => l.landWrite Reg.IG_INJ w

/-- IG_UEINFO_VALID_CLEAR (10 R240): Writing 0 to IG_UEINFO.VALID releases the UE capture. -/
def execIgUeinfoValidClear (h : Hdr) (q : Requester) (s : State) : Host.Outcome State Fault Refusal :=
  s.onLane h fun l => l.landWrite (Reg.IG_UEINFO) ⟨q, 0, 0xF⟩

end Sys2Proof.Machine
end

