-- ==== Sys2Proof/Machine/CmdPower.lean ====
section
/-! DEFINITION. Commands of supplies, lane starts, low power and wake: one meaning per row of the command table. -/

namespace Sys2Proof.Machine

/-- POWER_ON (15 R352): VIN_x rises above VPOR and the always-on domain takes its power-on reset, initialising Chill RAM and
clearing DEBUG_UNLOCKED. -/
def execPowerOn (h : Hdr) (mirror : Bool) (s : State) : Host.Outcome State Fault Refusal :=
  s.onLane h fun l => opPowerOn l mirror

/-- VPOR_LOSS (15 R351): VIN_x falls below VPOR, the always-on domain loses power and Chill RAM is lost. -/
def execVporLoss (h : Hdr) (s : State) : Host.Outcome State Fault Refusal :=
  s.onLane h fun l => l.whenPowered opVporLoss

/-- VIN_BELOW_VRST (08 R198): VIN_x stays below VRST for 64 cycles, registering trigger 0x06, dropping the token and asserting
lane reset 32 cycles later. -/
def execVinBelowVrst (h : Hdr) (s : State) : Host.Outcome State Fault Refusal :=
  s.onLane h fun l => opVrst l

/-- VRST_RECOVER (15 R351): VIN_x has stood above VRST + 0.3 V for 1.0 ms, so the lane leaves reset and restarts. -/
def execVrstRecover (h : Hdr) (factoryOk : Bool) (s : State) : Host.Outcome State Fault Refusal :=
  s.onLane h fun l => l.whenPowered (opVrstRecover · factoryOk)

/-- VWARN_TRIP (15 R350): VIN_x stays below VWARN for WFILT µs, setting VLOW and VWARN, firing vector 9, writing an EVT record
and setting the Sprue VWARN bit. -/
def execVwarnTrip (h : Hdr) (s : State) : Host.Outcome State Fault Refusal :=
  s.onLane h fun l => opVwarn l

/-- VWARN_CLEAR (15 R350): VIN_x rises above VWARN + 0.2 V, clearing VLOW and the Sprue VWARN bit. -/
def execVwarnClear (h : Hdr) (s : State) : Host.Outcome State Fault Refusal :=
  s.onLane h fun l => l.whenPowered opVwarnClear

/-- RST_N (15 R352): RST_N_x is asserted and released, a lane start of kind 2 that samples LSMODE_x on the rising edge. -/
def execRstN (h : Hdr) (mirror : Bool) (s : State) : Host.Outcome State Fault Refusal :=
  s.onLane h fun l => opRstN l mirror

/-- CLOCK_LOSS (01 R25): The PLL loses lock or CLK stays outside 250 MHz ±2 % for 8 µs, so the lane is held in reset and
CLOCK_LOSS is recorded in Chill RAM. -/
def execClockLoss (h : Hdr) (s : State) : Host.Outcome State Fault Refusal :=
  s.onLane h fun l => opClockLoss l

/-- RESET_RELEASE (15 R353): The supplies, PLL and RST_N_x are all good, so the lane leaves reset, enters SETUP and begins SVC
boot, VDRV soft-start and Shakeout. -/
def execResetRelease (h : Hdr) (factoryOk : Bool) (s : State) : Host.Outcome State Fault Refusal :=
  s.onLane h fun l => opRelease l factoryOk

/-- SHAKEOUT_TEST_COMPLETE (11 R260): A start Shakeout test reaches the end of its fixed duration; its result goes to
TS_TESTk, and after test 15 DONE is set and an EVT record is written. -/
def execShakeoutTestComplete (h : Hdr) (cells : List Nat) (restore : Nat) (gates : List Machine.CellMeas)
    (levels : List Int) (s : State) : Host.Outcome State Fault Refusal :=
  s.onLane h fun l => if decide (restore < 3) then l.whenAwake (opTestComplete · cells restore gates levels) else l

/-- RESTORE_SAVE_LIST (15 R369): After a wake from PARK and TS_SHK.DONE, the hardware checks the Chill RAM save record and
writes the listed items back, or sets RESTORE_FAIL. -/
def execRestoreSaveList (h : Hdr) (verdict : Nat) (s : State) : Host.Outcome State Fault Refusal :=
  s.onLane h fun l => if decide (verdict < 4) then opRestore l verdict else l

/-- SOLO_EXPIRY (15 R356): SOLO ms run out with only RESTING lanes heard, so the lane claims on its own word and sets
SOLO_CLAIM. -/
def execSoloExpiry (h : Hdr) (s : State) : Host.Outcome State Fault Refusal :=
  s.onLane h fun l => l.whenAlive opSolo

/-- PW_WAIT (15 R361): A WAIT write to PW_CMD is accepted or refused, and an accepted WAIT begins the entry sequence into
PW_MODE.MODE. -/
def execPwWait (h : Hdr) (q : Requester) (s : State) : Host.Outcome State Fault Refusal :=
  s.onLane h fun l => l.landWrite (Reg.PW_CMD) ⟨q, 1, 0xF⟩

/-- LOW_POWER_ENTRY_ISOLATED (15 R362): The LEVELS word confirming isolation arrives during an entry sequence, which then
saves state, clamps islands and removes rails. -/
def execLowPowerEntryIsolated (h : Hdr) (s : State) : Host.Outcome State Fault Refusal :=
  s.onLane h fun l => l.whenAlive opIsolated

/-- PW_WAKE (15 R366): A WAKE write to PW_CMD wakes the lane from DOZE. -/
def execPwWake (h : Hdr) (q : Requester) (s : State) : Host.Outcome State Fault Refusal :=
  s.onLane h fun l => l.landWrite (Reg.PW_CMD) ⟨q, 2, 0xF⟩

/-- WAKE_PIN (15 R366): WAKE_x holds its WK_POL level for 10 µs and wakes the lane from DOZE or PARK. -/
def execWakePin (h : Hdr) (s : State) : Host.Outcome State Fault Refusal :=
  s.onLane h fun l => l.whenPowered opWakePin

/-- WAKE_SPRUE (15 R366): A dominant level of at least DOM µs on SPA_RX_x or SPB_RX_x wakes the lane. -/
def execWakeSprue (h : Hdr) (b : Nat) (s : State) : Host.Outcome State Fault Refusal :=
  s.onLane h fun l => if isBus b then l.whenPowered (opWakeSprue · b) else l

/-- WAKE_PPS (15 R366): The PPSN-th PPS edge after entry wakes the lane. -/
def execWakePps (h : Hdr) (s : State) : Host.Outcome State Fault Refusal :=
  s.onLane h fun l => l.whenPowered opWakePps

/-- DOZE_WAKE_COMPLETE (15 R367): The gated islands finish powering up after a DOZE wake, and the lane returns to RUN as SPARE
or per its health. -/
def execDozeWakeComplete (h : Hdr) (s : State) : Host.Outcome State Fault Refusal :=
  s.onLane h fun l => opDozeWake l

/-- PW_PAD_RELEASE (15 R371): A keyed RELEASE write to PW_PADREL, or the AUTOREL self-write, releases the latched pads and
restarts the feedback units from live levels. -/
def execPwPadRelease (h : Hdr) (q : Requester) (s : State) : Host.Outcome State Fault Refusal :=
  s.onLane h fun l => l.landWrite (Reg.PW_PADREL) ⟨q, 1, 0xF⟩

/-- SVC_BOOT_END (15 R353): The 0.30 ms SVC boot with OTP record checks ends and start Shakeout test 0 begins. -/
def execSvcBootEnd (h : Hdr) (s : State) : Host.Outcome State Fault Refusal :=
  s.onLane h fun l => opBootEnd l

end Sys2Proof.Machine
end

