-- ==== Sys2Proof/Machine/CmdRegister.lean ====
section
/-! DEFINITION. Commands that write or read the registers of a lane: one meaning per row of the command table. -/

namespace Sys2Proof.Machine

/-- SYS_KEY_WRITE (16 R384): A write to SYS_KEY arms the writer's key with 0xC1E7, or disarms it, sets KEY_BAD and counts any
other value. -/
def execSysKeyWrite (h : Hdr) (w : Wr) (s : State) : Host.Outcome State Fault Refusal :=
  s.onLane h fun l => l.landWrite Reg.SYS_KEY w

/-- REGISTER_WRITE (16 R377): A write to a register with no row of its own lands, and each field is applied, skipped or
refused under its access code. -/
def execRegisterWrite (h : Hdr) (off : Nat) (w : Wr) (s : State) : Host.Outcome State Fault Refusal :=
  s.onLane h fun l => if isOffset off then l.landWrite off w else l

/-- STATUS_READ (16 R381): A read of a status register records the SEQ it returns and makes the reader's token FRESH. -/
def execStatusRead (h : Hdr) (q : Requester) (off : Nat) (s : State) : Host.Outcome State Fault Refusal :=
  s.onLane h fun l => if isStatusOffset off then l.readAt (s.start h) q off else l

/-- STATUS_WRITE_BACK (16 R382): A write to a status register or LN_REPLACE clears the written flags only with a FRESH token
and a matching SEQ, and otherwise counts STALE. -/
def execStatusWriteBack (h : Hdr) (off : Nat) (w : Wr) (s : State) : Host.Outcome State Fault Refusal :=
  s.onLane h fun l => if isStatusOffset off then l.landWrite off w else l

/-- SYS_CLKLO_READ (16 R376): A read of SYS_CLKLO latches CLKHI from the same cycle for that requester. -/
def execSysClkloRead (h : Hdr) (q : Requester) (s : State) : Host.Outcome State Fault Refusal :=
  s.onLane h fun l => l.readAt (s.start h) q 0x0024

/-- TL_WSEC_LO_READ (16 R376): A read of TL_WSEC_LO latches SEC_HI and NS from the same cycle. -/
def execTlWsecLoRead (h : Hdr) (q : Requester) (s : State) : Host.Outcome State Fault Refusal :=
  s.onLane h fun l => l.readAt (s.start h) q 0x1200

/-- TL_PERR_READ (16 R379): A read of TL_PERR returns the largest prediction error and clears it. -/
def execTlPerrRead (h : Hdr) (q : Requester) (s : State) : Host.Outcome State Fault Refusal :=
  s.onLane h fun l => l.readAt (s.start h) q 0x1034

/-- CV_JIT_READ (16 R379): A read of CV_JIT returns the largest jit and clears it. -/
def execCvJitRead (h : Hdr) (q : Requester) (s : State) : Host.Outcome State Fault Refusal :=
  s.onLane h fun l => l.readAt (s.start h) q 0x2010

/-- SF_SFE_READ (16 R379): A read of SF_SFE returns MAXCYC and clears it. -/
def execSfSfeRead (h : Hdr) (q : Requester) (s : State) : Host.Outcome State Fault Refusal :=
  s.onLane h fun l => l.readAt (s.start h) q 0x500C

/-- LN_TKO_READ (16 R379): A read of LN_TKO returns MAX and clears it. -/
def execLnTkoRead (h : Hdr) (q : Requester) (s : State) : Host.Outcome State Fault Refusal :=
  s.onLane h fun l => l.readAt (s.start h) q 0x4820

/-- LN_PEER_READ (16 R379): A read of LN_PEERk returns BADFRAME and clears it. -/
def execLnPeerRead (h : Hdr) (q : Requester) (k : Nat) (s : State) : Host.Outcome State Fault Refusal :=
  s.onLane h fun l => if isPeer k then l.readAt (s.start h) q (0x4830 + 4 * k) else l

/-- HR_SVC_READ (16 R379): A read of HR_SVC returns LONGEST and clears it. -/
def execHrSvcRead (h : Hdr) (q : Requester) (s : State) : Host.Outcome State Fault Refusal :=
  s.onLane h fun l => l.readAt (s.start h) q 0x70A4

/-- FB_SENTS_READ (16 R379): A read of FB_SENTSn returns the serial message and clears NEW. -/
def execFbSentsRead (h : Hdr) (q : Requester) (n : Nat) (s : State) : Host.Outcome State Fault Refusal :=
  s.onLane h fun l => if isHallUnit n then l.readAt (s.start h) q (0x18E4 + 0x80 * n) else l

end Sys2Proof.Machine
end

