-- ==== Sys2Proof/Machine/CmdRunner.lean ====
section
/-! DEFINITION. Commands at the Runner port of the lane die, and gate-drive registers: one meaning per row of the command table. -/

namespace Sys2Proof.Machine

/-- ALIGN_PERIODIC (07 R160): The lane die sends an ALIGN word every 4,096 blocks. -/
def execAlignPeriodic (h : Hdr) (s : State) : Host.Outcome State Fault Refusal :=
  s.onLane h fun l => l.whenAlive opAlignPeriodic

/-- GD_DT_WRITE (07 R167): A write to GD_DT chooses and locks the dead time, or is refused. -/
def execGdDtWrite (h : Hdr) (w : Wr) (s : State) : Host.Outcome State Fault Refusal :=
  s.onLane h fun l => l.landWrite Reg.GD_DT w

/-- GD_FCLR_PERSIST (07 R174): The PERSIST bit clears every persistent-gate latch and counter. -/
def execGdFclrPersist (h : Hdr) (q : Requester) (s : State) : Host.Outcome State Fault Refusal :=
  s.onLane h fun l => l.landWrite (Reg.GD_FCLR) ⟨q, 2, 0xF⟩

/-- GD_FCLR_CHOP (07 R178): The CHOP bit clears CHOP_FAULT. -/
def execGdFclrChop (h : Hdr) (q : Requester) (s : State) : Host.Outcome State Fault Refusal :=
  s.onLane h fun l => l.landWrite (Reg.GD_FCLR) ⟨q, 1, 0xF⟩

/-- GD_REGISTER_WRITE (07 R184): An accepted write to a GD_ register queues its CFG words to the gate-drive die. -/
def execGdRegisterWrite (h : Hdr) (off : Nat) (w : Wr) (s : State) : Host.Outcome State Fault Refusal :=
  s.onLane h fun l => if isGdOffset off then l.landWrite off w else l

/-- CHOP_CURRENT_VERDICT (07 R178): The lane die judges a chopper turn-on's current results and sends CHOPFLT if none reaches
CHOP_IMIN. -/
def execChopCurrentVerdict (h : Hdr) (s : State) : Host.Outcome State Fault Refusal :=
  s.onLane h fun l => l.whenAlive opChopVerdict

/-- RETURN_BLOCK_VERIFY (07 R158): The lane die verifies a return block, which is a gate-drive heartbeat, or discards it. -/
def execReturnBlockVerify (h : Hdr) (w0 w1 w2 ck : Word) (s : State) : Host.Outcome State Fault Refusal :=
  s.onLane h fun l => l.whenAlive (opReturnVerify · w0 w1 w2 ck)

/-- LEVELS_WORD (07 R183): A LEVELS word updates GD_STATE, the token-held and isolated view and VDRV good. -/
def execLevelsWord (h : Hdr) (w : Word) (s : State) : Host.Outcome State Fault Refusal :=
  s.onLane h fun l => l.returnOf 2 w

/-- EVENT_WORD (07 R183): An EVENT word sets its GD_STATUS flag and writes an EVT record. -/
def execEventWord (h : Hdr) (w : Word) (s : State) : Host.Outcome State Fault Refusal :=
  s.onLane h fun l => l.returnOf 1 w

/-- FBLK_WORD (07 R159): An FBLK word reports a failed forward block, counting RUN_LOST and judging Runner CRC loss. -/
def execFblkWord (h : Hdr) (w : Word) (s : State) : Host.Outcome State Fault Refusal :=
  s.onLane h fun l => l.returnOf 4 w

/-- CFGCRC_WORD (07 R184): A CFGCRC word is compared with the lane die's CRC, and two mismatches set CFG_MISMATCH. -/
def execCfgcrcWord (h : Hdr) (w : Word) (s : State) : Host.Outcome State Fault Refusal :=
  s.onLane h fun l => l.returnOf 3 w

/-- GD_LOST (07 R159): No return block has been verified for 500 cycles, so GD_LOST raises a persistent gate-drive fault. -/
def execGdLost (h : Hdr) (s : State) : Host.Outcome State Fault Refusal :=
  s.onLane h fun l => l.whenAlive opGdLost

/-- RUNNER_BLOCK_SEND (07 R163): Every 16 cycles the lane-die Runner port begins a block, fills its payload slots by class
with ALIGN in slot 0, and drops commands with less than 520 cycles of lead. -/
def execRunnerBlockSend (h : Hdr) (s : State) : Host.Outcome State Fault Refusal :=
  s.onLane h fun l => l.whenAlive opBlockSend

end Sys2Proof.Machine
end

