-- ==== Sys2Proof/Machine/CmdSafety.lean ====
section
/-! DEFINITION. Commands of the safety functions and brakes: one meaning per row of the command table. -/

namespace Sys2Proof.Machine

/-- SFE_EVALUATION (09 R216): The SFE evaluates SLS, SLP and SDI for an axis at its LOOP_START and takes reactions when
counters reach RT. -/
def execSfeEvaluation (h : Hdr) (n : Nat) (katOk : Bool) (s : State) : Host.Outcome State Fault Refusal :=
  s.onLane h fun l => if isAxis n then l.whenAwake (opEvaluate · n katOk) else l

/-- SFE_DEADLINE (09 R231): An evaluation is not complete 240 cycles after its LOOP_START, so trigger 0x08 is raised. -/
def execSfeDeadline (h : Hdr) (n : Nat) (s : State) : Host.Outcome State Fault Refusal :=
  s.onLane h fun l => if isAxis n then l.whenAwake (opSfeDeadline · n) else l

/-- SFE_EVAL_RATE_TIMEOUT (09 R231): No evaluation of an enabled axis completes for 4 × PER, so trigger 0x08 is raised. -/
def execSfeEvalRateTimeout (h : Hdr) (n : Nat) (s : State) : Host.Outcome State Fault Refusal :=
  s.onLane h fun l => if isAxis n then l.whenAwake (opSfeRate · n) else l

/-- SF_PROF_WRITE (09 R218): A SF_CTRL.PROF write selects an SLS profile, applied unless LIMP is forced. -/
def execSfProfWrite (h : Hdr) (w : Wr) (s : State) : Host.Outcome State Fault Refusal :=
  s.onLane h fun l => l.landWrite Reg.SF_CTRL w

/-- SF_RESUME (09 R229): RESUME bits request clearing of latched reactions at the next evaluation, or are refused. -/
def execSfResume (h : Hdr) (w : Wr) (s : State) : Host.Outcome State Fault Refusal :=
  s.onLane h fun l => l.landWrite Reg.SF_CMD w

/-- BRAKE_RELEASE (09 R228): At the first driven period start after START the brake state becomes RELEASED and BRL is driven
high. -/
def execBrakeRelease (h : Hdr) (n : Nat) (s : State) : Host.Outcome State Fault Refusal :=
  s.onLane h fun l => if isAxis n then l.whenAwake (opBrakeRelease · n) else l

/-- BRAKE_APPLY_START (09 R227): At T_a the motor gates of a BRAKE axis go off and the apply ramp begins. -/
def execBrakeApplyStart (h : Hdr) (n : Nat) (s : State) : Host.Outcome State Fault Refusal :=
  s.onLane h fun l => if isAxis n then l.whenAwake (opBrakeApply · n) else l

/-- BRAKE_RAMP_PERIOD (09 R228): A ramp period starts, driving BRL with a falling high-time and ending in APPLIED with SAFE.
-/
def execBrakeRampPeriod (h : Hdr) (n : Nat) (s : State) : Host.Outcome State Fault Refusal :=
  s.onLane h fun l => if isAxis n then l.whenAwake (opBrakeRamp · n) else l

end Sys2Proof.Machine
end

