-- ==== Sys2Proof/Machine/CmdSprue.lean ====
section
/-! DEFINITION. Commands of the Sprue ports: one meaning per row of the command table. -/

namespace Sys2Proof.Machine

/-- SLOT_START (12 R289): LEN × 1,250 cycles after the previous slot, the master starts the next enabled slot and hands its
poll to the controller. -/
def execSlotStart (h : Hdr) (b : Nat) (s : State) : Host.Outcome State Fault Refusal :=
  s.onLane h fun l => if isBus b then l.whenAlive (opSlotStart · b) else l

/-- SLOT_END (12 R292): A slot ends, and the master records RESP_MISSING if no valid response came. -/
def execSlotEnd (h : Hdr) (b : Nat) (s : State) : Host.Outcome State Fault Refusal :=
  s.onLane h fun l => if isBus b then l.whenAlive (opSlotEnd · b) else l

/-- SPRUE_POLL_RECEIVE (12 R291): A valid POLL is received, adopting its mode and queuing any response. -/
def execSpruePollReceive (h : Hdr) (b ident : Nat) (bs : List Byte) (s : State) : Host.Outcome State Fault Refusal :=
  s.onLane h fun l => if isBus b then l.hwUpdate (s.start h) [Reg.TL_WRATE] (·.whenAlive (opPollRecv · b ident bs)) else l

/-- SPRUE_RESPONSE_RECEIVE (12 R293): A valid RESPONSE is received, recording SEEN and the mode-change ACK or NAK at the
master. -/
def execSprueResponseReceive (h : Hdr) (b ident : Nat) (bs : List Byte) (s : State) : Host.Outcome State Fault Refusal :=
  s.onLane h fun l => if isBus b then l.whenAlive (opRespRecv · b ident bs) else l

/-- FOREIGN_FRAME (12 R283): A frame with a foreign identifier or format is acknowledged, ignored and counted. -/
def execForeignFrame (h : Hdr) (b : Nat) (s : State) : Host.Outcome State Fault Refusal :=
  s.onLane h fun l => if isBus b then l.whenAlive (opForeign · b) else l

/-- TX_ECHO (12 R302): A lane's own frame is received and its envelope compared; two differences lose the path. -/
def execTxEcho (h : Hdr) (b : Nat) (bs : List Byte) (tdcv : Nat) (s : State) : Host.Outcome State Fault Refusal :=
  s.onLane h fun l => if isBus b then l.whenAlive (opTxEcho · b bs tdcv) else l

/-- RESPONSE_WITHDRAW (12 R291): At the slave's slot end an unstarted retransmission is withdrawn. -/
def execResponseWithdraw (h : Hdr) (b : Nat) (s : State) : Host.Outcome State Fault Refusal :=
  s.onLane h fun l => if isBus b then l.whenAlive (opRespWithdraw · b) else l

/-- POLL_ERROR (12 R297): A master's own poll ends in a bit or form error, and three in a row set RANK_CLASH. -/
def execPollError (h : Hdr) (b : Nat) (s : State) : Host.Outcome State Fault Refusal :=
  s.onLane h fun l => if isBus b then l.whenAlive (opPollError · b) else l

/-- IDLE_WAIT_EXPIRY (12 R295): The bus has been idle for IDLEW, so the node becomes master at its next slot-0 event. -/
def execIdleWaitExpiry (h : Hdr) (b : Nat) (s : State) : Host.Outcome State Fault Refusal :=
  s.onLane h fun l => if isBus b then l.whenAlive (opIdleWait · b) else l

/-- BUS_OFF (12 R303): The controller enters bus-off, ending mastership and setting BUS_OFF. -/
def execBusOff (h : Hdr) (b : Nat) (s : State) : Host.Outcome State Fault Refusal :=
  s.onLane h fun l => if isBus b then l.whenAlive (opBusOff · b) else l

/-- ERR_PASSIVE (12 R303): The controller enters error-passive. -/
def execErrPassive (h : Hdr) (b tec rec_ : Nat) (s : State) : Host.Outcome State Fault Refusal :=
  s.onLane h fun l => if isBus b then l.whenAlive (opErrPassive · b tec rec_) else l

/-- BUS_OFF_RECOVERY (12 R303): Bus-off recovery completes, and the node answers polls and starts an idle wait. -/
def execBusOffRecovery (h : Hdr) (b : Nat) (s : State) : Host.Outcome State Fault Refusal :=
  s.onLane h fun l => if isBus b then l.whenAlive (opBusRecovery · b) else l

/-- SP_PEND_WRITE (12 R293): A write to SP_MODE.PEND or PEND_VALID requests, replaces or withdraws a mode change. -/
def execSpPendWrite (h : Hdr) (b : Nat) (w : Wr) (s : State) : Host.Outcome State Fault Refusal :=
  s.onLane h fun l => if isBus b then l.landWrite (Reg.SP_MODE b) w else l

/-- SP_TABLE_WRITE (12 R288): A write to SP_TWDATA stores a slot entry and re-checks the mode, or is refused. -/
def execSpTableWrite (h : Hdr) (b : Nat) (w : Wr) (s : State) : Host.Outcome State Fault Refusal :=
  s.onLane h fun l => if isBus b then l.landWrite (Reg.SP_TWDATA b) w else l

/-- ENV_WATCHDOG (13 R315): WDOG µs pass without an accepted message, so the connection enters FAULT. -/
def execEnvWatchdog (h : Hdr) (k : Nat) (s : State) : Host.Outcome State Fault Refusal :=
  s.onLane h fun l => if isConn k then l.whenAwake (opEnvWatchdog · k) else l

/-- SPRUE_SOF (12 R295): A start of frame appears on a Sprue bus: WCLK is captured for a cycle-start poll and the idle wait
restarts, cancelling a pending master start. -/
def execSprueSof (h : Hdr) (b : Nat) (own lost : Bool) (s : State) : Host.Outcome State Fault Refusal :=
  s.onLane h fun l => if isBus b then l.whenAlive (opSof · b own lost) else l

end Sys2Proof.Machine
end

