-- ==== Sys2Proof/Machine/CmdTakeover.lean ====
section
/-! DEFINITION. Commands of the Riser, the takeover and the mirror: one meaning per row of the command table. -/

namespace Sys2Proof.Machine

/-- TOKEN_LINE_CHANGE (08 R192): A peer's token line changes state, prompting a release, a yield or a split as the claim rules
apply. -/
def execTokenLineChange (h : Hdr) (k : Nat) (line : Machine.Line) (s : State) : Host.Outcome State Fault Refusal :=
  s.onLane h fun l => if isPeer k then l.whenAlive (opLine · k line) else l

/-- HEARTBEAT_SEND (08 R193): Every 256 cycles the lane sends a heartbeat on both Riser ports. -/
def execHeartbeatSend (h : Hdr) (s : State) : Host.Outcome State Fault Refusal :=
  s.onLane h fun l => l.whenAlive opHeartbeatSend

/-- HEARTBEAT_RECEIVE (08 R190): A heartbeat is verified, updating peer state, the module condition and the axis-configuration
comparison. -/
def execHeartbeatReceive (h : Hdr) (k : Nat) (w0 w1 w2 w3 w4 : Word) (s : State) : Host.Outcome State Fault Refusal :=
  s.onLane h fun l => if isPeer k then l.whenAlive (opHeartbeatRecv · k w0 w1 w2 w3 w4) else l

/-- AXCFG_MISMATCH (01 R31): HBTO after RUN entry no equal axis-configuration word has been heard, so AXCFG_MISMATCH and cause
0x17 are raised. -/
def execAxcfgMismatch (h : Hdr) (s : State) : Host.Outcome State Fault Refusal :=
  s.onLane h fun l => l.whenAlive opAxcfgMismatch

/-- PEER_SILENT (08 R194): A peer is silent for HBTO, so it is declared silent-released or RISER_LOST is reported. -/
def execPeerSilent (h : Hdr) (k : Nat) (s : State) : Host.Outcome State Fault Refusal :=
  s.onLane h fun l => if isPeer k then l.whenAlive (opPeerSilent · k) else l

/-- RISER_LINK_RESTORED (08 R195): Frames are verified again for 1 ms, clearing cause 0x14. -/
def execRiserLinkRestored (h : Hdr) (k : Nat) (s : State) : Host.Outcome State Fault Refusal :=
  s.onLane h fun l => if isPeer k then l.whenAlive (opLinkRestored · k) else l

/-- SELF_DIAGNOSIS_TRIGGER (08 R196): A trigger of Table 8.3 makes the lane FAILED, drops any token and isolates the
gate-drive die. -/
def execSelfDiagnosisTrigger (h : Hdr) (code detail : Nat) (s : State) : Host.Outcome State Fault Refusal :=
  s.onLane h fun l => if decide (1 ≤ code) && decide (code ≤ 0x0B) then l.whenAlive (opTrigger · code detail) else l

/-- DEFERRED_CAUSE (08 R197): A deferred cause arises and starts a controlled handover or takes effect at once. -/
def execDeferredCause (h : Hdr) (code detail : Nat) (s : State) : Host.Outcome State Fault Refusal :=
  s.onLane h fun l => if decide (0x10 ≤ code) && decide (code ≤ 0x17) then l.whenAlive (opDefer · code detail) else l

/-- HANDOVER_FRAME (08 R199): A STANDBY verifies a HANDOVER frame, claims and queues its TOKEN raise for T_h. -/
def execHandoverFrame (h : Hdr) (k th : Nat) (s : State) : Host.Outcome State Fault Refusal :=
  s.onLane h fun l => if isPeer k then l.whenAlive (opHandoverFrame · k th) else l

/-- HANDOVER_RETRY (08 R197): No CLAIM is seen by T_h − 700, so the holder retries at the next period start. -/
def execHandoverRetry (h : Hdr) (s : State) : Host.Outcome State Fault Refusal :=
  s.onLane h fun l => l.whenAlive opHandoverRetry

/-- HANDOVER_DROP (08 R197): At T_h − 32 the holder drops the token. -/
def execHandoverDrop (h : Hdr) (s : State) : Host.Outcome State Fault Refusal :=
  s.onLane h fun l => l.whenAlive opHandoverDrop

/-- HANDOVER_CHECK (08 R199): At T_r − 16 a STANDBY that has not seen the holder IDLE cancels its raise. -/
def execHandoverCheck (h : Hdr) (s : State) : Host.Outcome State Fault Refusal :=
  s.onLane h fun l => l.whenAlive opHandoverCheck

/-- CLAIM_START (08 R199): An eligible lane sees the token released and sets its line to CLAIM. -/
def execClaimStart (h : Hdr) (s : State) : Host.Outcome State Fault Refusal :=
  s.onLane h fun l => l.whenAlive opClaimStart

/-- CLAIM_HOLD (08 R199): 16 cycles pass without a higher claim, so the lane sets HOLD, sends its TOKEN raise and starts the
mirror. -/
def execClaimHold (h : Hdr) (s : State) : Host.Outcome State Fault Refusal :=
  s.onLane h fun l => l.whenAlive opClaimHold

/-- SPLIT_TIMEOUT (08 R200): No usable heartbeat arrives within 512 cycles of seeing a second HOLD, so the split is resolved
by rank. -/
def execSplitTimeout (h : Hdr) (s : State) : Host.Outcome State Fault Refusal :=
  s.onLane h fun l => l.whenAlive opSplitTimeout

/-- LANE_RECORD_SEND (08 R204): The holder sends the LANE record every 2,500 or 20,000 cycles. -/
def execLaneRecordSend (h : Hdr) (s : State) : Host.Outcome State Fault Refusal :=
  s.onLane h fun l => l.whenAlive opLaneSend

/-- AXIS_RECORD_RECEIVE (08 R204): A mirror AXIS record is verified and stored for adoption. -/
def execAxisRecordReceive (h : Hdr) (k seq : Nat) (crcOk : Bool) (n : Nat) (full : Bool) (r : Machine.AxisRec)
    (s : State) : Host.Outcome State Fault Refusal :=
  s.onLane h fun l =>
    if isPeer k && isAxis n then l.hwUpdate (s.start h) [Reg.FB_AOFF n] (·.whenAlive (opAxisRecv · k seq crcOk n full r)) else l

/-- LANE_RECORD_RECEIVE (08 R205): A LANE record is verified and adopted, including offsets, safety state, schedule mode and a
WCLK reference event. -/
def execLaneRecordReceive (h : Hdr) (k seq : Nat) (crcOk full : Bool) (r : Machine.LaneRec)
    (s : State) : Host.Outcome State Fault Refusal :=
  s.onLane h fun l =>
    if isPeer k then l.hwUpdate (s.start h) [Reg.TL_WRATE] (·.whenAlive (opLaneRecv · k seq crcOk full r)) else l

/-- ENV_RECORD_RECEIVE (13 R314): An ENV record sets an unsynchronised connection's sequence expectation. -/
def execEnvRecordReceive (h : Hdr) (k seq : Nat) (crcOk : Bool) (ident : Word) (path last : Nat)
    (s : State) : Host.Outcome State Fault Refusal :=
  s.onLane h fun l => if isPeer k then l.whenAlive (opEnvRecv · k seq crcOk ident path last) else l

/-- CONDITION_RECOUNT (08 R190): A HEALTHY lane has been heard as SPARE or STANDBY for 1 ms, so the holder recounts the
condition. -/
def execConditionRecount (h : Hdr) (k : Nat) (s : State) : Host.Outcome State Fault Refusal :=
  s.onLane h fun l => if isPeer k then l.whenAlive (opRecount · k) else l

/-- VIEW_DISAGREE (08 R209): A difference between management view and data path lasts 64 cycles, so the view is rewritten and
an EVT record is written. -/
def execViewDisagree (h : Hdr) (s : State) : Host.Outcome State Fault Refusal :=
  s.onLane h fun l => l.whenAlive opView

/-- PATH_CONFIRM (08 R211): The PCONF window ends, and a command-path loss is judged external or charged to lanes. -/
def execPathConfirm (h : Hdr) (p : Nat) (s : State) : Host.Outcome State Fault Refusal :=
  s.onLane h fun l => if isPath p then l.whenAlive (opPathConfirm · p) else l

/-- LN_HANDOVER (08 R197): HANDOVER in LN_CMD starts a handover as cause 0x16, or is refused. -/
def execLnHandover (h : Hdr) (q : Requester) (s : State) : Host.Outcome State Fault Refusal :=
  s.onLane h fun l => l.landWrite (Reg.LN_CMD) ⟨q, 1, 0xF⟩

/-- LN_LANE_RESET (15 R352): LANE_RESET in LN_CMD resets the lane, and is refused while ACTIVE. -/
def execLnLaneReset (h : Hdr) (q : Requester) (s : State) : Host.Outcome State Fault Refusal :=
  s.onLane h fun l => l.landWrite (Reg.LN_CMD) ⟨q, 2, 0xF⟩

/-- LN_ACK_SILENT (08 R203): ACK_SILENT in LN_CMD ends SILENT_HOLD and its forced LIMP. -/
def execLnAckSilent (h : Hdr) (q : Requester) (s : State) : Host.Outcome State Fault Refusal :=
  s.onLane h fun l => l.landWrite (Reg.LN_CMD) ⟨q, 3, 0xF⟩

end Sys2Proof.Machine
end

