-- ==== Sys2Proof/Machine/CmdTemper.lean ====
section
/-! DEFINITION. Commands of Shakeout and Temper: one meaning per row of the command table. -/

namespace Sys2Proof.Machine

/-- TS_CMD_RUN (11 R262): An on-demand Shakeout request runs the named tests or is refused. -/
def execTsCmdRun (h : Hdr) (w : Wr) (s : State) : Host.Outcome State Fault Refusal :=
  s.onLane h fun l => l.landWrite Reg.TS_CMD w

/-- GATE_CELL_STEP (11 R264): At the gate-cell interval the next off gate cell and shunt comparator are tested. -/
def execGateCellStep (h : Hdr) (m : Machine.CellMeas) (s : State) : Host.Outcome State Fault Refusal :=
  s.onLane h fun l => l.whenAwake (opGateCell · m)

/-- GATE_CELL_ABORT (11 R264): A cell under test is abandoned 1 cycle before a queued on word, and TEST_ABORT is counted. -/
def execGateCellAbort (h : Hdr) (s : State) : Host.Outcome State Fault Refusal :=
  s.onLane h fun l => l.whenAwake opGateAbort

/-- CHOPPER_BG_TEST (11 R263): At CINT the background chopper test is run. -/
def execChopperBgTest (h : Hdr) (s : State) : Host.Outcome State Fault Refusal :=
  s.onLane h fun l => l.whenAwake opChopBg

/-- TEMPER_INTERVAL (11 R268): At each TINT boundary Temper judges its quantities, steps VCORE, retrims and may write the
birth record. -/
def execTemperInterval (h : Hdr) (slacks : List Nat) (vinOk : Bool) (s : State) : Host.Outcome State Fault Refusal :=
  s.onLane h fun l => if decide (slacks.length = 48) then l.whenAwake (opTemper · slacks vinOk) else l

/-- BIRTH_WRITE_COMPLETE (11 R274): OTP programming of a birth record ends and its read-back is verified. -/
def execBirthWriteComplete (h : Hdr) (ok : Bool) (s : State) : Host.Outcome State Fault Refusal :=
  s.onLane h fun l => l.whenAlive (opBirthWrite · ok)

/-- PROGRESS_WORD_BURNED (11 R277): Burning of both OTP progress-word copies ends, after which the VCORE step or wear level
takes effect and any WAIT held for OTP programming begins. -/
def execProgressWordBurned (h : Hdr) (s : State) : Host.Outcome State Fault Refusal :=
  s.onLane h fun l => l.whenAlive opProgress

end Sys2Proof.Machine
end

