-- ==== Sys2Proof/Machine/CmdTimeline.lean ====
section
/-! DEFINITION. Commands of the timeline, timebases and event table: one meaning per row of the command table. -/

namespace Sys2Proof.Machine

/-- TL_PT_OFFSET_WRITE (02 R45): A write to TL_PTn_OFFSET steps the timebase by the offset difference and re-predicts its
entries. -/
def execTlPtOffsetWrite (h : Hdr) (n : Nat) (w : Wr) (s : State) : Host.Outcome State Fault Refusal :=
  s.onLane h fun l => if isUnit n then l.landWrite (Reg.TL_PT_OFFSET n) w else l

/-- PPS_EDGE (02 R47): A PPS_x rising edge is captured against WCLK, ignored as a glitch or accepted as a reference event. -/
def execPpsEdge (h : Hdr) (s : State) : Host.Outcome State Fault Refusal :=
  s.onLane h fun l => l.hwUpdate (s.start h) [Reg.TL_WRATE] (·.whenPads opPps)

/-- PPS_MISSING (02 R47): No PPS edge is accepted by 1.1 s after the last one, so PPS_MISSING is set and WCLK holds over on
TL_WRATE. -/
def execPpsMissing (h : Hdr) (s : State) : Host.Outcome State Fault Refusal :=
  s.onLane h fun l => l.whenAlive opPpsMissing

/-- TIME_ACCEPT_SLEW (02 R49): A SLEW acceptance ends a pending refusal and sets SLEWING. -/
def execTimeAcceptSlew (h : Hdr) (q : Requester) (s : State) : Host.Outcome State Fault Refusal :=
  s.onLane h fun l => l.landWrite (Reg.TL_TACCEPT) ⟨q, 1, 0xF⟩

/-- TIME_ACCEPT_STEP (02 R49): A STEP acceptance sets STEP_ARMED so that the next reference event steps WCLK. -/
def execTimeAcceptStep (h : Hdr) (q : Requester) (s : State) : Host.Outcome State Fault Refusal :=
  s.onLane h fun l => l.landWrite (Reg.TL_TACCEPT) ⟨q, 2, 0xF⟩

/-- TL_EVT_READ (02 R52): A READ command copies event entry INDEX into the TL_EVT_W0–W5 window. -/
def execTlEvtRead (h : Hdr) (q : Requester) (s : State) : Host.Outcome State Fault Refusal :=
  s.onLane h fun l => l.landWrite (Reg.TL_EVT_CMD) ⟨q, 1, 0xF⟩

/-- TL_EVT_COMMIT (02 R53): A COMMIT command writes the window words into entry INDEX, or refuses them. -/
def execTlEvtCommit (h : Hdr) (q : Requester) (s : State) : Host.Outcome State Fault Refusal :=
  s.onLane h fun l => l.landWrite (Reg.TL_EVT_CMD) ⟨q, 2, 0xF⟩

/-- ENTRY_BASE_INSTANT (02 R54): A WCLK-bound or predicted PT-bound entry reaches its base instant, starts its DELAY and
advances a repeating target. -/
def execEntryBaseInstant (h : Hdr) (k : Nat) (s : State) : Host.Outcome State Fault Refusal :=
  s.onLane h fun l => if isEntry k then l.whenAlive (opBaseInstant · k) else l

/-- RE_PREDICTION (02 R56): Re-prediction of an entry bound to a snapped timebase completes, and it fires if the snap carried
the timebase past an occurrence. -/
def execRePrediction (h : Hdr) (k : Nat) (s : State) : Host.Outcome State Fault Refusal :=
  s.onLane h fun l => if isEntry k then l.whenAlive (opRePredict · k) else l

/-- ADC_TRIG (04 R95): An ADC_TRIG action is dispatched and requests the named CONTROL sequence, or sets TRIG_BAD or
TRIG_LOST. -/
def execAdcTrig (h : Hdr) (s : State) : Host.Outcome State Fault Refusal :=
  s.onLane h fun l => l.dispatch 1 fun l d => l.adcTrig (d.arg % 256)

/-- LOOP_START (06 R133): A LOOP_START action latches TL_CAPL and arms the pass of each masked axis in DRIVE, or skips a pass
still waiting for its results. -/
def execLoopStart (h : Hdr) (s : State) : Host.Outcome State Fault Refusal :=
  s.onLane h fun l => l.dispatch 2 fun l d => if l.awake then l.each (members d.arg 6) Lane.loopStart else l

/-- EDGE_PERIOD_COMMIT (02 R58): A PERIOD edge commits at its lead, fixing the period start of the masked axes and requesting
PERIOD-triggered CONTROL sequences. -/
def execEdgePeriodCommit (h : Hdr) (k : Nat) (s : State) : Host.Outcome State Fault Refusal :=
  s.onLane h fun l => if isEntry k then l.whenAlive (opPeriodCommit · k) else l

/-- EDGE_SECTOR_COMMIT (05 R120): A SECTOR edge commits, and the commutator moves the rotor sector and sends or corrects gate
commands. -/
def execEdgeSectorCommit (h : Hdr) (k : Nat) (s : State) : Host.Outcome State Fault Refusal :=
  s.onLane h fun l => if isEntry k then l.whenAlive (opSectorCommit · k) else l

/-- EDGE_GATE_COMMIT (02 R58): A GATE edge commits and sends one Runner command for the named gate and level. -/
def execEdgeGateCommit (h : Hdr) (k : Nat) (s : State) : Host.Outcome State Fault Refusal :=
  s.onLane h fun l => if isEntry k then l.whenAlive (opGateCommit · k) else l

/-- DOORBELL (14 R328): A DOORBELL action starts a service that reads the doorbell block, or counts DB_BUSY. -/
def execDoorbell (h : Hdr) (s : State) : Host.Outcome State Fault Refusal :=
  s.onLane h fun l => l.whenAwake opDoorbell

/-- SPRUE_SLOT (12 R289): A SPRUE_SLOT action for a master port starts a slot; at slot 0 it decides the cycle's mode. -/
def execSprueSlot (h : Hdr) (s : State) : Host.Outcome State Fault Refusal :=
  s.onLane h fun l => l.whenAwake opSprueSlot

/-- TELEMETRY (14 R341): A TELEMETRY action forms the AXIS or LANE record that its ARG names, or sets TLM_BAD. -/
def execTelemetry (h : Hdr) (s : State) : Host.Outcome State Fault Refusal :=
  s.onLane h fun l => l.whenAwake opTelemetry

end Sys2Proof.Machine
end

