-- ==== Sys2Proof/Machine/Dispatch.lean ====
section
/-! DEFINITION. One arm per command. -/

namespace Sys2Proof.Machine

/-- The effect of a command on everything but the queue. -/
def exec (i : Instr) (s : State) : Host.Outcome State Fault Refusal :=
  match i with
  | .powerOn h mirror => Sys2Proof.Machine.execPowerOn h mirror s
  | .vporLoss h => Sys2Proof.Machine.execVporLoss h s
  | .vinBelowVrst h => Sys2Proof.Machine.execVinBelowVrst h s
  | .vrstRecover h factoryOk => Sys2Proof.Machine.execVrstRecover h factoryOk s
  | .vwarnTrip h => Sys2Proof.Machine.execVwarnTrip h s
  | .vwarnClear h => Sys2Proof.Machine.execVwarnClear h s
  | .rstN h mirror => Sys2Proof.Machine.execRstN h mirror s
  | .clockLoss h => Sys2Proof.Machine.execClockLoss h s
  | .resetRelease h factoryOk => Sys2Proof.Machine.execResetRelease h factoryOk s
  | .shakeoutTestComplete h cells restore gates levels => Sys2Proof.Machine.execShakeoutTestComplete h cells restore gates levels s
  | .restoreSaveList h verdict => Sys2Proof.Machine.execRestoreSaveList h verdict s
  | .soloExpiry h => Sys2Proof.Machine.execSoloExpiry h s
  | .pwWait h q => Sys2Proof.Machine.execPwWait h q s
  | .lowPowerEntryIsolated h => Sys2Proof.Machine.execLowPowerEntryIsolated h s
  | .pwWake h q => Sys2Proof.Machine.execPwWake h q s
  | .wakePin h => Sys2Proof.Machine.execWakePin h s
  | .wakeSprue h b => Sys2Proof.Machine.execWakeSprue h b s
  | .wakePps h => Sys2Proof.Machine.execWakePps h s
  | .dozeWakeComplete h => Sys2Proof.Machine.execDozeWakeComplete h s
  | .pwPadRelease h q => Sys2Proof.Machine.execPwPadRelease h q s
  | .sysKeyWrite h w => Sys2Proof.Machine.execSysKeyWrite h w s
  | .registerWrite h off w => Sys2Proof.Machine.execRegisterWrite h off w s
  | .statusRead h q off => Sys2Proof.Machine.execStatusRead h q off s
  | .statusWriteBack h off w => Sys2Proof.Machine.execStatusWriteBack h off w s
  | .sysClkloRead h q => Sys2Proof.Machine.execSysClkloRead h q s
  | .tlWsecLoRead h q => Sys2Proof.Machine.execTlWsecLoRead h q s
  | .tlPerrRead h q => Sys2Proof.Machine.execTlPerrRead h q s
  | .cvJitRead h q => Sys2Proof.Machine.execCvJitRead h q s
  | .sfSfeRead h q => Sys2Proof.Machine.execSfSfeRead h q s
  | .lnTkoRead h q => Sys2Proof.Machine.execLnTkoRead h q s
  | .lnPeerRead h q k => Sys2Proof.Machine.execLnPeerRead h q k s
  | .hrSvcRead h q => Sys2Proof.Machine.execHrSvcRead h q s
  | .fbSentsRead h q n => Sys2Proof.Machine.execFbSentsRead h q n s
  | .tlPtOffsetWrite h n w => Sys2Proof.Machine.execTlPtOffsetWrite h n w s
  | .ppsEdge h => Sys2Proof.Machine.execPpsEdge h s
  | .ppsMissing h => Sys2Proof.Machine.execPpsMissing h s
  | .timeAcceptSlew h q => Sys2Proof.Machine.execTimeAcceptSlew h q s
  | .timeAcceptStep h q => Sys2Proof.Machine.execTimeAcceptStep h q s
  | .tlEvtRead h q => Sys2Proof.Machine.execTlEvtRead h q s
  | .tlEvtCommit h q => Sys2Proof.Machine.execTlEvtCommit h q s
  | .entryBaseInstant h k => Sys2Proof.Machine.execEntryBaseInstant h k s
  | .rePrediction h k => Sys2Proof.Machine.execRePrediction h k s
  | .adcTrig h => Sys2Proof.Machine.execAdcTrig h s
  | .loopStart h => Sys2Proof.Machine.execLoopStart h s
  | .edgePeriodCommit h k => Sys2Proof.Machine.execEdgePeriodCommit h k s
  | .edgeSectorCommit h k => Sys2Proof.Machine.execEdgeSectorCommit h k s
  | .edgeGateCommit h k => Sys2Proof.Machine.execEdgeGateCommit h k s
  | .doorbell h => Sys2Proof.Machine.execDoorbell h s
  | .sprueSlot h => Sys2Proof.Machine.execSprueSlot h s
  | .telemetry h => Sys2Proof.Machine.execTelemetry h s
  | .quadCount h n a0 b0 a1 b1 => Sys2Proof.Machine.execQuadCount h n a0 b0 a1 b1 s
  | .doubleEdge h n => Sys2Proof.Machine.execDoubleEdge h n s
  | .indexEvent h n qz a b => Sys2Proof.Machine.execIndexEvent h n qz a b s
  | .fbArm h q n => Sys2Proof.Machine.execFbArm h q n s
  | .fbDisarm h q n => Sys2Proof.Machine.execFbDisarm h q n s
  | .aoffWrite h n w => Sys2Proof.Machine.execAoffWrite h n w s
  | .tooth h n falling qb => Sys2Proof.Machine.execTooth h n falling qb s
  | .threshLoad h n => Sys2Proof.Machine.execThreshLoad h n s
  | .hallChange h n hs => Sys2Proof.Machine.execHallChange h n hs s
  | .hallInvalidTimeout h n => Sys2Proof.Machine.execHallInvalidTimeout h n s
  | .sentFrame h n f => Sys2Proof.Machine.execSentFrame h n f s
  | .sentTimeout h n => Sys2Proof.Machine.execSentTimeout h n s
  | .speedDecay h n => Sys2Proof.Machine.execSpeedDecay h n s
  | .standstillTimeout h n => Sys2Proof.Machine.execStandstillTimeout h n s
  | .speedWindowEnd h n => Sys2Proof.Machine.execSpeedWindowEnd h n s
  | .fbFclrCounter h q n => Sys2Proof.Machine.execFbFclrCounter h q n s
  | .fbFclrHall h q n => Sys2Proof.Machine.execFbFclrHall h q n s
  | .fbFclrSent h q n => Sys2Proof.Machine.execFbFclrSent h q n s
  | .nominalInstant h k => Sys2Proof.Machine.execNominalInstant h k s
  | .controlSeqStart h => Sys2Proof.Machine.execControlSeqStart h s
  | .controlHold h => Sys2Proof.Machine.execControlHold h s
  | .monitorHold h check => Sys2Proof.Machine.execMonitorHold h check s
  | .monitorResume h => Sys2Proof.Machine.execMonitorResume h s
  | .conversionComplete h m sl raw => Sys2Proof.Machine.execConversionComplete h m sl raw s
  | .turnEnd h m t => Sys2Proof.Machine.execTurnEnd h m t s
  | .sliceSwap h m => Sys2Proof.Machine.execSliceSwap h m s
  | .cvSeqWrite h k w => Sys2Proof.Machine.execCvSeqWrite h k w s
  | .cvMonenWrite h w => Sys2Proof.Machine.execCvMonenWrite h w s
  | .cvRotWrite h w => Sys2Proof.Machine.execCvRotWrite h w s
  | .passStart h n => Sys2Proof.Machine.execPassStart h n s
  | .dutyArrival h n => Sys2Proof.Machine.execDutyArrival h n s
  | .cutOff h n => Sys2Proof.Machine.execCutOff h n s
  | .bemfEvaluate h n => Sys2Proof.Machine.execBemfEvaluate h n s
  | .zcMiss h n => Sys2Proof.Machine.execZcMiss h n s
  | .cmStart h q n => Sys2Proof.Machine.execCmStart h q n s
  | .cmStop h q n => Sys2Proof.Machine.execCmStop h q n s
  | .stopPeriodStart h n => Sys2Proof.Machine.execStopPeriodStart h n s
  | .leZero h q n => Sys2Proof.Machine.execLeZero h q n s
  | .leBankWrite h n w => Sys2Proof.Machine.execLeBankWrite h n w s
  | .leWindowWrite h w => Sys2Proof.Machine.execLeWindowWrite h w s
  | .runnerBlockVerify h w0 w1 w2 ck => Sys2Proof.Machine.execRunnerBlockVerify h w0 w1 w2 ck s
  | .commandWord h w => Sys2Proof.Machine.execCommandWord h w s
  | .isolateEnter h w => Sys2Proof.Machine.execIsolateEnter h w s
  | .isolateLeave h w => Sys2Proof.Machine.execIsolateLeave h w s
  | .chopflt h w => Sys2Proof.Machine.execChopflt h w s
  | .cfg h w => Sys2Proof.Machine.execCfg h w s
  | .safe h w => Sys2Proof.Machine.execSafe h w s
  | .align h w => Sys2Proof.Machine.execAlign h w s
  | .idle h w => Sys2Proof.Machine.execIdle h w s
  | .tokenRaise h w => Sys2Proof.Machine.execTokenRaise h w s
  | .tokenDrop h w => Sys2Proof.Machine.execTokenDrop h w s
  | .tokenHoldStart h => Sys2Proof.Machine.execTokenHoldStart h s
  | .queuedWordExecute h vbs => Sys2Proof.Machine.execQueuedWordExecute h vbs s
  | .deadTimeTurnOn h => Sys2Proof.Machine.execDeadTimeTurnOn h s
  | .heartbeatLoss h => Sys2Proof.Machine.execHeartbeatLoss h s
  | .lossSafeExpiry h => Sys2Proof.Machine.execLossSafeExpiry h s
  | .alignPeriodic h => Sys2Proof.Machine.execAlignPeriodic h s
  | .gdDtWrite h w => Sys2Proof.Machine.execGdDtWrite h w s
  | .gdFclrPersist h q => Sys2Proof.Machine.execGdFclrPersist h q s
  | .gdFclrChop h q => Sys2Proof.Machine.execGdFclrChop h q s
  | .gdRegisterWrite h off w => Sys2Proof.Machine.execGdRegisterWrite h off w s
  | .bootUv h g => Sys2Proof.Machine.execBootUv h g s
  | .bootPersist h g => Sys2Proof.Machine.execBootPersist h g s
  | .desatTrip h g => Sys2Proof.Machine.execDesatTrip h g s
  | .ocTrip h n => Sys2Proof.Machine.execOcTrip h n s
  | .pfDecay h g => Sys2Proof.Machine.execPfDecay h g s
  | .vdrvUvTrip h => Sys2Proof.Machine.execVdrvUvTrip h s
  | .vdrvUvPersist h => Sys2Proof.Machine.execVdrvUvPersist h s
  | .vdrvRecover h => Sys2Proof.Machine.execVdrvRecover h s
  | .ov1Trip h => Sys2Proof.Machine.execOv1Trip h s
  | .ov1Release h => Sys2Proof.Machine.execOv1Release h s
  | .ov2Enter h => Sys2Proof.Machine.execOv2Enter h s
  | .ov2Leave h => Sys2Proof.Machine.execOv2Leave h s
  | .ov3Trip h => Sys2Proof.Machine.execOv3Trip h s
  | .ov3Release h => Sys2Proof.Machine.execOv3Release h s
  | .ov3Persist h => Sys2Proof.Machine.execOv3Persist h s
  | .chopperTestEnd h fallen => Sys2Proof.Machine.execChopperTestEnd h fallen s
  | .chopCurrentVerdict h => Sys2Proof.Machine.execChopCurrentVerdict h s
  | .returnBlockVerify h w0 w1 w2 ck => Sys2Proof.Machine.execReturnBlockVerify h w0 w1 w2 ck s
  | .levelsWord h w => Sys2Proof.Machine.execLevelsWord h w s
  | .eventWord h w => Sys2Proof.Machine.execEventWord h w s
  | .fblkWord h w => Sys2Proof.Machine.execFblkWord h w s
  | .cfgcrcWord h w => Sys2Proof.Machine.execCfgcrcWord h w s
  | .gdLost h => Sys2Proof.Machine.execGdLost h s
  | .tokenLineChange h k line => Sys2Proof.Machine.execTokenLineChange h k line s
  | .heartbeatSend h => Sys2Proof.Machine.execHeartbeatSend h s
  | .heartbeatReceive h k w0 w1 w2 w3 w4 => Sys2Proof.Machine.execHeartbeatReceive h k w0 w1 w2 w3 w4 s
  | .axcfgMismatch h => Sys2Proof.Machine.execAxcfgMismatch h s
  | .peerSilent h k => Sys2Proof.Machine.execPeerSilent h k s
  | .riserLinkRestored h k => Sys2Proof.Machine.execRiserLinkRestored h k s
  | .selfDiagnosisTrigger h code detail => Sys2Proof.Machine.execSelfDiagnosisTrigger h code detail s
  | .deferredCause h code detail => Sys2Proof.Machine.execDeferredCause h code detail s
  | .handoverFrame h k th => Sys2Proof.Machine.execHandoverFrame h k th s
  | .handoverRetry h => Sys2Proof.Machine.execHandoverRetry h s
  | .handoverDrop h => Sys2Proof.Machine.execHandoverDrop h s
  | .handoverCheck h => Sys2Proof.Machine.execHandoverCheck h s
  | .claimStart h => Sys2Proof.Machine.execClaimStart h s
  | .claimHold h => Sys2Proof.Machine.execClaimHold h s
  | .splitTimeout h => Sys2Proof.Machine.execSplitTimeout h s
  | .laneRecordSend h => Sys2Proof.Machine.execLaneRecordSend h s
  | .axisRecordReceive h k seq crcOk n full r => Sys2Proof.Machine.execAxisRecordReceive h k seq crcOk n full r s
  | .laneRecordReceive h k seq crcOk full r => Sys2Proof.Machine.execLaneRecordReceive h k seq crcOk full r s
  | .envRecordReceive h k seq crcOk ident path last => Sys2Proof.Machine.execEnvRecordReceive h k seq crcOk ident path last s
  | .conditionRecount h k => Sys2Proof.Machine.execConditionRecount h k s
  | .viewDisagree h => Sys2Proof.Machine.execViewDisagree h s
  | .pathConfirm h p => Sys2Proof.Machine.execPathConfirm h p s
  | .lnHandover h q => Sys2Proof.Machine.execLnHandover h q s
  | .lnLaneReset h q => Sys2Proof.Machine.execLnLaneReset h q s
  | .lnAckSilent h q => Sys2Proof.Machine.execLnAckSilent h q s
  | .sfeEvaluation h n katOk => Sys2Proof.Machine.execSfeEvaluation h n katOk s
  | .sfeDeadline h n => Sys2Proof.Machine.execSfeDeadline h n s
  | .sfeEvalRateTimeout h n => Sys2Proof.Machine.execSfeEvalRateTimeout h n s
  | .sfProfWrite h w => Sys2Proof.Machine.execSfProfWrite h w s
  | .sfResume h w => Sys2Proof.Machine.execSfResume h w s
  | .brakeRelease h n => Sys2Proof.Machine.execBrakeRelease h n s
  | .brakeApplyStart h n => Sys2Proof.Machine.execBrakeApplyStart h n s
  | .brakeRampPeriod h n => Sys2Proof.Machine.execBrakeRampPeriod h n s
  | .shmAccess h src addr data e => Sys2Proof.Machine.execShmAccess h src addr data e s
  | .outerCheckResult h => Sys2Proof.Machine.execOuterCheckResult h s
  | .ceWriteBack h => Sys2Proof.Machine.execCeWriteBack h s
  | .writeVerifyRead h e => Sys2Proof.Machine.execWriteVerifyRead h e s
  | .scrubRead h e => Sys2Proof.Machine.execScrubRead h e s
  | .parkScrub h e => Sys2Proof.Machine.execParkScrub h e s
  | .lockstepMismatch h k => Sys2Proof.Machine.execLockstepMismatch h k s
  | .comparatorSelftest h fails => Sys2Proof.Machine.execComparatorSelftest h fails s
  | .parityError h off b entry => Sys2Proof.Machine.execParityError h off b entry s
  | .tapOpenInstruction h ir => Sys2Proof.Machine.execTapOpenInstruction h ir s
  | .tapAttach h ir code => Sys2Proof.Machine.execTapAttach h ir code s
  | .debugGrant h => Sys2Proof.Machine.execDebugGrant h s
  | .tapReset h => Sys2Proof.Machine.execTapReset h s
  | .igInjWrite h w => Sys2Proof.Machine.execIgInjWrite h w s
  | .igUeinfoValidClear h q => Sys2Proof.Machine.execIgUeinfoValidClear h q s
  | .tsCmdRun h w => Sys2Proof.Machine.execTsCmdRun h w s
  | .gateCellStep h m => Sys2Proof.Machine.execGateCellStep h m s
  | .gateCellAbort h => Sys2Proof.Machine.execGateCellAbort h s
  | .chopperBgTest h => Sys2Proof.Machine.execChopperBgTest h s
  | .temperInterval h slacks vinOk => Sys2Proof.Machine.execTemperInterval h slacks vinOk s
  | .birthWriteComplete h ok => Sys2Proof.Machine.execBirthWriteComplete h ok s
  | .slotStart h b => Sys2Proof.Machine.execSlotStart h b s
  | .slotEnd h b => Sys2Proof.Machine.execSlotEnd h b s
  | .spruePollReceive h b ident bs => Sys2Proof.Machine.execSpruePollReceive h b ident bs s
  | .sprueResponseReceive h b ident bs => Sys2Proof.Machine.execSprueResponseReceive h b ident bs s
  | .foreignFrame h b => Sys2Proof.Machine.execForeignFrame h b s
  | .txEcho h b bs tdcv => Sys2Proof.Machine.execTxEcho h b bs tdcv s
  | .responseWithdraw h b => Sys2Proof.Machine.execResponseWithdraw h b s
  | .pollError h b => Sys2Proof.Machine.execPollError h b s
  | .idleWaitExpiry h b => Sys2Proof.Machine.execIdleWaitExpiry h b s
  | .busOff h b => Sys2Proof.Machine.execBusOff h b s
  | .errPassive h b tec rec_ => Sys2Proof.Machine.execErrPassive h b tec rec_ s
  | .busOffRecovery h b => Sys2Proof.Machine.execBusOffRecovery h b s
  | .spPendWrite h b w => Sys2Proof.Machine.execSpPendWrite h b w s
  | .spTableWrite h b w => Sys2Proof.Machine.execSpTableWrite h b w s
  | .envWatchdog h k => Sys2Proof.Machine.execEnvWatchdog h k s
  | .doorbellReadComplete h ok w0 w1 w2 w3 => Sys2Proof.Machine.execDoorbellReadComplete h ok w0 w1 w2 w3 s
  | .readDeadline h => Sys2Proof.Machine.execReadDeadline h s
  | .nop h bs => Sys2Proof.Machine.execNop h bs s
  | .setpoint h bs => Sys2Proof.Machine.execSetpoint h bs s
  | .mode h bs => Sys2Proof.Machine.execMode h bs s
  | .arm h bs => Sys2Proof.Machine.execArm h bs s
  | .shakeout h bs => Sys2Proof.Machine.execShakeout h bs s
  | .time h bs => Sys2Proof.Machine.execTime h bs s
  | .abort h bs => Sys2Proof.Machine.execAbort h bs s
  | .lane h bs => Sys2Proof.Machine.execLane h bs s
  | .badDesc h bs => Sys2Proof.Machine.execBadDesc h bs s
  | .outboundWrite h => Sys2Proof.Machine.execOutboundWrite h s
  | .indexBlockTimer h => Sys2Proof.Machine.execIndexBlockTimer h s
  | .msixModerationExpiry h v => Sys2Proof.Machine.execMsixModerationExpiry h v s
  | .endpointReset h kind => Sys2Proof.Machine.execEndpointReset h kind s
  | .hrRingEnable h w => Sys2Proof.Machine.execHrRingEnable h w s
  | .imageLoad h q => Sys2Proof.Machine.execImageLoad h q s
  | .imageFetchComplete h ws => Sys2Proof.Machine.execImageFetchComplete h ws s
  | .imageApplyComplete h => Sys2Proof.Machine.execImageApplyComplete h s
  | .sprueSof h b own lost => Sys2Proof.Machine.execSprueSof h b own lost s
  | .runnerBlockSend h => Sys2Proof.Machine.execRunnerBlockSend h s
  | .returnBlockSend h => Sys2Proof.Machine.execReturnBlockSend h s
  | .dlActiveEntry h => Sys2Proof.Machine.execDlActiveEntry h s
  | .pcieConfigWrite h mse bme msixEn d3hot mrrs => Sys2Proof.Machine.execPcieConfigWrite h mse bme msixEn d3hot mrrs s
  | .svcBootEnd h => Sys2Proof.Machine.execSvcBootEnd h s
  | .progressWordBurned h => Sys2Proof.Machine.execProgressWordBurned h s

end Sys2Proof.Machine
end

