-- ==== Sys2Proof/Safety.lean ====
section
/-! DEFINITION. What the statements speak of: sound lanes and sound states, the block after a command, and the rows that are register
writes. -/

namespace Sys2Proof.Machine

/-- A lane is sound as lane `k`: its letter (01 R16), its register and status tables and its memory in canonical form, and the
counters of the register file inside their fields (16 R379, Tables 16.11 and 16.13). -/
def Lane.Sound (k : LaneId) (l : Lane) : Prop :=
  l.id = k ∧ fwf regReset l.regs = true ∧ fwf (fun _ => initStatus) l.status = true ∧ Memory.wf l.ig.mem = true ∧
    l.sys.badKeys ≤ 0xFF ∧ l.sys.refused ≤ 0xFFFF ∧ l.sys.stale ≤ 0xFFFF

/-- The block is sound: each lane is sound as itself. -/
def State.Sound (s : State) : Prop := s.a.Sound .a ∧ s.b.Sound .b ∧ s.c.Sound .c

/-- The block after a command of header `h` whose own effect left its lane as `m`: what follows in the same cycle has settled, and the
lane stands in its place; the other lanes and the queue are as before. -/
def State.after (s : State) (h : Hdr) (m : Lane) : State := s.put h (s.arrive h).isActive m

/-- No half-bridge of a die has both shadow levels on or both outputs on (07 R165, R166, R186). -/
def Die.Apart (d : Die) : Prop :=
  ∀ n, n < 18 → ¬((vget d.sw (2 * n) initSwitch).shadow = true ∧ (vget d.sw (2 * n + 1) initSwitch).shadow = true) ∧
    ¬((vget d.sw (2 * n) initSwitch).out = true ∧ (vget d.sw (2 * n + 1) initSwitch).out = true)

/-- No half-bridge of the block shoots through. -/
def State.Apart (s : State) : Prop := s.a.die.Apart ∧ s.b.die.Apart ∧ s.c.die.Apart

/-- Flag `b` of the status register at `off` is set. -/
def Lane.flagged (l : Lane) (off b : Nat) : Bool := bit (l.stat off).flags b

/-- The register at `off` holds no stored field and no flag: all it reads as comes from its block (16 R376). -/
def Lane.readOnlyAt (l : Lane) (off : Nat) : Prop := l.reg off = 0 ∧ l.stat off = initStatus

/-- The lane after port `p` has dispatched the action `d` in this cycle (02 R59). -/
def Lane.takes (l : Lane) (p : Nat) (d : Due) : Lane := (l.modTl fun t => { t with due := t.due.erase d }).usePort p

/-- A descriptor of 64 bytes of the row `row` lands within the deadline of its fetch, with `n` more to come (14 R328, R334). -/
def Lane.lands (l : Lane) (row n : Nat) (bs : List Byte) : Prop :=
  l.awake = true ∧ bs.length = 64 ∧ descRow bs = row ∧
    ∃ v, l.hr.svc = some v ∧ v.left = some (n + 1) ∧ l.now ≤ v.issued + v.dbto

/-- `m` is `l` after a verified frame of peer `k` (08 R194, R195): the peer is heard now. -/
def Lane.hasHeard (l m : Lane) (k : Nat) : Prop :=
  (m.peerOf k).lastAt = some l.now ∧ (m.peerOf k).silent = false ∧ (m.peerOf k).bad = (l.peerOf k).bad

/-- `m` is `l` after a mirror record of peer `k` and a kind that failed its check (08 R193, R204): the frame is counted as bad, and a
lane that receives the mirror counts the miss, the second in turn of a kind making the mirror stale. -/
def Lane.hasRejected (l m : Lane) (k kind : Nat) : Prop :=
  m = { l with status := m.status, ln := m.ln, hr := m.hr } ∧ (m.peerOf k).bad = min 3 ((l.peerOf k).bad + 1) ∧
    (l.mirrors k = true → vget m.ln.mirMiss kind 0 = min 3 (vget l.ln.mirMiss kind 0 + 1) ∧
      (vget l.ln.mirMiss kind 0 = 1 → m.flagged Reg.LN_STATUS Bit.LN_MIRROR_STALE = true)) ∧
    (l.mirrors k = false → m.ln.mirMiss = l.ln.mirMiss)

/-- A completion for the CMD index and the TAG, with STATUS, REASON and the first result bytes, is staged for the CPL ring (14 Table
14.5). -/
def Lane.answers (l : Lane) (idx tag status reason : Nat) (result : List Nat) : Prop :=
  ∃ d ∈ l.hr.staged, d.ring = 1 ∧ leAt d.bytes 0 1 = 0x80 ∧ leAt d.bytes 1 1 = status ∧ leAt d.bytes 2 2 = tag % 65536 ∧
    leAt d.bytes 4 2 = idx % 65536 ∧ leAt d.bytes 6 1 = reason ∧
    ∀ i, i < result.length → i < 8 → leAt d.bytes (16 + i) 1 = result.getD i 0 % 256

end Sys2Proof.Machine

namespace Sys2Proof

open Machine

/-- The register write that a row is, with its header and offset; `none` for a row that is no register write. -/
def Instr.regWrite? : Instr → Option (Hdr × Nat × Wr)
  | .cmStart h q n => some (h, Reg.CM_CMD n, ⟨q, 1, 0xF⟩)
  | .cmStop h q n => some (h, Reg.CM_CMD n, ⟨q, 2, 0xF⟩)
  | .leZero h q n => some (h, Reg.LE_CMD n, ⟨q, 1, 0xF⟩)
  | .leBankWrite h n w => some (h, Reg.LE_BANK n, w)
  | .leWindowWrite h w => some (h, Reg.LE_WDATA, w)
  | .cvSeqWrite h k w => some (h, Reg.CV_SEQ k, w)
  | .cvMonenWrite h w => some (h, Reg.CV_CTRL, w)
  | .cvRotWrite h w => some (h, Reg.CV_ROT, w)
  | .fbArm h q n => some (h, Reg.FB_ARM n, ⟨q, 1, 0xF⟩)
  | .fbDisarm h q n => some (h, Reg.FB_ARM n, ⟨q, 2, 0xF⟩)
  | .aoffWrite h n w => some (h, Reg.FB_AOFF n, w)
  | .fbFclrCounter h q n => some (h, Reg.FB_FCLR n, ⟨q, 1, 0xF⟩)
  | .fbFclrHall h q n => some (h, Reg.FB_FCLR n, ⟨q, 2, 0xF⟩)
  | .fbFclrSent h q n => some (h, Reg.FB_FCLR n, ⟨q, 4, 0xF⟩)
  | .hrRingEnable h w => some (h, Reg.HR_CTRL, w)
  | .imageLoad h q => some (h, Reg.HR_IMGCMD, ⟨q, 1, 0xF⟩)
  | .igInjWrite h w => some (h, Reg.IG_INJ, w)
  | .igUeinfoValidClear h q => some (h, Reg.IG_UEINFO, ⟨q, 0, 0xF⟩)
  | .pwWait h q => some (h, Reg.PW_CMD, ⟨q, 1, 0xF⟩)
  | .pwWake h q => some (h, Reg.PW_CMD, ⟨q, 2, 0xF⟩)
  | .pwPadRelease h q => some (h, Reg.PW_PADREL, ⟨q, 1, 0xF⟩)
  | .sysKeyWrite h w => some (h, Reg.SYS_KEY, w)
  | .registerWrite h off w => some (h, off, w)
  | .statusWriteBack h off w => some (h, off, w)
  | .gdDtWrite h w => some (h, Reg.GD_DT, w)
  | .gdFclrPersist h q => some (h, Reg.GD_FCLR, ⟨q, 2, 0xF⟩)
  | .gdFclrChop h q => some (h, Reg.GD_FCLR, ⟨q, 1, 0xF⟩)
  | .gdRegisterWrite h off w => some (h, off, w)
  | .sfProfWrite h w => some (h, Reg.SF_CTRL, w)
  | .sfResume h w => some (h, Reg.SF_CMD, w)
  | .spPendWrite h b w => some (h, Reg.SP_MODE b, w)
  | .spTableWrite h b w => some (h, Reg.SP_TWDATA b, w)
  | .lnHandover h q => some (h, Reg.LN_CMD, ⟨q, 1, 0xF⟩)
  | .lnLaneReset h q => some (h, Reg.LN_CMD, ⟨q, 2, 0xF⟩)
  | .lnAckSilent h q => some (h, Reg.LN_CMD, ⟨q, 3, 0xF⟩)
  | .tsCmdRun h w => some (h, Reg.TS_CMD, w)
  | .tlPtOffsetWrite h n w => some (h, Reg.TL_PT_OFFSET n, w)
  | .timeAcceptSlew h q => some (h, Reg.TL_TACCEPT, ⟨q, 1, 0xF⟩)
  | .timeAcceptStep h q => some (h, Reg.TL_TACCEPT, ⟨q, 2, 0xF⟩)
  | .tlEvtRead h q => some (h, Reg.TL_EVT_CMD, ⟨q, 1, 0xF⟩)
  | .tlEvtCommit h q => some (h, Reg.TL_EVT_CMD, ⟨q, 2, 0xF⟩)
  | _ => none

end Sys2Proof
end

