-- ==== Sys2Proof/Certificates/Slice0/Obligations.lean ====
section
/-! DEFINITION. The statements: what every command does, where it completes and what it leaves unchanged, and what holds of the whole
block. Every clause speaks of the lane `l` that the header names, its cycles later and with what fell due before the command. -/

open Sys2Proof Sys2Proof.Machine

/-- 16 R384: the key of a requester. -/
def Obligations.KeysArmAndDisarm : Prop :=
  ∀ (s : State) (h : Hdr) (l : Lane), l = s.arrive h → l.Sound h.lane →
    (∀ q, l.reaches q = true → ∃ m, exec (.sysKeyWrite h ⟨q, 0xC1E7, 0xF⟩) s = .next (s.after h m) ∧ m = { l with sys := m.sys } ∧
      m.keyOf q = true ∧ ∀ q', q' ≠ q → m.keyOf q' = l.keyOf q') ∧
    (∀ q v, l.reaches q = true → v ≠ 0xC1E7 → ∃ m, exec (.sysKeyWrite h ⟨q, v, 0xF⟩) s = .next (s.after h m) ∧
      m = { l with sys := m.sys, status := m.status } ∧ m.keyOf q = false ∧ (∀ q', q' ≠ q → m.keyOf q' = l.keyOf q') ∧
      m.sys.badKeys = min 0xFF (l.sys.badKeys + 1) ∧ m.flagged Reg.SYS_LSTATUS Bit.SYS_KEY_BAD = true) ∧
    (∀ (c : Instr) off w, c.regWrite? = some (h, off, w) → c.wf = true → l.reaches w.req = true → w.be = 0xF → off ≠ Reg.SYS_KEY →
      ∃ m, exec c s = .next (s.after h m) ∧ m.keyOf w.req = false ∧ ∀ q', q' ≠ w.req → m.keyOf q' = l.keyOf q') ∧
    (∀ (c : Instr) q k n off, k < 2 → n < 6 → isStatusReg off = true →
      c ∈ [Instr.statusRead h q off, .sysClkloRead h q, .tlWsecLoRead h q, .tlPerrRead h q, .cvJitRead h q, .sfSfeRead h q,
        .lnTkoRead h q, .lnPeerRead h q k, .hrSvcRead h q, .fbSentsRead h q n] →
      ∃ m, exec c s = .next (s.after h m) ∧ ∀ q', m.keyOf q' = l.keyOf q')

/-- 16 R386: partial writes. -/
def Obligations.PartialWritesAreRefused : Prop :=
  ∀ (s : State) (h : Hdr) (l : Lane) (c : Instr) (off : Nat) (w : Wr), l = s.arrive h → l.Sound h.lane →
    c.regWrite? = some (h, off, w) → c.wf = true → l.reaches w.req = true → w.be ≠ 0xF →
    ∃ m, exec c s = .next (s.after h m) ∧ m = { l with status := m.status, sys := m.sys } ∧ (∀ q, m.keyOf q = l.keyOf q) ∧
      m.sys.refReason = 5 ∧ m.sys.refOff = off ∧ (m.sys.refInternal = true ↔ w.req = .internal) ∧
      m.sys.refused = min 0xFFFF (l.sys.refused + 1) ∧ m.flagged Reg.SYS_LSTATUS Bit.SYS_WRITE_REFUSED = true

/-- 16 R380: what an event is. -/
def Obligations.EventsSetFlagsAndCountSeq : Prop :=
  (∀ (l : Lane) (k : LaneId) (off mask : Nat), l.Sound k → isStatusReg off = true → mask < 2 ^ 24 →
    ((l.event off mask).stat off).flags = (l.stat off).flags ||| BitVec.ofNat 32 mask ∧
    ((l.stat off).cyc ≠ some l.now → ((l.event off mask).stat off).seq = (l.stat off).seq + 1) ∧
    ((l.stat off).cyc = some l.now → ((l.event off mask).stat off).seq = (l.stat off).seq)) ∧
  (∀ (k : LaneId) (off : Nat), ((State.reset.lane k).stat off).seq = 0) ∧
  (∀ (s : State) (h : Hdr) (factoryOk : Bool) (l : Lane), l = s.arrive h → l.Sound h.lane → l.pw.state = .reset → l.pw.vinLow = false →
    ∃ m, exec (.resetRelease h factoryOk) s = .next (s.after h m) ∧
      ∀ off, (m.stat off).cyc = none → (m.stat off).seq = 0)

/-- 16 R381 to R383: tokens and write-backs. -/
def Obligations.StatusReadsAndWriteBacks : Prop :=
  ∀ (s : State) (h : Hdr) (l : Lane) (off : Nat), l = s.arrive h → l.Sound h.lane → isStatusReg off = true →
    (∀ q was, l.reaches q = true → was = s.start h → ∃ m, exec (.statusRead h q off) s = .next (s.after h m) ∧
      m = { l with sys := { l.sys with lastRead := some ⟨q.isHost, off, was.readReg q.isHost off⟩ }, status := m.status } ∧
      ((l.stat off).cyc ≠ some l.now ∨ (l.stat off).seq = (was.stat off).seq → (m.stat off).tok q = some (was.stat off).seq) ∧
      ((l.stat off).cyc = some l.now → (l.stat off).seq ≠ (was.stat off).seq → (m.stat off).tok q = (l.stat off).tok q ∧
        (m.stat off).tokWas q l.now = some (was.stat off).seq) ∧
      (∀ q', q' ≠ q → (m.stat off).tok q' = (l.stat off).tok q') ∧
      (m.stat off).flags = (l.stat off).flags ∧ (m.stat off).seq = (l.stat off).seq ∧
      ∀ o, o ≠ off → m.stat o = l.stat o) ∧
    (∀ q v, l.reaches q = true → (l.stat off).tok q = some (BitVec.ofNat 8 (field v 24 8)) →
      ∃ m, exec (.statusWriteBack h off ⟨q, v, 0xF⟩) s = .next (s.after h m) ∧ m.keyOf q = false ∧
        (off ≠ Reg.LN_REPLACE → m = { l with sys := m.sys, status := m.status } ∧
          (∀ b, b < 24 → m.flagged off b = (l.flagged off b && !bit v b)) ∧ (m.stat off).seq = (l.stat off).seq ∧
          (m.stat off).tok q = (l.stat off).tok q ∧ ∀ o, o ≠ off → m.stat o = l.stat o) ∧
        (off = Reg.LN_REPLACE → m = { l with sys := m.sys, ln := { l.ln with level := 0, item1 := 0, item2 := 0 } })) ∧
    (∀ q v, l.reaches q = true → (l.stat off).tok q ≠ some (BitVec.ofNat 8 (field v 24 8)) → (l.stat off).cyc ≠ some l.now →
      ∃ m, exec (.statusWriteBack h off ⟨q, v, 0xF⟩) s = .next (s.after h m) ∧ m = { l with sys := m.sys } ∧ m.keyOf q = false ∧
        m.sys.stale = min 0xFFFF (l.sys.stale + 1) ∧ m.sys.refused = l.sys.refused) ∧
    (∀ q v, l.reaches q = true → off ≠ Reg.LN_REPLACE → (l.stat off).tok q = none → (l.stat off).cyc = some l.now →
      (l.stat off).tokWas q l.now = some (BitVec.ofNat 8 (field v 24 8)) →
      ∃ m, exec (.statusWriteBack h off ⟨q, v, 0xF⟩) s = .next (s.after h m) ∧ m = { l with sys := m.sys, status := m.status } ∧
        ∀ b, b < 24 → m.flagged off b = (l.flagged off b && (bit (l.stat off).fresh b || !bit v b)))

/-- 16 R376, R379: reads with an effect. -/
def Obligations.ReadsThatClearOrLatch : Prop :=
  ∀ (s : State) (h : Hdr) (q : Requester) (l was : Lane), l = s.arrive h → l.Sound h.lane → was = s.start h →
    (l.reaches q = true →
      let got (off : Nat) (l : Lane) : Lane :=
        { l with sys := { l.sys with lastRead := some ⟨q.isHost, off, was.readReg q.isHost off⟩ } }
      let left (was now : Nat) : Nat := if now = was then 0 else now
      (exec (.tlPerrRead h q) s = .next (s.after h { got 0x1034 l with tl := { l.tl with perrMax := left was.tl.perrMax l.tl.perrMax } }) ∧
        (was.readOnlyAt 0x1034 → was.readReg q.isHost 0x1034 = pack [(was.tl.perrEntry, 24), (was.tl.perrMax, 0)])) ∧
      (exec (.cvJitRead h q) s = .next (s.after h { got 0x2010 l with cv := { l.cv with jitMax := left was.cv.jitMax l.cv.jitMax } }) ∧
        (was.readOnlyAt 0x2010 → was.readReg q.isHost 0x2010 = pack [(was.cv.jitSeq, 28), (was.cv.jitMax, 0)])) ∧
      (exec (.sfSfeRead h q) s = .next (s.after h { got 0x500C l with sf := { l.sf with maxCyc := left was.sf.maxCyc l.sf.maxCyc } }) ∧
        (was.readOnlyAt 0x500C → was.readReg q.isHost 0x500C = pack [(was.sf.kats, 8), (was.sf.maxCyc, 0)])) ∧
      (exec (.lnTkoRead h q) s = .next (s.after h { got 0x4820 l with ln := { l.ln with tkoMax := left was.ln.tkoMax l.ln.tkoMax } }) ∧
        (was.readOnlyAt 0x4820 → was.readReg q.isHost 0x4820 = pack [(was.ln.tkoMax, 16), (was.ln.tkoLast, 0)])) ∧
      (∀ k, k < 2 → exec (.lnPeerRead h q k) s = .next (s.after h { got (0x4830 + 4 * k) l with
        ln := { l.ln with peer := vmod l.ln.peer k fun p => { p with bad := p.bad - (was.peerOf k).bad } } })) ∧
      (exec (.hrSvcRead h q) s = .next (s.after h { got 0x70A4 l with hr := { l.hr with longest := left was.hr.longest l.hr.longest } }) ∧
        (was.readOnlyAt 0x70A4 → was.readReg q.isHost 0x70A4 = pack [(was.hr.services, 16), (was.hr.longest, 0)])) ∧
      (∀ n, n < 6 → exec (.fbSentsRead h q n) s = .next (s.after h { got (0x18E4 + 0x80 * n) l with
        fb := vmod l.fb n fun u => { u with sent := { u.sent with serNew := u.sent.serNew && !(was.unit n).sent.serNew } } })) ∧
      (∃ m, exec (.sysClkloRead h q) s = .next (s.after h m) ∧ m = { l with sys := m.sys } ∧
        (was.readOnlyAt 0x24 → m.sys.lastRead = some ⟨q.isHost, 0x24, BitVec.ofNat 32 was.clk⟩) ∧
        (q = .host → m.sys.clkHiHost = BitVec.ofNat 32 (l.clk / 2 ^ 32) ∧ m.sys.clkHiInt = l.sys.clkHiInt) ∧
        (q = .internal → m.sys.clkHiInt = BitVec.ofNat 32 (l.clk / 2 ^ 32) ∧ m.sys.clkHiHost = l.sys.clkHiHost)) ∧
      (∃ m, exec (.tlWsecLoRead h q) s = .next (s.after h m) ∧ m = { got 0x1200 l with tl := m.tl } ∧
        m.tl = { l.tl with latchHi := secOf was.wns / 2 ^ 32 % 65536, latchNs := nsOf was.wns } ∧
        (was.readOnlyAt 0x1200 → was.readReg q.isHost 0x1200 = BitVec.ofNat 32 (secOf was.wns)))) ∧
    (l.reaches q = false → ∀ c ∈ [Instr.tlPerrRead h q, .cvJitRead h q, .sfSfeRead h q, .lnTkoRead h q, .hrSvcRead h q,
        .sysClkloRead h q, .tlWsecLoRead h q], exec c s = .next (s.after h l))

/-- 16 R377: fields under their access codes. -/
def Obligations.FieldsObeyTheirAccessCodes : Prop :=
  (∀ (c : Landing) (fs : List Fld) (old v : Word), c.always = false →
    (∀ f ∈ fs, f.lo + f.width ≤ 32 ∧ f.acc.writeOnly = false) →
    fs.Pairwise (fun f g => f.lo + f.width ≤ g.lo ∨ g.lo + g.width ≤ f.lo) →
    (∀ f ∈ fs, field (c.fields fs old v).1 f.lo f.width =
      if (f.acc.keyed = true ∧ c.keyed = false) ∨ (f.acc.runLocked = true ∧ c.run = true) then field old f.lo f.width
      else field v f.lo f.width) ∧
    ((c.fields fs old v).2 = 0 ↔ ∀ f ∈ fs, field v f.lo f.width = field old f.lo f.width ∨
      ((f.acc.keyed = true → c.keyed = true) ∧ (f.acc.runLocked = true → c.run = false))) ∧
    ((c.fields fs old v).2 = 1 ↔ ∃ f ∈ fs, field v f.lo f.width ≠ field old f.lo f.width ∧ f.acc.keyed = true ∧ c.keyed = false)) ∧
  (∀ (s : State) (h : Hdr) (l : Lane) (off : Nat) (w : Wr) (r : RegRow), l = s.arrive h → l.Sound h.lane → l.reaches w.req = true →
    w.be = 0xF → regRow? off = some r → off ∈ [Reg.SYS_SCRATCH, Reg.LN_CFG, Reg.LN_PATHS, Reg.HR_IMOD, Reg.PW_MODE, Reg.PW_WAKE, Reg.PW_VCFG] →
    ∃ m, exec (.registerWrite h off w) s = .next (s.after h m) ∧ m.keyOf w.req = false ∧
      m = { l with sys := m.sys, regs := m.regs, status := m.status } ∧ (∀ o, o ≠ off → m.reg o = l.reg o) ∧
      ∀ f ∈ r.fields, m.fld off f.lo f.width =
        if (f.acc.keyed = true ∧ l.keyOf w.req = false) ∨ (f.acc.runLocked = true ∧ l.inRun = true) then l.fld off f.lo f.width
        else field w.val f.lo f.width)

/-- 16 R387: refusals. -/
def Obligations.RefusalsAreCaptured : Prop :=
  (∀ (s : State) (h : Hdr) (l : Lane) (off : Nat) (w : Wr) (r : RegRow) (code : Nat) (m : Lane), l = s.arrive h → l.Sound h.lane →
    l.reaches w.req = true → w.be = 0xF → off ≠ Reg.SYS_KEY → off < 0x8000 → off % 4 = 0 → regRow? off = some r → r.status = false →
    (l.setKey w.req false).landFields (l.keyOf w.req) off r.fields w.val = (code, m) → code ≠ 0 →
    exec (.registerWrite h off w) s = .next (s.after h (m.refuse w.req.isHost off code))) ∧
  (∀ (l : Lane) (k : LaneId) (host : Bool) (off code : Nat), l.Sound k → off < 0x10000 →
    l.refuse host off code = { l with sys := (l.refuse host off code).sys, status := (l.refuse host off code).status } ∧
    (l.refuse host off code).sys = { l.sys with refReason := code, refInternal := !host, refOff := off,
                                                refused := min 0xFFFF (l.sys.refused + 1) } ∧
    (l.refuse host off code).flagged Reg.SYS_LSTATUS Bit.SYS_WRITE_REFUSED = true) ∧
  (∀ a b, a ≠ 0 → b ≠ 0 → lowerCode a b = min a b)

/-- Both requesters see the same registers at the same offsets (01 R21), whichever row of the table writes them. -/
def Obligations.RowWritesAreRegisterWrites : Prop :=
  ∀ (s : State) (c : Instr) (h : Hdr) (off : Nat) (w : Wr), c.regWrite? = some (h, off, w) → c.wf = true →
    exec c s = exec (.registerWrite h off w) s

/-- The supply thresholds (15 Table 15.2): what each crossing does, and all that it may change. -/
def Obligations.SuppliesRiseAndFall : Prop :=
  ∀ (s : State) (h : Hdr) (l : Lane), l = s.arrive h → l.Sound h.lane →
    (∀ mirror, l.pw.state = .unpowered → ∃ m, exec (.powerOn h mirror) s = .next (s.after h m) ∧
      m = { l with regs := m.regs, die := m.die, ig := m.ig, pw := m.pw } ∧ m.regs = [] ∧ m.pw.state = .reset ∧ m.pw.start = 0 ∧
      m.ig.unlocked = 0 ∧ m.ig.mirror = mirror ∧ ∀ a, regionOf a = .chill → memByte m.ig.mem a = 0) ∧
    (l.pw.state = .unpowered → exec (.vporLoss h) s = .next (s.after h l)) ∧
    (l.pw.state ≠ .unpowered → ∃ m, exec (.vporLoss h) s = .next (s.after h m) ∧
      m = { l with regs := m.regs, status := m.status, sys := m.sys, hr := m.hr, die := m.die, ln := { l.ln with line := .silent },
                   pw := m.pw } ∧ m.pw.state = .unpowered ∧ m.die = initDie true) ∧
    (l.alive = true → ∃ m, exec (.vinBelowVrst h) s = .next (s.after h m) ∧
      m = { l with status := m.status, port := m.port, cm := m.cm, le := m.le, ln := m.ln, env := m.env, hr := m.hr,
                   pw := { l.pw with vinLow := true, resetAt := some (l.now + 32, 1) } } ∧
      m.ln.failed = true ∧ (l.ln.trigAt ≠ some l.now → m.ln.code = 6) ∧ m.ln.role = .withdrawn ∧ m.ln.line ≠ .hold ∧ m.ln.line ≠ .claim) ∧
    ((l.pw.state = .park ∨ l.pw.state = .reset) →
      exec (.vinBelowVrst h) s = .next (s.after h { l with pw := { l.pw with vinLow := true } })) ∧
    (∀ factoryOk, l.pw.state = .reset → l.pw.start = 1 → ∃ m, exec (.vrstRecover h factoryOk) s = .next (s.after h m) ∧
      m.id = l.id ∧ m.now = l.now ∧ m.pw.state = .setup ∧ m.pw.start = 1 ∧ m.pw.vinLow = false ∧ m.relAt = l.now ∧
      m.pw.bootAt = some l.now ∧ m.ig.unlocked = (if l.ig.attachWait.isSome then 7 else l.ig.unlocked)) ∧
    (l.alive = true → ∃ m, exec (.vwarnTrip h) s = .next (s.after h m) ∧
      m = { l with status := m.status, env := m.env, hr := m.hr, pw := { l.pw with vlow := true } } ∧
      m.flagged Reg.PW_STATUS Bit.PW_VWARN = true) ∧
    (l.pw.state = .park → exec (.vwarnTrip h) s = .next (s.after h { l with pw := { l.pw with vlow := true } })) ∧
    (l.pw.state ≠ .unpowered → exec (.vwarnClear h) s = .next (s.after h { l with pw := { l.pw with vlow := false } }))

/-- The start sequence (15 Tables 15.3 and 15.4). -/
def Obligations.LanesStartAndBoot : Prop :=
  ∀ (s : State) (h : Hdr) (l : Lane), l = s.arrive h → l.Sound h.lane →
    (∀ mirror, l.pw.state ≠ .unpowered → l.pw.state ≠ .off → ∃ m, exec (.rstN h mirror) s = .next (s.after h m) ∧
      m = { l with regs := m.regs, status := m.status, sys := m.sys, hr := m.hr, pw := m.pw, ln := { l.ln with line := .silent },
                   ig := { l.ig with mirror := mirror } } ∧
      m.pw.state = .reset ∧ m.pw.start = 2 ∧ m.pw.saved = none ∧ m.sys.keyHost = false ∧ m.hr.dlActive = false) ∧
    (l.alive = true → ∃ m, exec (.clockLoss h) s = .next (s.after h m) ∧
      m = { l with regs := m.regs, status := m.status, sys := m.sys, hr := m.hr, pw := m.pw, ln := { l.ln with line := .silent } } ∧
      m.pw.state = .reset ∧ m.pw.start = 3 ∧ m.pw.clockLoss = true ∧ m.pw.saved = none) ∧
    (∀ factoryOk, l.pw.state = .reset → l.pw.vinLow = false → ∃ m, exec (.resetRelease h factoryOk) s = .next (s.after h m) ∧
      m.id = l.id ∧ m.now = l.now ∧ m.pw.state = .setup ∧ m.pw.start = l.pw.start ∧ m.relAt = l.now ∧ m.pw.bootAt = some l.now ∧
      m.sys.keyHost = false ∧ m.sys.keyInt = false ∧ m.tl = initTimeline ∧
      m.ig.unlocked = (if l.ig.attachWait.isSome then 7 else l.ig.unlocked) ∧
      (∀ a, regionOf a ≠ .shm → memByte m.ig.mem a = memByte l.ig.mem a) ∧
      (factoryOk = true → l.pw.start ≠ 5 → ¬(l.pw.start = 3 ∧ l.pw.clockLoss = true) → l.ig.attachWait = none → m.status = [])) ∧
    (∀ t, l.pw.bootAt = some t → t + 75000 ≤ l.now → l.alive = true →
      exec (.svcBootEnd h) s = .next (s.after h { l with
        pw := { l.pw with bootAt := none }, ts := { l.ts with startAt := some (0, l.now) } })) ∧
    (∀ r, l.pw.state = .setup → l.pw.start = 5 → l.ts.done = true → l.pw.restored = false → l.pw.saved = some r →
      l.ig.parkFault = none →
      (l.ts.fails = [] → ∃ m, exec (.restoreSaveList h 0) s = .next (s.after h m) ∧ m.pw.state = .run ∧ m.pw.restored = true ∧ m.pw.saved = none ∧
        m.pw.imgId = r.imageId ∧ m.port.dtLocked = true ∧ m.le.banks = r.banks ∧ m.sp.sched = r.sched) ∧
      (∃ m, exec (.restoreSaveList h 3) s = .next (s.after h m) ∧
        m = { l with status := m.status, hr := m.hr, pw := { l.pw with saved := none } } ∧
        m.flagged Reg.PW_STATUS Bit.PW_RESTORE_FAIL = true))

/-- Low power and wake (15). A written command register costs its writer's key and stores nothing of the command. -/
def Obligations.LowPowerEntryAndWake : Prop :=
  ∀ (s : State) (h : Hdr) (l : Lane), l = s.arrive h → l.Sound h.lane →
    (∀ q, l.reaches q = true → l.keyOf q = true → l.pw.state = .run → l.pw.entry = none → l.fld Reg.PW_MODE 0 2 ≠ 0 →
      (l.waitRefused (l.fld Reg.PW_MODE 0 2) = false → l.ts.burns = [] → ∃ m, exec (.pwWait h q) s = .next (s.after h m) ∧
        m = { l with sys := m.sys, regs := m.regs, port := m.port, pw := m.pw } ∧ m.keyOf q = false ∧
        m.pw.entry = some { mode := l.fld Reg.PW_MODE 0 2, beats := 0, isolated := false, held := false } ∧ m.pw.wakeCause = 0 ∧
        m.port.c1 = l.port.c1 ++ [{ word := runnerWord 57 true 0 0, ts := none }]) ∧
      (l.waitRefused (l.fld Reg.PW_MODE 0 2) = true → ∃ m, exec (.pwWait h q) s = .next (s.after h m) ∧
        m = { l with sys := m.sys, regs := m.regs, status := m.status, hr := m.hr } ∧
        m.flagged Reg.PW_STATUS Bit.PW_WAIT_REFUSED = true)) ∧
    (∀ e, l.alive = true → l.pw.entry = some e → e.held = false → l.port.levelsSeen = true → bit l.port.levels 26 = true →
      exec (.lowPowerEntryIsolated h) s =
        .next (s.after h { l with pw := { l.pw with entry := some { e with isolated := true } } })) ∧
    (∀ (c : Instr) (src : Nat), l.pw.entry = none →
      ((c = .wakePin h ∧ src = 0 ∧ l.rbit Reg.PW_WAKE 31 = true) ∨
        (∃ b, b < 2 ∧ c = .wakeSprue h b ∧ src = 1 + b ∧ l.rbit Reg.PW_WAKE (29 - b) = true) ∨
        (c = .wakePps h ∧ src = 3 ∧ l.fld Reg.PW_WAKE 0 16 ≠ 0)) →
      (l.pw.state = .doze → l.pw.waking = false → ∃ m, exec c s = .next (s.after h m) ∧
        m = { l with status := m.status, hr := m.hr, pw := { l.pw with
          wakeCause := l.pw.wakeCause ||| BitVec.ofNat 6 (2 ^ src), waking := true, wakeWaits := false, wokeAt := some l.now } } ∧
        m.flagged Reg.PW_STATUS Bit.PW_WOKE = true) ∧
      (l.pw.state = .park → l.pw.vinLow = false → exec c s = .next (s.after h { l with pw := { l.pw with
          wakeCause := l.pw.wakeCause ||| BitVec.ofNat 6 (2 ^ src), state := .reset, start := 5, wakeWaits := false,
          wokeAt := some l.now } }))) ∧
    (∀ q, l.reaches q = true → l.keyOf q = true → l.pw.entry = none → l.pw.state = .doze → l.pw.waking = false →
      ∃ m, exec (.pwWake h q) s = .next (s.after h m) ∧
        m = { l with sys := m.sys, regs := m.regs, status := m.status, hr := m.hr, pw := { l.pw with
          wakeCause := l.pw.wakeCause ||| 0x10, waking := true, wakeWaits := false, wokeAt := some l.now } } ∧
        m.keyOf q = false ∧ m.flagged Reg.PW_STATUS Bit.PW_WOKE = true) ∧
    (l.pw.state = .doze → l.pw.waking = true → ∃ m, exec (.dozeWakeComplete h) s = .next (s.after h m) ∧
      m = { l with pw := m.pw, ts := m.ts, cm := m.cm, le := m.le, sf := m.sf, ln := m.ln, cv := m.cv, port := m.port } ∧
      m.pw.state = .run ∧ m.pw.waking = false ∧ m.pw.runAt = some l.now ∧
      (l.ln.failed = false → m.ln.role = .spare ∧ m.port.c1 = l.port.c1 ++ [{ word := runnerWord 57 false 0 0, ts := none }]) ∧
      (l.ln.failed = true → m.ln.role = .withdrawn ∧ m.port = l.port)) ∧
    (∀ q, l.reaches q = true → l.keyOf q = true → l.ts.done = true → l.pw.padLatch = true →
      ∃ m, exec (.pwPadRelease h q) s = .next (s.after h m) ∧
        m = { l with sys := m.sys, regs := m.regs, status := m.status, hr := m.hr, fb := .replicate 8 (initUnit l.now),
                     pw := { l.pw with padLatch := false } } ∧
        m.keyOf q = false ∧ m.flagged Reg.PW_STATUS Bit.PW_PADS_RELEASED = true) ∧
    (l.alive = true → l.ln.role = .offline → l.partakes = true → l.ln.agreed = false → l.restingHeard = true →
      l.wordHeard = false → l.runFor l.solo = true → l.ln.line = .idle → l.eligible = true →
      ∃ m, exec (.soloExpiry h) s = .next (s.after h m) ∧
        m = { l with status := m.status, ts := m.ts, env := m.env, hr := m.hr, ln := m.ln } ∧
        (l.claimMet = false → m.ln.line = .claim ∧ m.ln.claimAt = l.now) ∧
        (l.claimMet = true → m.ln.line = .idle ∧ m.flagged Reg.LN_STATUS Bit.LN_CLAIM_YIELD = true) ∧
        m.flagged Reg.PW_STATUS Bit.PW_SOLO_CLAIM = true)

/-- Token lines and claims (08 R199, R200): what each view of a line does. -/
def Obligations.ClaimsFollowTheLines : Prop :=
  ∀ (s : State) (h : Hdr) (l : Lane), l = s.arrive h → l.Sound h.lane → l.alive = true →
    (∀ k, k < 2 → l.riserPorts.testBit k = true → (l.peerOf k).line ≠ .idle → l.ln.line = .idle → l.ln.holder = l.peerNo k →
      ∃ m, exec (.tokenLineChange h k .idle) s = .next (s.after h m) ∧ m = { l with ln := m.ln } ∧ (m.peerOf k).line = .idle ∧
        m.ln.line = .idle ∧ m.ln.holder = 3 ∧ m.ln.releaseAt = some l.now) ∧
    (∀ k, k < 2 → l.riserPorts.testBit k = true → (l.peerOf k).line ≠ .hold → l.ln.line = .idle →
      ∃ m, exec (.tokenLineChange h k .hold) s = .next (s.after h m) ∧ m = { l with ln := m.ln } ∧ (m.peerOf k).line = .hold ∧
        m.ln.line = .idle ∧ m.ln.holder = l.peerNo k) ∧
    (∀ k, k < 2 → l.riserPorts.testBit k = true → (l.peerOf k).line ≠ .hold → l.ln.line = .hold → l.ln.splitAt = none →
      ∃ m, exec (.tokenLineChange h k .hold) s = .next (s.after h m) ∧ m = { l with ln := m.ln } ∧ (m.peerOf k).line = .hold ∧
        m.ln.line = .hold ∧ m.ln.holder = l.ln.holder ∧ m.ln.splitAt = some l.now) ∧
    (∀ k, k < 2 → l.riserPorts.testBit k = true → (l.peerOf k).line ≠ .claim → l.ln.line = .claim → l.outranked k = true → l.ln.forHandover = false →
      ∃ m, exec (.tokenLineChange h k .claim) s = .next (s.after h m) ∧
        m = { l with ln := m.ln, status := m.status, hr := m.hr } ∧ (m.peerOf k).line = .claim ∧ m.ln.line = .idle ∧
        m.ln.yields = satAdd 0xFF l.ln.yields 1 ∧ m.flagged Reg.LN_STATUS Bit.LN_CLAIM_YIELD = true) ∧
    (∀ k, k < 2 → l.riserPorts.testBit k = true → (l.peerOf k).line ≠ .silent →
      ∃ m, exec (.tokenLineChange h k .silent) s = .next (s.after h m) ∧ m = { l with ln := m.ln } ∧
        (m.peerOf k).line = .silent ∧ m.ln.line = l.ln.line ∧ m.ln.holder = l.ln.holder ∧ m.ln.releaseAt = l.ln.releaseAt) ∧
    (l.ln.line = .idle → l.eligible = true → l.claimMet = false → ∃ m, exec (.claimStart h) s = .next (s.after h m) ∧
      m = { l with ln := m.ln, ts := m.ts, env := m.env, hr := m.hr } ∧ m.ln.line = .claim ∧ m.ln.claimAt = l.now ∧
      m.ln.forHandover = false) ∧
    (l.ln.line = .idle → l.eligible = true → l.claimMet = true → ∃ m, exec (.claimStart h) s = .next (s.after h m) ∧
      m = { l with ln := m.ln, ts := m.ts, env := m.env, hr := m.hr, status := m.status } ∧ m.ln.line = .idle ∧
      m.ln.role = l.ln.role ∧ m.ln.yields = satAdd 0xFF l.ln.yields 1 ∧ m.flagged Reg.LN_STATUS Bit.LN_CLAIM_YIELD = true) ∧
    (l.ln.line ≠ .idle ∨ l.eligible = false → exec (.claimStart h) s = .next (s.after h l)) ∧
    (l.ln.line = .claim → l.ln.forHandover = false → l.ln.claimAt + 16 ≤ l.now →
      ∃ m, exec (.claimHold h) s = .next (s.after h m) ∧ m.ln.line = .hold ∧ m.ln.holder = l.id.num ∧ m.ln.held = false ∧
        m.ln.holdSince = l.wns ∧ m.ln.takeovers = satAdd 0xFF l.ln.takeovers 1 ∧ m.ig = l.ig ∧ m.die = l.die) ∧
    (∀ k th, k < 2 → l.riserPorts.testBit k = true → (l.peerOf k).silent = false → l.partakes = true → l.ln.role = .standby → l.health = 0 → l.ln.line = .idle → l.ln.holder = l.peerNo k →
      (l.peerOf k).line = .hold → l.now + 710 ≤ l.cycleAt th →
      ∃ m, exec (.handoverFrame h k th) s = .next (s.after h m) ∧
        m = { l with ln := m.ln, ts := m.ts, env := m.env, hr := m.hr, port := m.port } ∧ m.ln.line = .claim ∧
        m.ln.forHandover = true ∧ m.ln.tr = some (l.ownStartAt th) ∧
        m.port.c3 = putOrdered { word := runnerWord 62 true (l.ownStartAt th - l.relAt) 5, ts := some (l.ownStartAt th) } l.port.c3) ∧
    (∀ t, l.ln.tr = some t → l.ln.line = .claim → l.ln.forHandover = true → t ≤ l.now + 16 →
      ∃ m, exec (.handoverCheck h) s = .next (s.after h m) ∧
        m = { l with ln := m.ln, status := m.status, hr := m.hr, port := m.port } ∧ m.ln.line = .idle ∧ m.ln.tr = none ∧
        m.port.c1 = l.port.c1 ++ [{ word := dropWord, ts := none }] ∧ (∀ p ∈ m.port.c3, p.isRaise = false) ∧
        m.flagged Reg.LN_STATUS Bit.LN_CLAIM_YIELD = true) ∧
    (∀ t k, l.ln.splitAt = some t → l.splitPeer = some k → l.ln.line = .hold → t + 512 ≤ l.now →
      (l.outranked k = false → ∃ m, exec (.splitTimeout h) s = .next (s.after h m) ∧
        m = { l with ln := { l.ln with splitAt := none }, status := m.status, hr := m.hr } ∧
        m.flagged Reg.LN_STATUS Bit.LN_SPLIT = true) ∧
      (l.outranked k = true → ∃ m, exec (.splitTimeout h) s = .next (s.after h m) ∧ m.ln.line = .idle ∧ m.ln.held = false ∧
        m.ln.holder = l.peerNo k ∧ m.ln.splitAt = none ∧ m.ig = l.ig ∧ m.die = l.die))

/-- Heartbeats, peers and the module condition (08 R189 to R195). -/
def Obligations.HeartbeatsAndHealth : Prop :=
  ∀ (s : State) (h : Hdr) (l : Lane), l = s.arrive h → l.Sound h.lane → l.alive = true →
    ((l.ln.hbAt = none ∨ ∃ t, l.ln.hbAt = some t ∧ t + 256 ≤ l.now) → ∃ w0 w1 w2 w3 w4 : Word,
      exec (.heartbeatSend h) s = .next (s.after h { l with
        ln := { l.ln with sent := l.ln.sent ++ [.heartbeat l.riserPorts [w0, w1, w2, w3, w4]], hbSeq := (l.ln.hbSeq + 1) % 65536,
                          hbAt := some l.now },
        pw := { l.pw with entry := l.pw.entry.map fun e => { e with beats := e.beats + b2n e.isolated } } }) ∧
      w0 = l.hbWord0 ∧ (l.health = 3 → w1 = 0) ∧ w3 = BitVec.ofNat 32 (secOf l.ln.holdSince) ∧
      w4 = pack [(l.ln.hbSeq, 0), ((crc16 [w0, w1, w2, w3]).toNat, 16)]) ∧
    (∀ t, l.ln.hbAt = some t → l.now < t + 256 → exec (.heartbeatSend h) s = .next (s.after h l)) ∧
    (∀ k w0 w1 w2 w3 w4, k < 2 → l.riserPorts.testBit k = false →
      exec (.heartbeatReceive h k w0 w1 w2 w3 w4) s = .next (s.after h l)) ∧
    (∀ k w0 w1 w2 w3 w4, k < 2 → l.riserPorts.testBit k = true →
      ((crc16 [w0, w1, w2, w3]).toNat ≠ field w4 16 16 ∨ field w0 30 2 ≠ l.peerNo k) →
      exec (.heartbeatReceive h k w0 w1 w2 w3 w4) s = .next (s.after h { l with
        ln := { l.ln with peer := vmod l.ln.peer k fun p => { p with bad := min 3 (p.bad + 1) } } })) ∧
    (∀ k w0 w1 w2 w3 w4, k < 2 → l.riserPorts.testBit k = true → (crc16 [w0, w1, w2, w3]).toNat = field w4 16 16 →
      field w0 30 2 = l.peerNo k →
      ∃ m, exec (.heartbeatReceive h k w0 w1 w2 w3 w4) s = .next (s.after h m) ∧ m.ig = l.ig ∧ m.die = l.die ∧
        (m.peerOf k).role = field w0 27 3 ∧ (m.peerOf k).health = field w0 25 2 ∧ (m.peerOf k).heard = field w0 22 3 ∧
        (m.peerOf k).holder = field w0 20 2 ∧ (m.peerOf k).cond = field w0 18 2 ∧ (m.peerOf k).paths = field w0 15 3 ∧
        (m.peerOf k).item = field w0 5 8 ∧ (m.peerOf k).axcfg = field w1 0 18 ∧ (m.peerOf k).lastAt = some l.now ∧ (m.peerOf k).beatAt = some l.now ∧
        (m.peerOf k).silent = false ∧ (m.peerOf k).line = (l.peerOf k).line ∧ (m.peerOf k).bad = (l.peerOf k).bad) ∧
    (l.inRun = true → l.runFor l.hbto = true → l.wordHeard = true → l.ln.agreed = false → l.ln.impaired.getLsbD 7 = false →
      ∃ m, exec (.axcfgMismatch h) s = .next (s.after h m) ∧
        m = { l with status := m.status, cm := m.cm, le := m.le, port := m.port, ln := m.ln, env := m.env, hr := m.hr } ∧
        m.ln.impaired = l.ln.impaired ||| 0x80 ∧ m.ln.code = 0x17 ∧ m.flagged Reg.LN_STATUS Bit.LN_AXCFG_MISMATCH = true) ∧
    (∀ k, k < 2 → (l.peerOf k).lastAt.isSome = true → l.heardPeer k = false → (l.peerOf k).silent = false →
      ((l.peerOf k).health = 3 → exec (.peerSilent h k) s = .next (s.after h { l with
        ln := { l.ln with peer := vmod l.ln.peer k fun p => { p with silent := true, readySince := none, lower := (0, 3) } } })) ∧
      ((l.peerOf k).health ≠ 3 → ∃ m, exec (.peerSilent h k) s = .next (s.after h m) ∧
        m = { l with status := m.status, ln := m.ln, hr := m.hr } ∧ (m.peerOf k).silent = true ∧
        ((l.peerOf k).health = 0 → m.ln.level ≠ 0) ∧
        (l.thirdHears k = true → (m.peerOf k).lost = true ∧ m.flagged Reg.LN_STATUS Bit.LN_RISER_LOST = true))) ∧
    (∀ k t, k < 2 → (l.peerOf k).backSince = some t → l.heardPeer k = true → t + 250000 ≤ l.now →
      ∃ m, exec (.riserLinkRestored h k) s = .next (s.after h m) ∧ m = { l with ln := m.ln } ∧ (m.peerOf k).lost = false ∧
        (m.peerOf k).backSince = none ∧
        ((l.peerOf (1 - k)).lost = false → l.riserPorts = 3 → m.ln.impaired = l.ln.impaired &&& 0xEF) ∧
        (((l.peerOf (1 - k)).lost = true ∨ l.riserPorts ≠ 3) → m.ln.impaired = l.ln.impaired)) ∧
    (∀ k t, k < 2 → (l.peerOf k).readySince = some t → l.holds = true → l.ln.cond ≠ 3 → l.hearsStandby = true →
      l.heardPeer k = true → t + 250000 ≤ l.now → ∃ m, exec (.conditionRecount h k) s = .next (s.after h m) ∧
        m.ln.cond = l.ownCount ∧ m.ln.line = .hold ∧ m.ln.peer = l.ln.peer ∧ m.ig = l.ig ∧ m.die = l.die)

/-- Triggers and deferred causes (08 R196, R197). -/
def Obligations.TriggersAndDeferredCauses : Prop :=
  ∀ (s : State) (h : Hdr) (l : Lane), l = s.arrive h → l.Sound h.lane → l.alive = true →
    (∀ code detail, 1 ≤ code → code ≤ 0x0B → ∃ m, exec (.selfDiagnosisTrigger h code detail) s = .next (s.after h m) ∧
      m = { l with status := m.status, cm := m.cm, le := m.le, port := m.port, ln := m.ln, env := m.env, hr := m.hr } ∧
      m.ln.failed = true ∧ m.ln.role = .withdrawn ∧ m.ln.line ≠ .hold ∧ m.ln.line ≠ .claim ∧ m.ln.level ≠ 0 ∧
      ((l.ln.trigAt ≠ some l.now ∨ code < l.ln.code) → m.ln.code = code ∧ m.ln.detail = detail % 256) ∧
      (l.ln.trigAt = some l.now → l.ln.code ≤ code → m.ln.code = l.ln.code ∧ m.ln.detail = l.ln.detail)) ∧
    (∀ code detail, impairs code = true → ∃ m, exec (.deferredCause h code detail) s = .next (s.after h m) ∧
      m = { l with status := m.status, cm := m.cm, le := m.le, port := m.port, ln := m.ln, env := m.env, hr := m.hr } ∧
      m.ln.impaired = l.ln.impaired ||| BitVec.ofNat 8 (2 ^ (code - 0x10)) ∧ m.ln.failed = l.ln.failed ∧ m.ln.code = code ∧
      m.ln.level ≠ 0 ∧ (l.ln.line = .idle → l.ln.failed = false → l.ln.role = .standby → m.ln.role = .spare)) ∧
    (∀ code detail, withdraws code = true → l.ln.line ≠ .hold → ∃ m,
      exec (.deferredCause h code detail) s = .next (s.after h m) ∧
      m = { l with status := m.status, cm := m.cm, le := m.le, port := m.port, ln := m.ln, env := m.env, hr := m.hr } ∧
      m.ln.failed = true ∧ m.ln.role = .withdrawn ∧ m.ln.code = code ∧ m.ln.impaired = l.ln.impaired) ∧
    (∀ code detail, (impairs code = true ∨ withdraws code = true) → l.ln.line = .hold → l.ln.handover = none →
      (l.standbyPeer = none → ∃ m, exec (.deferredCause h code detail) s = .next (s.after h m) ∧
        m = { l with status := m.status, ln := m.ln, hr := m.hr } ∧ m.ln.deferred = some code ∧ m.ln.line = .hold ∧
        m.ln.held = l.ln.held ∧ m.ln.sent = l.ln.sent) ∧
      (∀ k th, l.standbyPeer = some k → l.periodStart l.taxis (l.now + 1024) = some th → ∃ m,
        exec (.deferredCause h code detail) s = .next (s.after h m) ∧ m = { l with status := m.status, ln := m.ln, hr := m.hr } ∧
        m.ln.handover = some { code := code, th := th, claimed := false } ∧ m.ln.line = .hold ∧ m.ln.held = l.ln.held ∧
        m.ln.sent = l.ln.sent ++ [.handover l.riserPorts (l.wclkAt th)]))

/-- Handovers, the commands of LN_CMD, path losses and the management view (08 R197, R209, R211, Table 8.15). -/
def Obligations.HandoversAndViews : Prop :=
  ∀ (s : State) (h : Hdr) (l : Lane), l = s.arrive h → l.Sound h.lane → l.alive = true →
    (∀ x, l.ln.handover = some x → x.claimed = false → x.th ≤ l.now + 700 → exec (.handoverRetry h) s =
      .next (s.after h { l with ln := { l.ln with handover := none, deferred := some x.code, retryAt := x.th } })) ∧
    (∀ x, l.ln.handover = some x → x.claimed = true → x.th ≤ l.now + 32 → l.ln.line = .hold → l.ln.failed = false →
      ∃ m, exec (.handoverDrop h) s = .next (s.after h m) ∧
        m = { l with status := m.status, cm := m.cm, port := m.port, ln := m.ln, env := m.env, hr := m.hr } ∧
        m.ln.line = .idle ∧ m.ln.held = false ∧ m.ln.handover = none ∧ m.ln.releaseAt = some l.now ∧
        m.ln.holder = (if l.ln.holder = l.id.num then 3 else l.ln.holder) ∧
        m.ln.role = (if l.health = 0 then .standby else .spare) ∧
        m.port.c1 = l.port.c1 ++ [{ word := dropWord, ts := none }]) ∧
    (∀ q k th, l.reaches q = true → l.keyOf q = true → l.isActive = true → l.ln.line = .hold → l.ln.handover = none →
      (∀ j, j < 2 → (l.peerOf j).line ≠ .claim) → l.standbyPeer = some k →
      l.periodStart l.taxis (l.now + 1024) = some th → ∃ m, exec (.lnHandover h q) s = .next (s.after h m) ∧
        m = { l with sys := m.sys, regs := m.regs, ln := m.ln } ∧ m.keyOf q = false ∧
        m.ln.handover = some { code := 0x16, th := th, claimed := false } ∧ m.ln.code = 0x16 ∧
        m.ln.sent = l.ln.sent ++ [.handover l.riserPorts (l.wclkAt th)] ∧ m.ln.line = .hold) ∧
    (∀ q, l.reaches q = true → l.keyOf q = true →
      (l.isActive = false ∨ l.ln.handover ≠ none ∨ (∃ j, j < 2 ∧ (l.peerOf j).line = .claim) ∨ l.standbyPeer = none) →
      ∃ m, exec (.lnHandover h q) s = .next (s.after h m) ∧
        m = { l with sys := m.sys, regs := m.regs, status := m.status, hr := m.hr } ∧ m.keyOf q = false ∧
        m.flagged Reg.LN_STATUS Bit.LN_HANDOVER_REFUSED = true) ∧
    (∀ q, l.reaches q = true → l.keyOf q = true →
      (l.isActive = false → ∃ m, exec (.lnLaneReset h q) s = .next (s.after h m) ∧
        m = { l with sys := m.sys, regs := m.regs, pw := { l.pw with resetAt := some (l.now, 4) } } ∧ m.keyOf q = false) ∧
      (l.isActive = true → ∃ m, exec (.lnLaneReset h q) s = .next (s.after h m) ∧
        m = { l with sys := m.sys, status := m.status, hr := m.hr } ∧ m.keyOf q = false ∧ m.sys.refReason = 4 ∧
        m.sys.refOff = Reg.LN_CMD ∧ m.flagged Reg.SYS_LSTATUS Bit.SYS_WRITE_REFUSED = true)) ∧
    (∀ q, l.reaches q = true → l.keyOf q = true → ∃ m, exec (.lnAckSilent h q) s = .next (s.after h m) ∧ m.keyOf q = false ∧
      m.ln = { l.ln with silentHold := false } ∧ m.ig = l.ig ∧ m.die = l.die) ∧
    (∀ p t, p < 3 → vget l.ln.pathAt p none = some t → t + us (l.fld Reg.LN_CFG 0 16) ≤ l.now →
      ∃ m, exec (.pathConfirm h p) s = .next (s.after h m) ∧ vget m.ln.pathAt p none = none ∧ m.ln.pathLost.testBit p = true ∧
        m.flagged Reg.LN_STATUS Bit.LN_PATH_LOST = true ∧ (l.pathExternal p = false → m.ln.charged.testBit p = true ∧ m.ln.code = 0x13)) ∧
    (∀ t, l.ln.viewAt = some t → l.viewDiff ≠ 0 → t + 64 ≤ l.now → ∃ m, exec (.viewDisagree h) s = .next (s.after h m) ∧
      m.ln.viewAt = none ∧ m.ln.views = satAdd 0xFF l.ln.views 1 ∧ (l.ln.resent = 0 → m.hr.viewFlag = 63) ∧
      m.flagged Reg.LN_STATUS Bit.LN_VIEW_DISAGREE = true ∧ (l.viewDiff = 4 → m.ln.holder = l.lineHolder) ∧
      (l.viewDiff = 2 → l.ln.resent = 0 → m.port.c1 = l.port.c1 ++ [{ word := dropWord, ts := none }]))

/-- The mirror (08 R204, R205). -/
def Obligations.MirrorRecordsAreAdopted : Prop :=
  ∀ (s : State) (h : Hdr) (l : Lane), l = s.arrive h → l.Sound h.lane → l.alive = true →
    (l.holds = true → (l.ln.laneRecAt = none ∨ ∃ t, l.ln.laneRecAt = some t ∧ t + 2500 ≤ l.now) →
      ∀ due : Nat → Prop, (∀ k, due k ↔ k < 2 ∧ l.riserPorts.testBit k = true ∧
        (l.fullRate k = true ∨ (l.ln.laneCount = 0 ∧ (l.peerOf k).role = 1))) →
      ∃ m more, exec (.laneRecordSend h) s = .next (s.after h m) ∧
        m = { l with ln := { l.ln with sent := l.ln.sent ++ more, seqOut := m.ln.seqOut, laneRecAt := some l.now,
                                       laneCount := (l.ln.laneCount + 1) % 8 } } ∧
        (∀ k, due k → .lane k (vget l.ln.seqOut (8 * k + 6) 0) (l.fullRate k) l.laneRecord ∈ more ∧
          vget m.ln.seqOut (8 * k + 6) 0 = (vget l.ln.seqOut (8 * k + 6) 0 + 1) % 65536) ∧
        (∀ k n, due k → l.enabled n = true → n < 6 → (l.axis n).drive = false →
          .axis k (vget l.ln.seqOut (8 * k + n) 0) n (l.fullRate k) (l.axisRecord n) ∈ more) ∧
        (∀ t ∈ more, ∃ k, due k ∧ (t = .lane k (vget l.ln.seqOut (8 * k + 6) 0) (l.fullRate k) l.laneRecord ∨
          ∃ n, (l.axis n).drive = false ∧ l.enabled n = true ∧
            t = .axis k (vget l.ln.seqOut (8 * k + n) 0) n (l.fullRate k) (l.axisRecord n)))) ∧
    (l.holds = false → exec (.laneRecordSend h) s = .next (s.after h l)) ∧
    (∀ k seq crcOk n full r, k < 2 → n < 6 →
      (l.riserPorts.testBit k = false → exec (.axisRecordReceive h k seq crcOk n full r) s = .next (s.after h l)) ∧
      (l.riserPorts.testBit k = true → crcOk = false → ∃ m,
        exec (.axisRecordReceive h k seq crcOk n full r) s = .next (s.after h m) ∧ l.hasRejected m k n) ∧
      (l.riserPorts.testBit k = true → crcOk = true → ∃ m,
        exec (.axisRecordReceive h k seq crcOk n full r) s = .next (s.after h m) ∧ l.hasHeard m k ∧
        m.ln.line = l.ln.line ∧ m.ln.role = l.ln.role ∧ m.ig = l.ig ∧ m.die = l.die ∧
        (l.mirrors k = true → vget m.ln.mirSeq n none = some (seq % 65536) ∧ vget m.ln.keptAxis n none = some r) ∧
        (l.mirrors k = true → l.enabled n = true →
          m.reg (Reg.FB_AOFF n) = (if l.reg (Reg.FB_AOFF n) = (s.start h).reg (Reg.FB_AOFF n) then r.aoff
            else l.reg (Reg.FB_AOFF n)) ∧
          (m.unit n).cnt.arm = r.arm ∧ (m.axis n).reason = r.reason ∧ (m.axis n).drive = r.drive ∧
          (full = true → m.ln.axisGot.testBit n = true) ∧
          (r.drive = false → (m.loopOf n).tgt = r.tgt ∧ (m.loopOf n).psp = r.psp ∧ (m.axis n).ref = r.ref)) ∧
        (l.mirrors k = false → m.ln.mirSeq = l.ln.mirSeq ∧ m.ln.keptAxis = l.ln.keptAxis ∧ m.ln.axisRec = l.ln.axisRec ∧
          m.regs = l.regs ∧ m.fb = l.fb ∧ m.tl = l.tl))) ∧
    (∀ k seq crcOk full r, k < 2 →
      (l.riserPorts.testBit k = false → exec (.laneRecordReceive h k seq crcOk full r) s = .next (s.after h l)) ∧
      (l.riserPorts.testBit k = true → crcOk = false → ∃ m,
        exec (.laneRecordReceive h k seq crcOk full r) s = .next (s.after h m) ∧ l.hasRejected m k 6) ∧
      (l.riserPorts.testBit k = true → crcOk = true → ∃ m,
        exec (.laneRecordReceive h k seq crcOk full r) s = .next (s.after h m) ∧ l.hasHeard m k ∧ m.ln.role = l.ln.role ∧
        m.ln.line = l.ln.line ∧ m.ig = l.ig ∧ m.die = l.die ∧
        (l.mirrors k = true → m.ln.cond = r.cond ∧ m.ln.limpMir = r.limp ∧ m.ln.laneGot = (l.ln.laneGot || full) ∧
          vget m.ln.mirSeq 6 none = some (seq % 65536) ∧ m.ln.keptLane = some r) ∧
        (l.mirrors k = false → m.ln.cond = l.ln.cond ∧ m.ln.limpMir = l.ln.limpMir ∧ m.ln.laneGot = l.ln.laneGot ∧
          m.ln.keptLane = l.ln.keptLane ∧ m.regs = l.regs ∧ m.tl = l.tl))) ∧
    (∀ k seq crcOk ident path last, k < 2 →
      (l.riserPorts.testBit k = false → exec (.envRecordReceive h k seq crcOk ident path last) s = .next (s.after h l)) ∧
      (l.riserPorts.testBit k = true → crcOk = false → ∃ m,
        exec (.envRecordReceive h k seq crcOk ident path last) s = .next (s.after h m) ∧ l.hasRejected m k 7) ∧
      (l.riserPorts.testBit k = true → crcOk = true → ∃ m,
        exec (.envRecordReceive h k seq crcOk ident path last) s = .next (s.after h m) ∧ l.hasHeard m k ∧ m.regs = l.regs ∧
        m.ig = l.ig ∧ m.die = l.die ∧
        (l.mirrors k = true → vget m.ln.mirSeq 7 none = some (seq % 65536) ∧
          ((ident, path), last % 65536) ∈ m.ln.keptEnv ∧
          ∀ j, ((List.range 15).find? fun j =>
              l.inbound j && l.reg (Reg.SF_CID j) == ident && l.fld (Reg.SF_CCFG j) 28 2 == path) = some j →
            ((l.conn j).sync = false → (m.conn j).last = last % 65536 ∧ (m.conn j).sync = true ∧
              (m.conn j).wdAt = some l.now ∧ m.flagged Reg.SF_ENVSTATUS Bit.ENV_ADOPTED = true) ∧
            ((l.conn j).sync = true → m.env = l.env)) ∧
        (l.mirrors k = false → m.env = l.env ∧ m.ln.keptEnv = l.ln.keptEnv)))

/-- Wall time and its reference (02 R47 to R51). -/
def Obligations.WallTimeFollowsItsReference : Prop :=
  ∀ (s : State) (h : Hdr) (l : Lane), l = s.arrive h → l.Sound h.lane →
    (∀ t, l.alive = true → l.pw.padLatch = false → l.tl.ppsLast = some t → l.now < t + 225000000 →
      ∃ m, exec (.ppsEdge h) s = .next (s.after h m) ∧ m = { l with status := m.status, hr := m.hr } ∧
        m.flagged Reg.TL_WSTATUS Bit.TLW_PPS_GLITCH = true) ∧
    (l.alive = true → l.pw.padLatch = false → (∀ t, l.tl.ppsLast = some t → t + 225000000 ≤ l.now) →
      l.rbit Reg.TL_WSET_HI 16 = false →
      (l.refSrc ≠ 1 → exec (.ppsEdge h) s = .next (s.after h { l with tl := { l.tl with ppsLast := some l.now, ppsMissed := false } })) ∧
      (∀ e : Int, l.refSrc = 1 → e = (l.wns : Int) - ((l.wns + 500000000) / 1000000000 * 1000000000 : Nat) →
        (l.tl.phaseValid = false ∨ l.tl.stepArmed = true → ∃ m, exec (.ppsEdge h) s = .next (s.after h m) ∧
          m = { l with tl := m.tl, ts := m.ts } ∧ m.tl.phaseValid = true ∧ m.tl.stepArmed = false ∧ m.tl.refusal = false ∧
          m.tl.ppsErr = satErr e ∧ nsOf m.wns = 0 ∧ m.tl.ppsLast = some l.now) ∧
        (l.tl.phaseValid = true → l.tl.stepArmed = false → max 100 (l.reg Reg.TL_TJUMP).toNat < e.natAbs → l.tl.slewing = false →
          ∃ m, exec (.ppsEdge h) s = .next (s.after h m) ∧
            m = { l with tl := m.tl, status := m.status, env := m.env, hr := m.hr, ts := m.ts } ∧ m.tl.wclk = l.tl.wclk ∧
            m.tl.refusal = true ∧ m.tl.pendStep = satErr (-e) ∧ m.tl.ppsErr = satErr e ∧ m.tl.slew = l.tl.slew ∧
            m.flagged Reg.TL_WSTATUS Bit.TLW_TIME_JUMP_REFUSED = true) ∧
        (l.tl.phaseValid = true → l.tl.stepArmed = false → e.natAbs ≤ max 100 (l.reg Reg.TL_TJUMP).toNat →
          ∃ m, exec (.ppsEdge h) s = .next (s.after h m) ∧ m = { l with regs := m.regs, tl := m.tl, ts := m.ts } ∧
            m.tl.wclk = l.tl.wclk ∧ m.tl.refusal = false ∧ m.tl.slewing = false ∧ m.tl.slew = rdiv (-e * 2 ^ 32) 250000000 ∧
            m.tl.slewEnd = l.now + 250000000 ∧ m.tl.ppsErr = satErr e))) ∧
    (l.alive = true → l.pw.padLatch = false → (∀ t, l.tl.ppsLast = some t → t + 225000000 ≤ l.now) → l.rbit Reg.TL_WSET_HI 16 = true →
      ∃ m, exec (.ppsEdge h) s = .next (s.after h m) ∧
        m = { l with regs := m.regs, tl := m.tl, status := m.status, env := m.env, hr := m.hr, ts := m.ts } ∧ m.tl.secValid = true ∧
        m.rbit Reg.TL_WSET_HI 16 = false ∧ m.tl.ppsLast = some l.now ∧
        secOf m.wns = (l.reg Reg.TL_WSET_LO).toNat + 2 ^ 32 * l.fld Reg.TL_WSET_HI 0 16 ∧
        (l.refSrc ≠ 1 → nsOf m.wns = nsOf l.wns ∧ m.status = l.status)) ∧
    (∀ t, l.alive = true → l.tl.ppsLast = some t → l.tl.ppsMissed = false → t + 275000000 ≤ l.now →
      ∃ m, exec (.ppsMissing h) s = .next (s.after h m) ∧
        m = { l with tl := { l.tl with ppsMissed := true }, status := m.status, hr := m.hr } ∧
        m.flagged Reg.TL_WSTATUS Bit.TLW_PPS_MISSING = true) ∧
    (∀ q, l.reaches q = true → l.keyOf q = true →
      (l.tl.refusal = true → l.tl.stepArmed = false →
        (∃ m, exec (.timeAcceptSlew h q) s = .next (s.after h m) ∧ m.keyOf q = false ∧
          m = { l with sys := m.sys, regs := m.regs, tl := { l.tl with refusal := false, pendStep := 0, slewing := true } }) ∧
        (∃ m, exec (.timeAcceptStep h q) s = .next (s.after h m) ∧ m.keyOf q = false ∧
          m = { l with sys := m.sys, regs := m.regs, tl := { l.tl with stepArmed := true } })) ∧
      (l.tl.refusal = false → ∀ c ∈ [Instr.timeAcceptSlew h q, .timeAcceptStep h q], ∃ m, exec c s = .next (s.after h m) ∧
        m = { l with sys := m.sys, regs := m.regs } ∧ m.keyOf q = false))

/-- The event table (02 R45, R52 to R59). -/
def Obligations.EntriesCommitFireAndRepeat : Prop :=
  ∀ (s : State) (h : Hdr) (l : Lane), l = s.arrive h → l.Sound h.lane → fwf (fun _ => initEntry) l.tl.entries = true →
    (∀ q v n, l.reaches q = true → n < 8 →
      ∃ m, exec (.tlPtOffsetWrite h n ⟨q, v, 0xF⟩) s = .next (s.after h m) ∧
        m = { l with sys := m.sys, regs := m.regs, tl := m.tl, status := m.status, hr := m.hr } ∧ m.keyOf q = false ∧
        m.reg (Reg.TL_PT_OFFSET n) = v ∧ (∀ o, o ≠ Reg.TL_PT_OFFSET n → m.reg o = l.reg o) ∧
        ((l.ptOf n).valid = true → (m.ptOf n).angle = (l.ptOf n).angle + (v - l.reg (Reg.TL_PT_OFFSET n))) ∧
        ((l.ptOf n).valid = false → m.tl = l.tl) ∧ ∀ k, k ≠ n → m.ptOf k = l.ptOf k) ∧
    (∀ q, l.reaches q = true → ∃ m, exec (.tlEvtRead h q) s = .next (s.after h m) ∧ m = { l with sys := m.sys, regs := m.regs } ∧
      let e := l.entry (l.fld Reg.TL_EVT_SEL 0 8)
      (List.range 6).map (fun k => m.reg (Reg.TL_EVT_W k)) = [e.w0, e.w1, e.w2, e.w3, e.w4, e.w5]) ∧
    (∀ q, l.reaches q = true →
      let k := l.fld Reg.TL_EVT_SEL 0 8
      let e := l.windowEntry
      let full := e.on = true ∧ e.base < 8 ∧ 64 ≤ ((l.boundTo e.base).filter fun j => j != k).length
      (e.bad = false → ¬full → ∃ m, exec (.tlEvtCommit h q) s = .next (s.after h m) ∧
        m = { l with sys := m.sys, regs := m.regs, tl := m.tl, status := m.status, hr := m.hr } ∧
        (m.entry k).w0 = l.reg (Reg.TL_EVT_W 0) ∧ (m.entry k).w4 = l.reg (Reg.TL_EVT_W 4) ∧
        (m.entry k).w5 = l.reg (Reg.TL_EVT_W 5) ∧
        (e.base ≠ 8 ∨ e.action ≠ 3 → (m.entry k).w1 = l.reg (Reg.TL_EVT_W 1) ∧ (m.entry k).w2 = l.reg (Reg.TL_EVT_W 2) ∧
          (m.entry k).w3 = l.reg (Reg.TL_EVT_W 3)) ∧
        (m.entry k).commitAt = l.now ∧ (m.entry k).edge = none ∧ ∀ j, j ≠ k → m.entry j = l.entry j) ∧
      (e.bad = true ∨ full → ∃ m, exec (.tlEvtCommit h q) s = .next (s.after h m) ∧
        m = { l with sys := m.sys, regs := m.regs, status := m.status, hr := m.hr } ∧
        m.flagged Reg.TL_STATUS Bit.TL_ENTRY_REJECTED = true)) ∧
    (l.alive = true →
      (∀ k e, k < 256 → e = l.entry k → e.on = true → e.commitAt < l.now → e.base = 8 → e.action ≠ 3 → e.done = false →
        e.target ≤ l.wns → ∃ m, exec (.entryBaseInstant h k) s = .next (s.after h m) ∧
          m = { l with tl := m.tl, status := m.status, hr := m.hr } ∧
          m.entry k = e.stepTarget l.wns ∧ (∀ j, j ≠ k → m.entry j = l.entry j) ∧
          m.tl.due = l.tl.due ++ (if e.action = 0 then [] else [⟨k, e.action, e.arg, l.now + e.delay,
            decide (e.delay = 0) && !l.portFree (portOf e.action), none⟩])) ∧
      (∀ k e p, k < 256 → e = l.entry k → e.on = true → e.commitAt < l.now → e.base < 8 → e.pred = some p → p.base ≤ l.now →
        (e.action ≠ 3 → (p.snap < (l.ptOf e.base).snapAt ∧ (l.ptOf e.base).snapAt ≤ p.base) ∨
            p.delta < (l.reg (Reg.TL_PT_SCALE e.base)).toNat → ∃ m,
          exec (.entryBaseInstant h k) s = .next (s.after h m) ∧ m = { l with tl := m.tl, status := m.status, hr := m.hr } ∧
          p.occ ∈ (m.entry k).spent ∧ (∀ j, j ≠ k → m.entry j = l.entry j) ∧
          m.tl.due = l.tl.due ++ (if e.action = 0 then [] else [⟨k, e.action, e.arg, l.now + e.delay,
            decide (e.delay = 0) && !l.portFree (portOf e.action), none⟩])) ∧
        (e.action = 3 → e.edge ≠ none → ∃ m, exec (.entryBaseInstant h k) s = .next (s.after h m) ∧ m = { l with tl := m.tl } ∧
          p.occ ∈ (m.entry k).spent ∧ (m.entry k).edge = none ∧ (∀ j, j ≠ k → m.entry j = l.entry j) ∧
          m.tl.due = l.tl.due)) ∧
      (∀ k e d, k < 256 → e = l.entry k → e.dirtyAt = some d → d ≤ l.now → e.edge = none → e.edgeErr = none →
        (e.missed = [] → ∃ m, exec (.rePrediction h k) s = .next (s.after h m) ∧ m = { l with tl := m.tl } ∧
          (m.entry k).dirtyAt = none ∧ (∀ j, j ≠ k → m.entry j = l.entry j) ∧ m.tl.due = l.tl.due ∧
          m.tl.passed = l.tl.passed) ∧
        (∀ o fwd, e.missed.getLast? = some (o, fwd) → e.action ≠ 0 → ∃ m x, exec (.rePrediction h k) s = .next (s.after h m) ∧
          m = { l with tl := m.tl, status := m.status, hr := m.hr } ∧ (m.entry k).dirtyAt = none ∧ (m.entry k).missed = [] ∧
          (∀ j, j ≠ k → m.entry j = l.entry j) ∧ m.tl.passed = satAdd 0xFFFF l.tl.passed e.missed.length ∧
          m.flagged Reg.TL_STATUS Bit.TL_PASSED = true ∧ m.tl.due = l.tl.due ++ [x] ∧ x.entry = k ∧ x.action = e.action ∧
          x.arg = e.arg ∧ x.cyc = (if e.action = 3 then l.now else l.now + e.delay))) ∧
      (∀ k e ts tap, k < 256 → e = l.entry k → l.portFree 2 = true → (∀ j ∈ l.readyEdges, k ≤ j) →
        (∀ d ∈ l.tl.due, portOf d.action = 2 → d.cyc ≤ l.now → k < d.entry) → l.edgeReady e = true →
        l.edgeTime e = some (ts, tap) →
        (∀ g, e.edgeKind = 2 → g = field e.w5 8 6 → ∃ m, exec (.edgeGateCommit h k) s = .next (s.after h m) ∧
          m = { l with tl := m.tl, port := m.port, status := m.status, hr := m.hr } ∧
          m.port = (if g < 36 then (l.sendGate g (bit e.w5 14) (16 * ts + tap)).port else l.port) ∧
          (e.base ≠ 8 → (m.entry k).edge.map (·.ts) = some ts)) ∧
        (e.edgeKind = 0 → ∃ m, exec (.edgePeriodCommit h k) s = .next (s.after h m) ∧
          m = { l with tl := m.tl, cm := m.cm, cv := m.cv, status := m.status, hr := m.hr } ∧
          (∀ n, n < 6 → e.arg.testBit n = false → m.axis n = l.axis n) ∧
          (∀ n, n < 6 → e.arg.testBit n = true → l.enabled n = true →
            ∃ p ∈ (m.axis n).periods, ts < p.start + l.per n / 2 + 1 ∧ p.start < ts + l.per n / 2 + 1)) ∧
        (∀ n, e.edgeKind = 1 → n = e.arg % 8 → n < 6 → l.enabled n = true → e.base < 8 →
          (∃ m, exec (.edgeSectorCommit h k) s = .next (s.after h m) ∧ (m.entry k).edge.map (·.ts) = some ts ∧ m.ig = l.ig ∧
            m.die = l.die ∧ m.regs = l.regs ∧ (∀ i, i ≠ n → m.axis i = l.axis i)) ∧
          ((l.axis n).fallback = true ∨ l.sect n = 1 → ∃ m, exec (.edgeSectorCommit h k) s = .next (s.after h m) ∧
            m = { l with tl := m.tl, status := m.status, hr := m.hr }))))

/-- The actions of the event table that reach a unit (02 R58, R59). -/
def Obligations.DueActionsReachTheirUnits : Prop :=
  ∀ (s : State) (h : Hdr) (l : Lane), l = s.arrive h → l.Sound h.lane → l.awake = true →
    (∀ p d, p < 4 → l.portFree p = true → l.nextDue p = some d →
      (l.takes p d).tl.due.length + 1 = l.tl.due.length ∧ (l.takes p d).portFree p = false ∧
      l.takes p d = { l with tl := (l.takes p d).tl, status := (l.takes p d).status, hr := (l.takes p d).hr }) ∧
    (∀ d k, l.portFree 0 = true → l.nextDue 0 = some d → d.action = 1 → k = d.arg % 256 →
      (k < 16 → l.controlOf k 0 = true → l.seqBusy k = false → exec (.adcTrig h) s = .next (s.after h { l.takes 0 d with
        cv := { l.cv with reqs := l.cv.reqs ++ [⟨k, l.now + l.fld (Reg.CV_SEQ k) 0 16, false⟩] } })) ∧
      (k < 16 → l.controlOf k 0 = true → l.seqBusy k = true → ∃ m, exec (.adcTrig h) s = .next (s.after h m) ∧
        m = { l.takes 0 d with cv := { l.cv with trigLost := satAdd 0xFFFF l.cv.trigLost 1 }, status := m.status, hr := m.hr } ∧
        m.flagged Reg.CV_STATUS Bit.CV_TRIG_LOST = true) ∧
      (¬(k < 16 ∧ l.controlOf k 0 = true) → ∃ m, exec (.adcTrig h) s = .next (s.after h m) ∧
        m = { l.takes 0 d with status := m.status, hr := m.hr } ∧ m.flagged Reg.CV_STATUS Bit.CV_TRIG_BAD = true)) ∧
    (∀ d, l.portFree 1 = true → l.nextDue 1 = some d → d.action = 2 → ∃ m, exec (.loopStart h) s = .next (s.after h m) ∧
      m = { l with tl := m.tl, le := m.le, sf := m.sf, status := m.status, hr := m.hr } ∧ m.tl.due = (l.takes 1 d).tl.due ∧
      ∀ n, n < 6 →
        (d.arg.testBit n = false → m.loopOf n = l.loopOf n ∧ vget m.tl.capL n 0 = vget l.tl.capL n 0 ∧
          m.safetyOf n = l.safetyOf n) ∧
        (d.arg.testBit n = true → vget m.tl.capL n 0 = l.wns ∧
          (l.enabled n = true → (m.safetyOf n).pend = some (l.evalLatch n)) ∧
          ((l.axis n).drive = false → m.loopOf n = { l.loopOf n with waiting := false }) ∧
          ((l.axis n).drive = true → (l.loopOf n).waiting = false → (m.loopOf n).waiting = true ∧
            (m.loopOf n).skipped = (l.loopOf n).skipped) ∧
          ((l.axis n).drive = true → (l.loopOf n).waiting = true →
            m.loopOf n = { l.loopOf n with skipped := min 0xFFFF ((l.loopOf n).skipped + 1) } ∧
            m.flagged (Reg.LE_STATUS n) Bit.LE_LOOP_SKIPPED = true))) ∧
    (∀ d, l.portFree 3 = true → l.nextDue 3 = some d → d.action = 4 →
      (l.hr.svc = none → ∃ m, exec (.doorbell h) s = .next (s.after h m) ∧
        m = { l with tl := (l.takes 3 d).tl, status := m.status, hr := m.hr } ∧ m.hr.svc = some
          { mask := d.arg % 16, start := l.now, issued := l.now, dbto := l.dbto, fetchMax := l.fetchMax, left := none } ∧
        (l.canIssue = true → ∃ more, m.hr.sent = more ++ [.read (l.addr64 Reg.HR_DBLO Reg.HR_DBHI) 64])) ∧
      (l.hr.svc.isSome = true → ∃ m, exec (.doorbell h) s = .next (s.after h m) ∧
        m = { l with tl := (l.takes 3 d).tl, status := m.status, hr := m.hr } ∧ m.hr.svc = l.hr.svc ∧
        m.hr.dbBusy = min 0xFF (l.hr.dbBusy + 1) ∧ m.flagged Reg.HR_STATUS Bit.HR_DB_BUSY = true)) ∧
    (∀ d b x, l.portFree 3 = true → l.nextDue 3 = some d → d.action = 5 → b = d.arg % 2 → x = d.arg / 2 % 64 →
      ((l.busOf b).master = false → (l.busOf b).ready = false → exec (.sprueSlot h) s = .next (s.after h (l.takes 3 d))) ∧
      ((l.busOf b).master = true → x ≠ 0 → bit (l.slotWord b (l.busOf b).mode x) 31 = false →
        ∃ m, exec (.sprueSlot h) s = .next (s.after h m) ∧ m = { l.takes 3 d with status := m.status, hr := m.hr } ∧
          m.flagged (Reg.SP_STATUS b) Bit.SP_SLOT_SKIP = true) ∧
      ((l.busOf b).master = true → (l.busOf b).ending = false → x ≠ 0 → bit (l.slotWord b (l.busOf b).mode x) 31 = true →
        ∃ m, exec (.sprueSlot h) s = .next (s.after h m) ∧
          m = { l with tl := m.tl, status := m.status, hr := m.hr, sp := m.sp, env := m.env, free := m.free } ∧
          (m.busOf b).running = true ∧ (m.busOf b).slot = x ∧ (m.busOf b).slotAt = l.now ∧ (m.busOf b).poll.isSome = true ∧
          (m.busOf b).sent.length = (l.busOf b).sent.length + 1 ∧ (m.busOf b).master = true ∧ m.busOf (1 - b) = l.busOf (1 - b))) ∧
    (∀ d, l.portFree 3 = true → l.nextDue 3 = some d → d.action = 6 →
      (∀ n, n < 6 → d.arg = 0x10 + n → l.ringOn 2 = true → l.ringRoom 2 = true →
        ∃ m, exec (.telemetry h) s = .next (s.after h m) ∧
          m = { l with tl := m.tl, status := m.status, hr := m.hr, env := m.env, free := m.free } ∧
          m.hr.staged.length = l.hr.staged.length + 1 ∧ m.hr.laneRecs = l.hr.laneRecs) ∧
      (d.arg = 0x20 → l.ringOn 2 = true → l.ringRoom 2 = true → ∃ m, exec (.telemetry h) s = .next (s.after h m) ∧
        m.hr.staged.length = l.hr.staged.length + 1 ∧ m.hr.laneRecs = (l.hr.laneRecs + 1) % 65536 ∧ m.ln = l.ln) ∧
      (¬(0x10 ≤ d.arg ∧ d.arg < 0x16) → d.arg ≠ 0x20 → ∃ m, exec (.telemetry h) s = .next (s.after h m) ∧
        m = { l.takes 3 d with status := m.status, hr := m.hr } ∧ m.hr.staged = l.hr.staged ∧
        m.flagged Reg.HR_STATUS Bit.HR_TLM_BAD = true)) ∧
    (l.nextDue 0 = none → exec (.adcTrig h) s = .next (s.after h l)) ∧ (l.nextDue 1 = none → exec (.loopStart h) s = .next (s.after h l)) ∧
    (l.nextDue 3 = none → ∀ c ∈ [Instr.doorbell h, .sprueSlot h, .telemetry h], exec c s = .next (s.after h l))

/-- Conversion (04 R91 to R102). -/
def Obligations.ConversionsHoldAndComplete : Prop :=
  ∀ (s : State) (h : Hdr) (l : Lane), l = s.arrive h → l.Sound h.lane → l.awake = true →
    (∀ k, k < 16 → (∃ r ∈ l.cv.reqs, r.k = k ∧ r.arrived = false ∧ r.tn ≤ l.now) →
      exec (.nominalInstant h k) s = .next (s.after h { l with cv := { l.cv with
        suspended := true, reqs := l.cv.reqs.map fun r => if r.k = k then { r with arrived := true } else r } })) ∧
    (∀ k, k < 16 → (∀ r ∈ l.cv.reqs, ¬(r.k = k ∧ r.arrived = false ∧ r.tn ≤ l.now)) →
      exec (.nominalInstant h k) s = .next (s.after h l)) ∧
    (∀ q, l.cv.run = none → l.allIdle = true → nextReq l.cv.reqs = some q → ∃ m, exec (.controlSeqStart h) s = .next (s.after h m) ∧
      m = { l with cv := m.cv, tl := { l.tl with capS := m.tl.capS }, status := m.status, hr := m.hr } ∧ m.cv.reqs = l.cv.reqs.erase q ∧
      m.cv.run = (if l.seqLen q.k ≤ 1 then none else some ⟨q.k, l.now, max 1 l.gridS, l.now - q.tn, 1, .ofFn fun c => (l.conv c.val).held⟩) ∧
      m.cv.jitMax = max l.cv.jitMax (min 0xFFFF (l.now - q.tn)) ∧
      (0 < l.now - q.tn → m.flagged Reg.CV_STATUS Bit.CV_JITTER = true) ∧
      (40 < l.now - q.tn → m.flagged Reg.CV_STATUS Bit.CV_OVERRUN = true) ∧
      ∀ c sl, c < 4 → (l.conv c).failed = false → chReserved c (l.chOf c (l.fld (Reg.CV_SEQ q.k) 22 5)) = false →
        vget (l.conv c).pos ((l.conv c).occ.getD 0 0) none = some sl → ∃ f ∈ m.cv.flights, f.m = c ∧ f.slice = sl ∧
          f.entry = some (l.fld (Reg.CV_SEQ q.k) 22 5) ∧ f.cyc = l.now ∧ f.seq = some q.k ∧ f.jit = l.now - q.tn) ∧
    (∀ r, l.cv.run = some r → r.t0 + grid r.j r.s ≤ l.now → ∃ m, exec (.controlHold h) s = .next (s.after h m) ∧
      m = { l with cv := m.cv, tl := { l.tl with capS := m.tl.capS } } ∧ m.cv.reqs = l.cv.reqs ∧
      m.cv.run = (if l.seqLen r.k ≤ r.j + 1 then none else some { r with j := r.j + 1 })) ∧
    (∀ r, l.cv.run = some r → l.now < r.t0 + grid r.j r.s → exec (.controlHold h) s = .next (s.after h l)) ∧
    (∀ d i, l.monReady = true → l.monNext = some (d, i) → ∃ m, exec (.monitorHold h false) s = .next (s.after h m) ∧
      m = { l with cv := m.cv } ∧ m.cv.monAt = some l.now ∧ m.cv.reqs = l.cv.reqs ∧ m.cv.run = l.cv.run ∧
      (i + 1 < l.seqLen d → m.cv.monDesc = d ∧ m.cv.monEntry = i + 1 ∧ m.cv.rounds = l.cv.rounds) ∧
      (l.seqLen d ≤ i + 1 → (∀ k ∈ l.monitors, k ≤ d) → m.cv.monEntry = 0 ∧ m.cv.rounds = (l.cv.rounds + 1) % 65536)) ∧
    (l.monReady = true → ∃ m, exec (.monitorHold h true) s = .next (s.after h m) ∧ m = { l with cv := m.cv } ∧
      m.cv.monAt = some l.now ∧ m.cv.monDesc = l.cv.monDesc ∧ m.cv.monEntry = l.cv.monEntry ∧ m.cv.rounds = l.cv.rounds ∧
      m.cv.res = l.cv.res) ∧
    (∀ check, l.monReady = false → exec (.monitorHold h check) s = .next (s.after h l)) ∧
    (l.cv.suspended = true → l.cv.run = none → (∀ r ∈ l.cv.reqs, r.arrived = false) → l.cv.resumeAt ≤ l.now →
      exec (.monitorResume h) s = .next (s.after h { l with cv := { l.cv with suspended := false, monAt := none } })) ∧
    (∀ c sl raw f, c < 4 → sl < 5 → raw < 16384 → fwf (fun _ => (0 : Word)) l.cv.res = true →
      (l.cv.flights.find? fun f => f.m == c && f.slice == sl) = some f → f.cyc + 44 ≤ l.now →
      let v := corrected raw (vget (l.conv c).slice sl noSlice).coef f.zero
      (∀ e, f.entry = some e → ∃ m, exec (.conversionComplete h c sl raw) s = .next (s.after h m) ∧
        m.cv.flights = l.cv.flights.erase f ∧ m.ig = l.ig ∧ m.die = l.die ∧
        fget (fun _ => (0 : Word)) m.cv.res (32 * c + e) = pack [(twos 18 v, 0), (min 255 f.jit, 18), (sl, 26),
          (b2n (l.conv c).degraded, 29), (b2n (l.conv c).trained, 30), (b2n (!(l.conv c).failed), 31)] ∧
        ∀ j, j ≠ 32 * c + e → fget (fun _ => (0 : Word)) m.cv.res j = fget (fun _ => (0 : Word)) l.cv.res j) ∧
      (f.entry = none → (v - 32768).natAbs ≤ 256 → exec (.conversionComplete h c sl raw) s = .next (s.after h { l with
        cv := { l.cv with flights := l.cv.flights.erase f } })) ∧
      (f.entry = none → 256 < (v - 32768).natAbs → ∃ m, exec (.conversionComplete h c sl raw) s = .next (s.after h m) ∧
        (vget (m.conv c).slice sl noSlice).usable = false ∧ m.flagged Reg.CV_STATUS Bit.CV_INSVC_FAIL = true))

/-- Spare turns, slice loss and the conversion block's writes (04 R93, R104 to R110). -/
def Obligations.SlicesTurnAndSwap : Prop :=
  ∀ (s : State) (h : Hdr) (l : Lane), l = s.arrive h → l.Sound h.lane →
    (∀ c sl (t : TurnMeas), c < 4 → sl < 5 → l.inRun = true → (l.conv c).spare = some sl → (l.conv c).swapOwed = false →
      (l.conv c).turnAt + us (l.conv c).eff ≤ l.now → ((t.vcore : Int) - l.vtarget).natAbs ≤ 25 →
      let x := vget (l.conv c).slice sl noSlice
      let rej := l.rbit Reg.CV_CTRL 1 = true ∧ ¬(t.estimate.accepted = true ∧ t.lo < t.hi)
      let bad := t.shakeBad (if l.rbit Reg.CV_CTRL 1 = true ∧ ¬rej then x.train t.estimate else x.next.getD x.coef)
      (¬rej → bad = false → ∃ m, exec (.turnEnd h c t) s = .next (s.after h m) ∧ m = { l with cv := m.cv, ts := m.ts } ∧ (m.conv c).swapOwed = true ∧
          (m.conv c).pos = (l.conv c).pos ∧ (m.conv c).spare = some sl ∧
          (l.rbit Reg.CV_CTRL 1 = true → (vget (m.conv c).slice sl noSlice).next =
              some (x.train t.estimate) ∧
            (vget (m.conv c).slice sl noSlice).turns = min 0xFF (x.turns + 1)) ∧
          (l.rbit Reg.CV_CTRL 1 = false → (m.conv c).slice = (l.conv c).slice) ∧ ∀ j, j ≠ c → m.conv j = l.conv j) ∧
      (rej ∨ bad = true → x.usable = true →
        ∃ m, exec (.turnEnd h c t) s = .next (s.after h m) ∧ (vget (m.conv c).slice sl noSlice).usable = false ∧
          (m.conv c).swapOwed = false ∧ m.flagged Reg.CV_STATUS Bit.CV_SLICE_LOST = true ∧
          (rej → m.flagged Reg.CV_STATUS Bit.CV_TRAIN_REJ = true) ∧ ∀ j, j ≠ c → m.conv j = l.conv j)) ∧
    (∀ c sl o, c < 4 → sl < 5 → l.awake = true → (l.conv c).spare = some sl → (l.conv c).turnPos < 4 →
      vget (l.conv c).pos (l.conv c).turnPos none = some o → (l.conv c).swapOwed = true → l.cv.run = none →
      (∀ r ∈ l.cv.reqs, r.arrived = false) → l.posIdle c (l.conv c).turnPos = true →
      ∃ m, exec (.sliceSwap h c) s = .next (s.after h m) ∧ m = { l with cv := m.cv } ∧
        vget (m.conv c).pos (l.conv c).turnPos none = some sl ∧ (m.conv c).spare = some o ∧
        (m.conv c).turnPos = ((l.conv c).turnPos + 1) % 4 ∧ (m.conv c).swapOwed = false ∧ (m.conv c).turnAt = l.now ∧
        (m.conv c).eff = l.nextEff ∧ m.cv.eff = l.nextEff ∧ (vget (m.conv c).slice sl noSlice).coef =
          (vget (l.conv c).slice sl noSlice).next.getD (vget (l.conv c).slice sl noSlice).coef ∧ m.cv.flights = l.cv.flights ∧ ∀ j, j ≠ c → m.conv j = l.conv j) ∧
    (∀ k q v, k < 16 → l.reaches q = true → l.inRun = false → ∃ m, exec (.cvSeqWrite h k ⟨q, v, 0xF⟩) s = .next (s.after h m) ∧
      m = { l with sys := m.sys, regs := m.regs, status := m.status, hr := m.hr } ∧ m.keyOf q = false ∧
      m.fld (Reg.CV_SEQ k) 0 16 = field v 0 16 ∧ m.fld (Reg.CV_SEQ k) 16 6 = field v 16 6 ∧
      m.fld (Reg.CV_SEQ k) 22 5 = field v 22 5 ∧ m.fld (Reg.CV_SEQ k) 27 3 = field v 27 3 ∧
      m.fld (Reg.CV_SEQ k) 30 1 = field v 30 1 ∧ (m.rbit (Reg.CV_SEQ k) 31 = true → bit v 31 = true) ∧
      ((∀ i j, i < 16 → j < 16 → l.seqMeets i j = false) → ∀ i j, i < 16 → j < 16 → m.seqMeets i j = false) ∧
      ((∀ i j, i < 16 → j < 16 → l.seqMeets i j = false) → bit v 31 = true → m.rbit (Reg.CV_SEQ k) 31 = false →
        m.flagged Reg.CV_STATUS Bit.CV_SEQ_OVERLAP = true)) ∧
    (∀ q v, l.reaches q = true → ∃ m, exec (.cvMonenWrite h ⟨q, v, 0xF⟩) s = .next (s.after h m) ∧
      m = { l with sys := m.sys, regs := m.regs, status := m.status } ∧ m.keyOf q = false ∧ m.rbit Reg.CV_CTRL 0 = bit v 0) ∧
    (∀ q v, l.reaches q = true → ∃ m, exec (.cvRotWrite h ⟨q, v, 0xF⟩) s = .next (s.after h m) ∧
      m = { l with sys := m.sys, regs := m.regs, cv := { l.cv with eff := m.cv.eff, cv := m.cv.cv } } ∧ m.keyOf q = false ∧
      m.fld Reg.CV_ROT 0 16 = field v 0 16 ∧ m.cv.eff = max 100 (max 100 (field v 0 16) / 2 ^ l.shift) ∧
      ∀ c, c < 4 → m.conv c = { l.conv c with eff := m.cv.eff })

/-- Passes and periods (05 R114 to R130, 06 R133 to R153). -/
def Obligations.PassesAndDutiesFormPeriods : Prop :=
  ∀ (s : State) (h : Hdr) (l : Lane) (n : Nat), l = s.arrive h → l.Sound h.lane → l.awake = true → n < 6 →
    ((l.axis n).drive = true → (l.loopOf n).waiting = true → l.resultFresh n = true →
      ∃ m, exec (.passStart h n) s = .next (s.after h m) ∧
        m = { l with le := m.le, cm := m.cm, ln := m.ln, status := m.status, env := m.env, hr := m.hr } ∧
        (m.loopOf n).waiting = false ∧ (m.loopOf n).passAt = some l.now ∧ (m.loopOf n).bank = l.fld (Reg.LE_BANK n) 0 1 ∧
        (m.loopOf n).zero = false ∧ (m.loopOf n).flight.isSome = true ∧
        (l.bankEmpty n (l.fld (Reg.LE_BANK n) 0 1) = true → ∀ p, (m.loopOf n).flight = some p → p.st.duty = 0 ∧ p.st.satDir = 0) ∧
        (l.fld (Reg.LE_BANK n) 0 1 ≠ (l.loopOf n).bank → m.flagged (Reg.LE_STATUS n) Bit.LE_BANK_SWITCHED = true) ∧
        ∀ j, j ≠ n → m.loopOf j = l.loopOf j) ∧
    ((l.axis n).drive = false ∨ (l.loopOf n).waiting = false ∨ l.resultFresh n = false →
      exec (.passStart h n) s = .next (s.after h l)) ∧
    (∀ p, (l.loopOf n).flight = some p → ∃ m, exec (.dutyArrival h n) s = .next (s.after h m) ∧
      m = { l with le := m.le, cm := m.cm, sf := m.sf, port := m.port, ln := m.ln, status := m.status, hr := m.hr } ∧
      (m.loopOf n).flight = none ∧ (m.loopOf n).last = some p ∧ (m.loopOf n).passes = ((l.loopOf n).passes + 1) % 0x10000 ∧
      (m.axis n).duty = p.st.duty ∧ (m.axis n).fresh = true ∧ (m.loopOf n).usedTgt = p.tgt ∧
      (∀ j, j ≠ n → m.loopOf j = l.loopOf j ∧ m.axis j = l.axis j) ∧
      ((l.axis n).drive = false → m.port = l.port ∧ (m.axis n).periods = (l.axis n).periods) ∧
      ((l.axis n).drive = true → (l.axis n).stopAt = none → (l.axis n).sectLost = false →
        (∀ t p0, (l.loopOf n).passAt = some p0 → l.nextStart n (p0 + 1) = some t →
          (t < l.now + 700 → m.flagged (Reg.CM_STATUS n) Bit.CM_DUTY_DEFERRED = true ∧
            (m.axis n).deferred = min 0xFFFF ((l.axis n).deferred + 1)) ∧
          (l.now + 700 ≤ t → (m.axis n).deferred = (l.axis n).deferred)) ∧
        (bit l.port.levels 17 = false → (l.safetyOf n).blockPos = false → (l.safetyOf n).blockNeg = false →
        ∀ t, l.nextStart n (l.now + 700) = some t → ((l.axis n).rsAt (16 * t)).isSome = true → 5000 ≤ l.per n →
          (∀ q ∈ (l.axis n).periods, (q.start = t ∧ q.formed = false) ∨ q.start + l.per n ≤ t ∨ t + l.per n ≤ q.start) →
          ∃ q ∈ (m.axis n).periods, q.start = t ∧ q.formed = true ∧ q.duty = p.st.duty))) ∧
    ((l.loopOf n).flight = none → exec (.dutyArrival h n) s = .next (s.after h l)) ∧
    (∀ t p, l.enabled n = true → l.nextStart n (l.now + 1) = some t → t ≤ l.now + 700 → ((l.addPeriod n t).axis n).periods.find?
        (fun p => decide (p.start = t)) = some p → p.cut = false → (l.axis n).drive = false → (l.axis n).stopAt = none →
      ∃ m, exec (.cutOff h n) s = .next (s.after h m) ∧ (m.axis n).starts = [] ∧ m.ig = l.ig ∧ m.die = l.die ∧
        ((l.axis n).starts = [] → m = { l with cm := m.cm } ∧ (m.axis n).drive = false) ∧
        ((l.axis n).starts ≠ [] → l.cfgBad n = true → (m.axis n).drive = false ∧ (m.axis n).reason = 1 ∧
          m.flagged (Reg.CM_STATUS n) Bit.CM_CFG_BAD = true ∧ m.flagged (Reg.CM_STATUS n) Bit.CM_START_REFUSED = true) ∧
        ((l.axis n).starts ≠ [] → l.cfgBad n = false → l.sect n = 1 → (l.axis n).locked = true → ((l.axis n).rsAt (16 * t)).isSome = true →
          (l.axis n).bspd.natAbs ≤ 256 * l.fld (Reg.CM_CATCH n) 0 24 → (m.axis n).drive = true ∧ (m.axis n).reason = 0 ∧
          (m.axis n).ref = (l.axis n).bspd)) ∧
    (∀ t, (l.axis n).stopAt = some t → t ≤ l.now → ∃ m, exec (.stopPeriodStart h n) s = .next (s.after h m) ∧
      m = { l with le := m.le, cm := m.cm } ∧ (m.axis n).drive = false ∧ (m.axis n).stopAt = none ∧ (m.axis n).ref = 0 ∧
      (m.axis n).limited = false ∧ (m.loopOf n).st.i = 0 ∧ (m.loopOf n).st.io = 0 ∧ (m.loopOf n).st.satDir = 0 ∧
      (m.loopOf n).flight = none ∧ (m.loopOf n).waiting = false ∧
      ∀ j, j ≠ n → m.loopOf j = l.loopOf j ∧ m.axis j = l.axis j)

/-- Back-EMF (05 R123, R124). The sector in which tracking starts while none is known is a free value (log 14), not spoken of here;
that the divisions drop their remainder and that d is +1 at BSPD 0 are the model's choices (log 33). -/
def Obligations.BackEmfIsTracked : Prop :=
  ∀ (s : State) (h : Hdr) (l : Lane) (n : Nat), l = s.arrive h → l.Sound h.lane → l.awake = true → n < 6 →
    (l.sect n ≠ 1 → l.sect n ≠ 2 → exec (.bemfEvaluate h n) s = .next (s.after h l) ∧ exec (.zcMiss h n) s = .next (s.after h l)) ∧
    (∀ rs zent ts, l.enabled n = true → (l.sect n = 1 ∨ l.sect n = 2) → (l.axis n).rs.isSome = true →
      zent = l.fld (Reg.CM_BEMF n) 11 5 → ts = l.resAt 1 zent - 44 → (l.axis n).rsAt (16 * ts) = some rs →
      (l.resAt 1 zent = 0 ∨ (∃ b, (l.axis n).lastBound (16 * ts) = some b ∧ 16 * ts < b + 16 * l.fld (Reg.CM_BEMF n) 0 11) →
        exec (.bemfEvaluate h n) s = .next (s.after h l)) ∧
      (l.resAt 1 zent ≠ 0 → (∀ b, (l.axis n).lastBound (16 * ts) = some b → b + 16 * l.fld (Reg.CM_BEMF n) 0 11 ≤ 16 * ts) →
        let x := 2 * l.resVal (patF rs + 1) zent - l.resVal ((patHL rs).1 + 1) zent - l.resVal ((patHL rs).2 + 1) zent
        ((l.axis n).bemf.prev = none → ∃ m, exec (.bemfEvaluate h n) s = .next (s.after h m) ∧ m = { l with cm := m.cm } ∧
          m.axis n = { l.axis n with bemf := { (l.axis n).bemf with prev := some (ts, x) } } ∧ ∀ j, j ≠ n → m.axis j = l.axis j) ∧
        (∀ tp xp tz, (l.axis n).bemf.prev = some (tp, xp) → rs % 2 = 1 → 0 ≤ (l.axis n).bspd → xp < 0 → 0 ≤ x →
          tz = 16 * tp + 16 * (ts - tp) * xp.natAbs / (xp.natAbs + x.natAbs) →
          ((l.axis n).bemf.tzc = none → ∃ m, exec (.bemfEvaluate h n) s = .next (s.after h m) ∧ m = { l with cm := m.cm } ∧
            (m.axis n).bemf.tzc = some tz ∧ (m.axis n).rs = (l.axis n).rs ∧ (m.axis n).locked = (l.axis n).locked) ∧
          (∀ z, (l.axis n).bemf.tzc = some z → z < tz → ∃ m, exec (.bemfEvaluate h n) s = .next (s.after h m) ∧
            (m.axis n).bemf.tzc = some tz ∧ (m.axis n).bemf.tzz = tz - z ∧ (m.axis n).bemf.miss = 0 ∧
            (m.axis n).bspd = rdiv (250000000 * 256 * 16) (tz - z) ∧ m.ig = l.ig ∧ m.die = l.die)))) ∧
    ((l.sect n = 1 ∨ l.sect n = 2) → (l.axis n).bemf.tzz ≠ 0 →
      ((l.axis n).bemf.lastB + (l.axis n).bemf.tzz ≤ 16 * l.now → ∃ m, exec (.zcMiss h n) s = .next (s.after h m) ∧
        m.flagged (Reg.CM_STATUS n) Bit.CM_ZC_MISS = true ∧ (m.axis n).bemf.miss = (l.axis n).bemf.miss + 1 ∧
        (m.axis n).bemf.good = 0 ∧
        ((l.sect n = 2 ∧ (l.axis n).fallback = false) ∨ (l.axis n).rs = none →
          (m.axis n).bemf.lastB = (l.axis n).bemf.lastB + (l.axis n).bemf.tzz) ∧
        (∀ rs, (l.axis n).rs = some rs → (l.sect n = 1 ∨ (l.axis n).fallback = true) →
          (l.axis n).rsAt (16 * (l.now + 560)) ≠ some ((rs + (if (l.axis n).bspd < 0 then 5 else 1)) % 6) →
          (m.axis n).bemf.lastB = 16 * (l.now + 560) ∧ m.flagged (Reg.CM_STATUS n) Bit.CM_SECT_LATE = true) ∧
        (max 1 (l.fld (Reg.CM_BEMF n) 20 4) ≤ (l.axis n).bemf.miss + 1 → (m.axis n).locked = false) ∧ m.ig = l.ig ∧ m.die = l.die) ∧
      (16 * l.now < (l.axis n).bemf.lastB + (l.axis n).bemf.tzz → exec (.zcMiss h n) s = .next (s.after h l)))

/-- Commands of the axes and the coefficient banks (05 R129, 06 R147, R148, R153). -/
def Obligations.StartsStopsAndBanks : Prop :=
  ∀ (s : State) (h : Hdr) (l : Lane) (q : Requester) (n : Nat), l = s.arrive h → l.Sound h.lane → l.reaches q = true → n < 6 →
    (l.keyOf q = true →
      (l.enabled n = true → (l.safetyOf n).safe = false → l.isActive = true → (l.axis n).drive = false →
        ∃ m, exec (.cmStart h q n) s = .next (s.after h m) ∧ m = { l with sys := m.sys, regs := m.regs, cm := m.cm } ∧
          m.keyOf q = false ∧ m.axis n = { l.axis n with starts := (l.axis n).starts ++ [none] } ∧ ∀ j, j ≠ n → m.axis j = l.axis j) ∧
      (l.enabled n = true → (l.safetyOf n).safe = true → l.isActive = true → ∃ m, exec (.cmStart h q n) s = .next (s.after h m) ∧
        m = { l with sys := m.sys, regs := m.regs, status := m.status, hr := m.hr } ∧ m.keyOf q = false ∧
        m.flagged (Reg.SF_STATUSN n) Bit.SFN_START_BLOCKED = true) ∧
      (l.isActive = false → ∃ m, exec (.cmStart h q n) s = .next (s.after h m) ∧
        m = { l with sys := m.sys, regs := m.regs } ∧ m.keyOf q = false) ∧
      (∃ m, exec (.leZero h q n) s = .next (s.after h m) ∧ m = { l with sys := m.sys, regs := m.regs, le := m.le } ∧
        m.keyOf q = false ∧ m.loopOf n = { l.loopOf n with zero := true } ∧ ∀ j, j ≠ n → m.loopOf j = l.loopOf j) ∧
      (∀ v, ∃ m, exec (.leBankWrite h n ⟨q, v, 0xF⟩) s = .next (s.after h m) ∧ m = { l with sys := m.sys, regs := m.regs } ∧
        m.keyOf q = false ∧ m.fld (Reg.LE_BANK n) 0 1 = field v 0 1) ∧
      ((l.axis n).drive = true → (l.axis n).stopAt = none → l.isActive = true → ∀ t, l.nextStart n (l.now + 700) = some t →
        ∃ m, exec (.cmStop h q n) s = .next (s.after h m) ∧ (m.axis n).stopAt = some t ∧ (m.axis n).drive = true ∧ m.keyOf q = false ∧
          m.ig = l.ig ∧ m.die = l.die) ∧
      ((l.axis n).drive = false → ∃ m, exec (.cmStop h q n) s = .next (s.after h m) ∧ m.keyOf q = false ∧ m.port = l.port ∧
        (m.axis n).drive = false)) ∧
    (∀ v k b w, k = l.fld Reg.LE_WSEL 24 3 → b = l.fld Reg.LE_WSEL 16 1 → w = l.fld Reg.LE_WSEL 0 8 → k < 6 → w < 0x56 →
      fwf (fun _ => (0 : Word)) l.le.banks = true →
      ((l.axis k).drive = false ∨ (b ≠ l.fld (Reg.LE_BANK k) 0 1 ∧ b ≠ (l.loopOf k).bank) →
        ∃ m, exec (.leWindowWrite h ⟨q, v, 0xF⟩) s = .next (s.after h m) ∧ m = { l with sys := m.sys, le := m.le } ∧ m.keyOf q = false ∧
          m.coefWord k b w = bankKeep w v ∧ m.bankEmpty k b = false ∧ m.le.axis = l.le.axis ∧
          ∀ k' b' w', (k', b', w') ≠ (k, b, w) → k' < 6 → b' < 2 → w' < 256 → m.coefWord k' b' w' = l.coefWord k' b' w') ∧
      ((l.axis k).drive = true → (b = l.fld (Reg.LE_BANK k) 0 1 ∨ b = (l.loopOf k).bank) →
        ∃ m, exec (.leWindowWrite h ⟨q, v, 0xF⟩) s = .next (s.after h m) ∧
          m = { l with sys := m.sys, status := m.status, hr := m.hr } ∧ m.keyOf q = false ∧
          m.flagged Reg.LE_GSTATUS Bit.LEG_WIN_REFUSED = true))

/-- The quadrature counter and its index (03 R66 to R70). -/
def Obligations.CountsFollowTheHysteresis : Prop :=
  ∀ (s : State) (h : Hdr) (l : Lane) (n : Nat) (c : Counter), l = s.arrive h → l.Sound h.lane → n < 6 → c = (l.unit n).cnt →
    (l.alive = true → l.pw.padLatch = false →
      (l.fbMode n = 1 → ∀ a0 b0 a1 b1 rev, (a0 == a1) ≠ (b0 == b1) → rev = (a1 == b0) →
        ∃ m, exec (.quadCount h n a0 b0 a1 b1) s = .next (s.after h m) ∧
          m = { l with fb := m.fb, tl := m.tl, status := m.status, hr := m.hr } ∧ (∀ j, j ≠ n → m.unit j = l.unit j) ∧
          (m.unit n).cnt.raw = (if rev then c.raw - 1 else c.raw + 1) ∧ (m.unit n).cnt.deTotal = c.deTotal ∧
          (m.unit n).cnt.idxPos = c.idxPos ∧ (m.unit n).cnt.arm = c.arm ∧ (m.unit n).cntFault = (l.unit n).cntFault ∧
          ((l.unit n).cntFault = true → m = { l with fb := m.fb } ∧
            (m.unit n).cnt = { c with raw := (m.unit n).cnt.raw, idxHeld := (m.unit n).cnt.idxHeld } ∧
            (m.unit n).est = (l.unit n).est) ∧
          ((l.unit n).cntFault = false → c.pending = false → rev = c.rev →
            (m.unit n).cnt.pos = (if rev then c.pos - 1 else c.pos + 1) ∧ (m.unit n).cnt.pending = false ∧ (m.unit n).cnt.rev = rev) ∧
          ((l.unit n).cntFault = false → c.pending = false → rev ≠ c.rev →
            m = { l with fb := m.fb } ∧ (m.unit n).cnt.pos = c.pos ∧ (m.unit n).cnt.pending = true ∧ (m.unit n).cnt.rev = c.rev ∧
            (m.unit n).est = (l.unit n).est) ∧
          ((l.unit n).cntFault = false → c.pending = true → rev = c.rev →
            m = { l with fb := m.fb } ∧ (m.unit n).cnt.pos = c.pos ∧ (m.unit n).cnt.pending = false ∧ (m.unit n).cnt.rev = c.rev ∧
            (m.unit n).est = (l.unit n).est) ∧
          ((l.unit n).cntFault = false → c.pending = true → rev ≠ c.rev →
            (m.unit n).cnt.pos = (if rev then c.pos - 2 else c.pos + 2) ∧ (m.unit n).cnt.pending = false ∧ (m.unit n).cnt.rev = rev)) ∧
      (∀ a0 b0 a1 b1, l.fbMode n ≠ 1 ∨ (a0 == a1) = (b0 == b1) → exec (.quadCount h n a0 b0 a1 b1) s = .next (s.after h l)) ∧
      (l.fbMode n = 1 → ∃ m, exec (.doubleEdge h n) s = .next (s.after h m) ∧
        m.flagged (Reg.FB_STATUS n) Bit.FB_DOUBLE_EDGE = true ∧ (∀ j, j ≠ n → m.unit j = l.unit j) ∧
        (m.unit n).cnt = { c with deTotal := min 0xFFFF (c.deTotal + 1), winDe := (m.unit n).cnt.winDe,
                                  idxHeld := c.idxHeld && !l.rbit (Reg.FB_IDX n) 3 } ∧
        (m.unit n).cnt.winDe = (if l.qcpr n = 0 then 0 else c.winDe + 1) ∧ (m.unit n).est.speed = (l.unit n).est.speed ∧
        (l.ssrc n = 0 → (l.unit n).est.state ≠ .standstill → (m.unit n).est.state = .deHold) ∧
        ((l.unit n).est.state = .standstill ∨ l.ssrc n ≠ 0 → (m.unit n).est = (l.unit n).est) ∧
        ((m.unit n).cnt.winDe ≤ l.fld (Reg.FB_LIM n) 0 8 → m = { l with fb := m.fb, status := m.status, hr := m.hr } ∧
          (m.unit n).cntFault = (l.unit n).cntFault) ∧
        (l.fld (Reg.FB_LIM n) 0 8 < (m.unit n).cnt.winDe → (m.unit n).cntFault = true ∧
          ((l.unit n).cntFault = false → m.flagged (Reg.FB_STATUS n) Bit.FB_SENSOR_FAULT = true))) ∧
      (l.fbMode n = 1 → ∀ qz a b,
        (l.indexGate n qz a b = false ∨ c.idxHeld = true → ∃ m, exec (.indexEvent h n qz a b) s = .next (s.after h m) ∧
          m = { l with fb := m.fb } ∧ (∀ j, j ≠ n → m.unit j = l.unit j) ∧
          m.unit n = { l.unit n with cnt := { c with idxHeld := l.indexGate n qz a b } }) ∧
        (∀ arm v, l.indexGate n qz a b = true → c.idxHeld = false → arm = asWas l.now c.armWas c.arm →
          v = asWas l.now c.idxValWas (l.reg (Reg.FB_IDXVAL n)) →
          ∃ m, exec (.indexEvent h n qz a b) s = .next (s.after h m) ∧
          m = { l with fb := m.fb, tl := m.tl, status := m.status, hr := m.hr } ∧ (∀ j, j ≠ n → m.unit j = l.unit j) ∧
          m.flagged (Reg.FB_STATUS n) Bit.FB_INDEX_SEEN = true ∧ (m.unit n).cnt.idxPos = c.pos + c.pend ∧
          (m.unit n).cnt.idxHeld = true ∧
          (m.unit n).cnt.raw = c.raw ∧ (m.unit n).cnt.rev = c.rev ∧ (m.unit n).cnt.pending = c.pending ∧
          ((l.unit n).cntFault = true ∨ l.fld (Reg.FB_IDX n) 8 2 = 0 ∨ (l.fld (Reg.FB_IDX n) 8 2 = 2 ∧ arm ≠ .armed) →
            (m.unit n).cnt.pos = c.pos ∧ (m.unit n).cnt.arm = c.arm) ∧
          ((l.unit n).cntFault = false → l.fld (Reg.FB_IDX n) 8 2 = 1 →
            (m.unit n).cnt.pos = v - c.pend ∧ (m.unit n).cnt.arm = c.arm) ∧
          ((l.unit n).cntFault = false → l.fld (Reg.FB_IDX n) 8 2 = 2 → arm = .armed →
            (m.unit n).cnt.pos = v - c.pend ∧ (m.unit n).cnt.arm = (if c.arm = .armed then .fired else c.arm)))) ∧
      (l.fbMode n ≠ 1 → exec (.doubleEdge h n) s = .next (s.after h l) ∧
        ∀ qz a b, exec (.indexEvent h n qz a b) s = .next (s.after h l))) ∧
    (∀ q, l.reaches q = true → l.keyOf q = true →
      (c.arm = .disarmed → ∃ m, exec (.fbArm h q n) s = .next (s.after h m) ∧ m = { l with sys := m.sys, regs := m.regs, fb := m.fb } ∧
        m.keyOf q = false ∧ m.unit n = { l.unit n with cnt := { c with arm := .armed, armWas := noteWas l.now c.armWas c.arm } } ∧ ∀ j, j ≠ n → m.unit j = l.unit j) ∧
      (c.arm ≠ .disarmed → ∃ m, exec (.fbArm h q n) s = .next (s.after h m) ∧
        m = { l with sys := m.sys, regs := m.regs, status := m.status, hr := m.hr } ∧ m.keyOf q = false ∧
        m.flagged (Reg.FB_STATUS n) Bit.FB_ARM_REFUSED = true) ∧
      (∃ m, exec (.fbDisarm h q n) s = .next (s.after h m) ∧ m = { l with sys := m.sys, regs := m.regs, fb := m.fb } ∧
        m.keyOf q = false ∧ m.unit n = { l.unit n with cnt := { c with arm := .disarmed, armWas := noteWas l.now c.armWas c.arm } } ∧ ∀ j, j ≠ n → m.unit j = l.unit j) ∧
      ∀ u, u = 6 ∨ u = 7 → ∀ x ∈ [Instr.fbArm h q u, .fbDisarm h q u],
        ∃ m, exec x s = .next (s.after h m) ∧ m = { l with sys := m.sys } ∧ m.keyOf q = false)

/-- Absolute offset and fault clears (03 R71, R85). -/
def Obligations.OffsetsAndClears : Prop :=
  ∀ (s : State) (h : Hdr) (l : Lane) (q : Requester) (n : Nat), l = s.arrive h → l.Sound h.lane → l.reaches q = true →
    (∀ v, n < 8 → ∃ m, exec (.aoffWrite h n ⟨q, v, 0xF⟩) s = .next (s.after h m) ∧ m = { l with sys := m.sys, regs := m.regs } ∧
      m.keyOf q = false ∧ m.reg (Reg.FB_AOFF n) = v ∧ (∀ off, off ≠ Reg.FB_AOFF n → m.reg off = l.reg off) ∧
      m.apos n = l.apos n + (v - l.reg (Reg.FB_AOFF n))) ∧
    (l.keyOf q = true → n < 6 →
      (∃ m, exec (.fbFclrCounter h q n) s = .next (s.after h m) ∧ m.keyOf q = false ∧ (∀ j, j ≠ n → m.unit j = l.unit j) ∧
        (m.unit n).cntFault = false ∧ (m.unit n).cnt.pos = 0 ∧ (m.unit n).cnt.rev = false ∧ (m.unit n).cnt.pending = false ∧
        (m.unit n).cnt.raw = (l.unit n).cnt.raw ∧ (m.unit n).cnt.arm = (l.unit n).cnt.arm ∧ m.apos n = l.reg (Reg.FB_AOFF n) ∧
        (m.unit n).hall = (l.unit n).hall ∧ (m.unit n).sent = (l.unit n).sent ∧ (m.safetyOf n).pref = none ∧
        (l.ssrc n = 0 → (m.unit n).est.state = .standstill ∧ (m.unit n).est.speed = 0) ∧
        m.ig = l.ig ∧ m.die = l.die ∧ m.pw = l.pw) ∧
      (∃ m, exec (.fbFclrHall h q n) s = .next (s.after h m) ∧ m.keyOf q = false ∧ (∀ j, j ≠ n → m.unit j = l.unit j) ∧
        (m.unit n).hallFault = false ∧ (m.unit n).hall.idx = 7 ∧ (m.unit n).hall.hasDir = false ∧ (m.unit n).cnt = (l.unit n).cnt ∧
        (m.unit n).sent = (l.unit n).sent ∧ (l.ssrc n = 1 → (m.unit n).est.state = .standstill ∧ (m.unit n).est.speed = 0) ∧
        m.ig = l.ig ∧ m.die = l.die ∧ m.pw = l.pw) ∧
      (∃ m, exec (.fbFclrSent h q n) s = .next (s.after h m) ∧ m.keyOf q = false ∧ (∀ j, j ≠ n → m.unit j = l.unit j) ∧
        (m.unit n).sentFault = false ∧ (m.unit n).sent.valid = false ∧ (m.unit n).cnt = (l.unit n).cnt ∧
        (m.unit n).hall = (l.unit n).hall ∧ (l.ssrc n = 2 → (m.unit n).est.state = .standstill ∧ (m.unit n).est.speed = 0) ∧
        m.ig = l.ig ∧ m.die = l.die ∧ m.pw = l.pw))

/-- Toothed wheels, Hall and SENT (03 R72 to R79). -/
def Obligations.TeethHallAndSentAreRead : Prop :=
  ∀ (s : State) (h : Hdr) (l : Lane) (n : Nat), l = s.arrive h → l.Sound h.lane → l.alive = true → l.pw.padLatch = false →
    (∀ fl qb t0 th rev iv, n < 8 → fl = l.rbit (Reg.FB_TOOTH n) 14 → l.fbMode n = 2 → (l.unit n).cntFault = false → l.extraWheel n = false →
      (l.unit n).tooth.tLast = some t0 → 2 ≤ (l.unit n).tooth.ivs → (l.unit n).tooth.thresh = some th → rev = l.toothRev n qb →
      iv = l.now - 3 - t0 →
      (256 * iv < th → (l.unit n).tooth.sync = false ∨ (l.unit n).tooth.teeth + 1 ≤ l.nTooth n →
        ∃ m, exec (.tooth h n fl qb) s = .next (s.after h m) ∧ m = { l with fb := m.fb, tl := m.tl, status := m.status, hr := m.hr } ∧
          (∀ j, j ≠ n → m.unit j = l.unit j) ∧ (m.unit n).tooth.owed = some iv ∧ (m.unit n).tooth.tLast = some (l.now - 3) ∧
          (m.unit n).tooth.sync = (l.unit n).tooth.sync ∧ (m.unit n).tooth.teeth = min 256 ((l.unit n).tooth.teeth + 1) ∧
          (m.unit n).cnt.pos = (let cpr := max 1 (l.nTooth n + l.miss n)
            BitVec.ofNat 32 (if rev then ((l.unit n).cnt.pos.toNat % cpr + cpr - 1) % cpr
              else ((l.unit n).cnt.pos.toNat % cpr + 1) % cpr))) ∧
      (256 * iv < th → (l.unit n).tooth.sync = true → l.nTooth n ≤ (l.unit n).tooth.teeth → (l.unit n).tooth.misRun < 2 →
        ∃ m, exec (.tooth h n fl qb) s = .next (s.after h m) ∧ m = { l with fb := m.fb, tl := m.tl, status := m.status, hr := m.hr } ∧
          (m.unit n).tooth.teeth = 1 ∧ (m.unit n).tooth.misRun = (l.unit n).tooth.misRun + 1 ∧
          (m.unit n).tooth.mmTotal = min 0xFF ((l.unit n).tooth.mmTotal + 1) ∧
          m.flagged (Reg.FB_STATUS n) Bit.FB_COUNT_MISMATCH = true) ∧
      (th ≤ 256 * iv → (l.unit n).tooth.sync = false ∨ (l.unit n).tooth.teeth = l.nTooth n ∨ (l.unit n).tooth.misRun < 2 →
        ∃ m, exec (.tooth h n fl qb) s = .next (s.after h m) ∧ m = { l with fb := m.fb, tl := m.tl, status := m.status, hr := m.hr } ∧
          (∀ j, j ≠ n → m.unit j = l.unit j) ∧ (m.unit n).tooth.sync = true ∧ (m.unit n).tooth.teeth = 1 ∧
          (m.unit n).cnt.pos = BitVec.ofNat 32 (if rev then l.nTooth n - 1 else 0) ∧
          ((l.unit n).tooth.sync = false → (m.unit n).tooth.misRun = (l.unit n).tooth.misRun ∧
            (m.unit n).tooth.mmTotal = (l.unit n).tooth.mmTotal) ∧
          ((l.unit n).tooth.sync = true → (m.unit n).tooth.teethLast = (l.unit n).tooth.teeth) ∧
          ((l.unit n).tooth.sync = true → (l.unit n).tooth.teeth = l.nTooth n → (m.unit n).tooth.misRun = 0 ∧
            (m.unit n).tooth.mmTotal = (l.unit n).tooth.mmTotal) ∧
          ((l.unit n).tooth.sync = true → (l.unit n).tooth.teeth ≠ l.nTooth n →
            (m.unit n).tooth.misRun = (l.unit n).tooth.misRun + 1 ∧
            (m.unit n).tooth.mmTotal = min 0xFF ((l.unit n).tooth.mmTotal + 1) ∧
            m.flagged (Reg.FB_STATUS n) Bit.FB_COUNT_MISMATCH = true)) ∧
      (th ≤ 256 * iv → (l.unit n).tooth.sync = true → (l.unit n).tooth.teeth ≠ l.nTooth n → 2 ≤ (l.unit n).tooth.misRun →
        ∃ m, exec (.tooth h n fl qb) s = .next (s.after h m) ∧ (m.unit n).cntFault = true ∧ (m.unit n).cnt = (l.unit n).cnt ∧
          m.flagged (Reg.FB_STATUS n) Bit.FB_SENSOR_FAULT = true)) ∧
    (∀ fl qb, n < 8 → l.fbMode n ≠ 2 ∨ (l.unit n).cntFault = true ∨ fl ≠ l.rbit (Reg.FB_TOOTH n) 14 →
      exec (.tooth h n fl qb) s = .next (s.after h l)) ∧
    (n < 8 → (∀ iv, (l.unit n).tooth.owed = some iv → ∃ m, exec (.threshLoad h n) s = .next (s.after h m) ∧ m = { l with fb := m.fb } ∧
        m.unit n = { l.unit n with tooth := { (l.unit n).tooth with thresh := some (l.threshOf n iv), owed := none } } ∧
        ∀ j, j ≠ n → m.unit j = l.unit j) ∧
      ((l.unit n).tooth.owed = none → exec (.threshLoad h n) s = .next (s.after h l))) ∧
    (∀ hs, n < 6 → hs < 8 → (l.hallOn n = false ∨ (l.unit n).hallFault = true → exec (.hallChange h n hs) s = .next (s.after h l)) ∧
      (l.hallOn n = true → (l.unit n).hallFault = false →
        ∃ m, exec (.hallChange h n hs) s = .next (s.after h m) ∧ (∀ j, j ≠ n → m.unit j = l.unit j) ∧
          (m.unit n).cnt = (l.unit n).cnt ∧ (m.unit n).sent = (l.unit n).sent ∧
          (l.hallIndex n hs = none → (m.unit n).hall.idx = 7 ∧ m.flagged (Reg.FB_STATUS n) Bit.FB_HALL_INVALID = true ∧
            ((l.unit n).hall.events.length + 1 ≤ l.fld (Reg.FB_LIM n) 8 8 → m = { l with fb := m.fb, status := m.status, hr := m.hr } ∧
              (m.unit n).hallFault = false) ∧
            (l.fld (Reg.FB_LIM n) 8 8 < (l.unit n).hall.events.length + 1 → (m.unit n).hallFault = true)) ∧
          (∀ i, l.hallIndex n hs = some i → (l.unit n).hall.seen = 7 → (m.unit n).hall.idx = i ∧ (m.unit n).hall.seen = i ∧
            (m.unit n).hall.pending = false ∧ (m.unit n).est = (l.unit n).est) ∧
          (∀ i rev, l.hallIndex n hs = some i → (l.unit n).hall.seen < 6 →
            (i + 6 - (l.unit n).hall.seen) % 6 = (if rev = true then 5 else 1) → (m.unit n).hall.seen = i ∧
            ((l.unit n).hall.hasDir = false → (m.unit n).hall.idx = i ∧ (m.unit n).hall.rev = rev) ∧
            ((l.unit n).hall.hasDir = true → (l.unit n).hall.pending = false → rev = (l.unit n).hall.rev →
              (m.unit n).hall.idx = i ∧ (m.unit n).hall.pending = false) ∧
            ((l.unit n).hall.hasDir = true → (l.unit n).hall.pending = false → rev ≠ (l.unit n).hall.rev →
              (m.unit n).hall.idx = (l.unit n).hall.idx ∧ (m.unit n).hall.pending = true) ∧
            ((l.unit n).hall.hasDir = true → (l.unit n).hall.pending = true → rev = (l.unit n).hall.rev →
              (m.unit n).hall.idx = (l.unit n).hall.idx ∧ (m.unit n).hall.pending = false) ∧
            ((l.unit n).hall.hasDir = true → (l.unit n).hall.pending = true → rev ≠ (l.unit n).hall.rev →
              (m.unit n).hall.idx = i ∧ (m.unit n).hall.pending = false ∧ (m.unit n).hall.rev = rev)) ∧
          (∀ i, l.hallIndex n hs = some i → (l.unit n).hall.seen < 6 → (i + 6 - (l.unit n).hall.seen) % 6 ∈ [2, 3, 4] →
            (m.unit n).hall.idx = i ∧ m.flagged (Reg.FB_STATUS n) Bit.FB_HALL_SKIP = true ∧
            (l.fld (Reg.FB_LIM n) 8 8 < (l.unit n).hall.events.length + 1 → (m.unit n).hallFault = true)))) ∧
    (n < 6 → (∀ t, (l.unit n).hall.invalidAt = some t → l.hallOn n = true → t + l.tss n ≤ l.now →
        ∃ m, exec (.hallInvalidTimeout h n) s = .next (s.after h m) ∧ (m.unit n).hallFault = true ∧ ∀ j, j ≠ n → m.unit j = l.unit j) ∧
      ((l.unit n).hall.invalidAt = none → exec (.hallInvalidTimeout h n) s = .next (s.after h l))) ∧
    (∀ f, n < 6 → l.sentOn n = true → ∃ m, exec (.sentFrame h n f) s = .next (s.after h m) ∧ (∀ j, j ≠ n → m.unit j = l.unit j) ∧
      (m.unit n).sent.prevSync = some f.sync ∧ (m.unit n).cnt = (l.unit n).cnt ∧ (m.unit n).hall = (l.unit n).hall ∧
      (l.sentError n f ≠ 0 → m = { l with fb := m.fb, status := m.status, hr := m.hr } ∧ (m.unit n).sent.accRun = 0 ∧
        (m.unit n).sent.angle = (l.unit n).sent.angle ∧ (m.unit n).sent.valid = (l.unit n).sent.valid ∧
        m.flagged (Reg.FB_STATUS n) Bit.FB_SENT_ERR = true) ∧
      (l.sentError n f = 0 → (m.unit n).sent.lastAt = l.now ∧ (m.unit n).sent.lost = false ∧
        (m.unit n).sent.valid = ((l.unit n).sent.valid || decide (1 ≤ (l.unit n).sent.accRun)) ∧
        ((l.unit n).sentFault = true → (m.unit n).sent.angle = (l.unit n).sent.angle) ∧
        ((l.unit n).sentFault = false → (m.unit n).sent.angle = (nibbleOf f.sync (f.nibbles.getD 1 0) * 256 +
          nibbleOf f.sync (f.nibbles.getD 2 0) * 16 + nibbleOf f.sync (f.nibbles.getD 3 0)) % 4096))) ∧
    (n < 6 → l.sentOn n = true → (l.unit n).sent.lost = false →
      ((l.unit n).sent.lastAt + l.sentTo n ≤ l.now → ∃ m, exec (.sentTimeout h n) s = .next (s.after h m) ∧
        m.flagged (Reg.FB_STATUS n) Bit.FB_SENT_LOST = true ∧ (m.unit n).sent.lost = true ∧ (m.unit n).sent.valid = false ∧ (m.unit n).sent.prevSync = none ∧
        (m.unit n).sentFault = true ∧ ∀ j, j ≠ n → m.unit j = l.unit j) ∧
      (l.now < (l.unit n).sent.lastAt + l.sentTo n → exec (.sentTimeout h n) s = .next (s.after h l)))

/-- Speed estimation (03 R80, R81, R83). That the cycle in which window mode is entered ends no window is the model's choice (log 31). -/
def Obligations.TheEstimatorFollowsItsTimers : Prop :=
  ∀ (s : State) (h : Hdr) (l : Lane) (n : Nat) (e : Estimator), l = s.arrive h → l.Sound h.lane → l.alive = true → n < 8 →
    e = (l.unit n).est →
    (∀ k, e.state = .run → k = (l.now - e.tPrev) / 128 * 128 → k ≠ 0 →
      (e.speed.natAbs ≤ (spdOf false 1 k).natAbs → exec (.speedDecay h n) s = .next (s.after h l)) ∧
      ((spdOf false 1 k).natAbs < e.speed.natAbs → ∃ m, exec (.speedDecay h n) s = .next (s.after h m) ∧
        m = { l with fb := m.fb, tl := m.tl } ∧ (∀ j, j ≠ n → m.unit j = l.unit j) ∧
        m.unit n = { l.unit n with est := { e with speed := sgn e.speed * (spdOf false 1 k).natAbs } })) ∧
    (e.state ≠ .run → exec (.speedDecay h n) s = .next (s.after h l)) ∧
    (e.state ≠ .standstill → e.lastUpd + l.tss n ≤ l.now → ∃ m, exec (.standstillTimeout h n) s = .next (s.after h m) ∧
      m = { l with fb := m.fb, tl := m.tl } ∧ (∀ j, j ≠ n → m.unit j = l.unit j) ∧
      m.unit n = { l.unit n with est := { e with state := .standstill, speed := 0, winMode := false } }) ∧
    (e.state = .standstill ∨ l.now < e.lastUpd + l.tss n → exec (.standstillTimeout h n) s = .next (s.after h l)) ∧
    (e.winMode = true → (l.now - l.relAt) % l.window n = 0 → e.winEnd ≠ some l.now →
      (e.n = 0 → e.tRef + 3 ≠ l.now → ∃ m, exec (.speedWindowEnd h n) s = .next (s.after h m) ∧ m = { l with fb := m.fb } ∧
        m.unit n = { l.unit n with est := { e with winMode := false, winEnd := some l.now } } ∧ ∀ j, j ≠ n → m.unit j = l.unit j) ∧
      (∀ v, e.n ≠ 0 → v = spdOf e.rev e.n (e.tLast - e.tRef) → ∃ m, exec (.speedWindowEnd h n) s = .next (s.after h m) ∧
        m = { l with fb := m.fb, tl := m.tl, status := m.status, hr := m.hr } ∧ (∀ j, j ≠ n → m.unit j = l.unit j) ∧
        (m.unit n).est = { e with speed := clampAbs spdMax v, tRef := e.tLast, n := 0, winEnd := some l.now,
                                  winMode := (m.unit n).est.winMode } ∧
        ((m.unit n).est.winMode = true ↔ l.fld (Reg.FB_SPDCFG n) 0 24 ≠ 0 ∧ l.fld (Reg.FB_SPDCFG n) 0 24 * 7 * 256 ≤ v.natAbs * 8) ∧
        (spdMax ≤ v.natAbs → m.flagged (Reg.FB_STATUS n) Bit.FB_SPD_SAT = true))) ∧
    (e.winMode = false ∨ (l.now - l.relAt) % l.window n ≠ 0 ∨ e.winEnd = some l.now ∨ (e.n = 0 ∧ e.tRef + 3 = l.now) → exec (.speedWindowEnd h n) s = .next (s.after h l))

/-- Words at the gate-drive die (07 R160 to R164, Table 7.4). -/
def Obligations.WordsActAtTheDie : Prop :=
  ∀ (s : State) (h : Hdr) (l : Lane) (w : Word), l = s.arrive h → l.Sound h.lane → l.dieOn = true → evenParity w = true →
    (l.die.aligned = true → ∀ c, (gateOf w < 43 ∧ c = Instr.commandWord h w) ∨
        (gateOf w = 62 ∧ controlOk w = true ∧ bit w 25 = true ∧ c = Instr.tokenRaise h w) →
      ∃ m, exec c s = .next (s.after h m) ∧ m = { l with die := m.die } ∧
        (500 ≤ l.leadOf w → l.leadOf w ≤ 65535 → l.die.queue.length < 256 → m.die = { l.die with queue := l.die.queue ++
          [⟨gateOf w, bit w 25, 16 * (l.now + l.leadOf w) + (if gateOf w < 43 then field w 1 4 else 0)⟩] }) ∧
        (l.leadOf w < 500 ∨ 65535 < l.leadOf w ∨ 256 ≤ l.die.queue.length → ∃ r, m.die = { l.die with events := l.die.events ++ [r] } ∧
          r.waited = 0 ∧ field r.word 28 4 = 1 ∧ field r.word 22 6 = (if gateOf w < 43 then gateOf w else 0x3F) ∧
          field r.word 16 6 = (if l.leadOf w < 500 ∨ 65535 < l.leadOf w then 7 else 8))) ∧
    (l.die.aligned = true → gateOf w = 57 → controlOk w = true → ∀ c, c = (if bit w 25 then Instr.isolateEnter h w else .isolateLeave h w) →
      ∃ m, exec c s = .next (s.after h m) ∧ m = { l with die := m.die } ∧ m.die.isolated = bit w 25 ∧ m.die.token = l.die.token ∧
        m.die.safe = l.die.safe ∧ m.die.queue = l.die.queue ∧ (∀ g, g < 36 → (m.switch g).shadow = (l.switch g).shadow) ∧
        (∀ g, g < 36 → m.wanted g = false → (m.switch g).out = false) ∧
        (bit w 25 = true → l.die.ov3 = false → l.die.hbLost = false → ∀ g, g < 36 → l.die.safe.testBit (g / 6) = false →
          (m.switch g).out = false)) ∧
    (l.die.aligned = true → gateOf w = 58 → controlOk w = true → ∃ m, exec (.chopflt h w) s = .next (s.after h m) ∧
      m = { l with die := m.die } ∧ m.die = { l.die with chopFault := true, events := m.die.events } ∧
      (l.die.chopFault = true → m.die.events = l.die.events) ∧
      (l.die.chopFault = false → ∃ r, m.die.events = l.die.events ++ [r] ∧ field r.word 16 6 = 12)) ∧
    (l.die.aligned = true → gateOf w = 60 → controlOk w = true → ∃ m, exec (.safe h w) s = .next (s.after h m) ∧
      m = { l with die := m.die } ∧ (∀ n, n < 6 → m.die.safe.testBit n =
        ((field w 5 6).testBit n || (l.die.safe.testBit n && !(field w 11 6).testBit n))) ∧ m.die.token = l.die.token ∧
      m.die.isolated = l.die.isolated ∧ m.die.queue = l.die.queue ∧ (∀ g, g < 36 → (m.switch g).shadow = (l.switch g).shadow) ∧
      ∀ g, g < 36 → m.wanted g = false → (m.switch g).out = false) ∧
    (l.die.aligned = true → gateOf w = 62 → controlOk w = true → bit w 25 = false → ∃ m, exec (.tokenDrop h w) s = .next (s.after h m) ∧
      m = { l with die := m.die } ∧ m.die.token = false ∧ m.die.queue = l.die.queue.filter (fun q => q.gate != 62) ∧
      (∀ g, g < 36 → (m.switch g).shadow = (l.switch g).shadow) ∧
      (l.die.ov3 = false → l.die.hbLost = false → ∀ g, g < 36 → l.die.safe.testBit (g / 6) = false → (m.switch g).out = false)) ∧
    (gateOf w = 63 → controlOk w = true → exec (.idle h w) s = .next (s.after h l)) ∧
    (gateOf w = 59 → controlOk w = true → fwf cfgReset l.die.cfg = true → ∃ m, exec (.cfg h w) s = .next (s.after h m) ∧
      m = { l with die := m.die } ∧ m.die.crcDue = true ∧ m.die.aligned = l.die.aligned ∧ m.die.token = l.die.token ∧
      (l.die.half = none → m.die = { l.die with crcDue := true, half := some (field w 21 5, bit w 1, field w 5 16) }) ∧
      (∀ v x, l.die.half = some (field w 21 5, !bit w 1, v) →
          x = BitVec.ofNat 32 (if bit w 1 then 65536 * field w 5 16 + v else 65536 * v + field w 5 16) → m.die.half = none ∧
        (∀ i, i ≠ field w 21 5 → m.dieCfg i = l.dieCfg i) ∧ (field w 21 5 ≠ fclrIndex → m.dieCfg (field w 21 5) = x) ∧
        (field w 21 5 = fclrIndex → m.dieCfg fclrIndex = l.dieCfg fclrIndex ∧
          (bit x 1 = true → ∀ g, g < 36 → (m.switch g).latched = false ∧ (m.switch g).pf = 0 ∧
            (m.wanted g = true → (m.switch g).out = true ∨ (m.switch g).waiting = true)) ∧
          (bit x 0 = true → m.die.chopFault = false ∧ m.die.genLimit = false) ∧
          (bit x 0 = false → m.die.chopFault = l.die.chopFault ∧ m.die.genLimit = l.die.genLimit)))) ∧
    (gateOf w = 61 → controlOk w = true → ∃ m, exec (.align h w) s = .next (s.after h m) ∧ m = { l with die := m.die } ∧
      m.die = { l.die with aligned := true, off := m.die.off } ∧ m.dieCount = (field w 5 20 + 18) % 2 ^ 20) ∧
    (∀ c, (gateOf w < 43 ∧ c = Instr.commandWord h w) ∨ (gateOf w = 57 ∧ (c = .isolateEnter h w ∨ c = .isolateLeave h w)) ∨
        (gateOf w = 58 ∧ c = .chopflt h w) ∨ (gateOf w = 60 ∧ c = .safe h w) ∨
        (gateOf w = 62 ∧ (c = .tokenRaise h w ∨ c = .tokenDrop h w)) →
      l.die.aligned = false → exec c s = .next (s.after h l)) ∧
    (∀ c, (gateOf w = 58 ∧ c = Instr.chopflt h w) ∨ (gateOf w = 59 ∧ c = .cfg h w) ∨ (gateOf w = 60 ∧ c = .safe h w) ∨
        (gateOf w = 61 ∧ c = .align h w) ∨ (gateOf w = 63 ∧ c = .idle h w) → controlOk w = false →
        (l.die.aligned = true ∨ gateOf w = 59 ∨ gateOf w = 61) →
      ∃ m r, exec c s = .next (s.after h m) ∧ m = { l with die := { l.die with events := l.die.events ++ [r] } } ∧
        field r.word 16 6 = 13)

/-- The queue, the token and the heartbeat of the gate-drive die (07 R159, R164 to R166, R181). -/
def Obligations.QueuedWordsExecute : Prop :=
  ∀ (s : State) (h : Hdr) (l : Lane), l = s.arrive h → l.Sound h.lane → l.dieOn = true →
    (∀ vbs, ∃ m, exec (.queuedWordExecute h vbs) s = .next (s.after h m) ∧ m = { l with die := m.die } ∧
      m.die.queue = l.die.queue.filter (fun w => w.gate == 62 || decide (16 * l.now + 15 < w.t)) ∧ m.die.token = l.die.token ∧
      ∀ w, l.die.queue.filter (fun w => w.gate != 62 && decide (w.t ≤ 16 * l.now + 15)) = [w] → w.gate < 36 →
        (∀ g, g < 36 → g ≠ w.gate → (m.switch g).shadow = (l.switch g).shadow) ∧
        (w.on = false → (m.switch w.gate).shadow = false) ∧
        (w.on = true → ∀ e, (l.switch w.gate).hold = some e → w.t < 16 * e →
          (m.switch w.gate).shadow = (l.switch w.gate).shadow ∧ (m.switch w.gate).hold = some e ∧
          (m.switch w.gate).pf = (l.switch w.gate).pf) ∧
        (w.on = true → (∀ e, (l.switch w.gate).hold = some e → 16 * e ≤ w.t) → (m.switch w.gate).hold = none ∧
          (l.countsOn (otherGate w.gate) = true → (m.switch w.gate).shadow = (l.switch w.gate).shadow ∧
            (m.switch w.gate).pf = (l.switch w.gate).pf + 1 ∧ ∃ r ∈ m.die.events, field r.word 16 6 = 1 ∧ field r.word 22 6 = w.gate) ∧
          (l.countsOn (otherGate w.gate) = false → (m.switch w.gate).shadow = true))) ∧
    ((∃ q ∈ l.die.queue, q.gate = 62 ∧ q.t ≤ 16 * l.now + 15) → ∃ m, exec (.tokenHoldStart h) s = .next (s.after h m) ∧
      m = { l with die := m.die } ∧ m.die.token = true ∧ (∀ q ∈ m.die.queue, q ∈ l.die.queue ∧ (q.gate = 62 → 16 * l.now + 15 < q.t)) ∧
      (∀ g, g < 36 → (m.switch g).shadow = (l.switch g).shadow) ∧
      (∀ g, g < 36 → m.wanted g = true → (m.switch g).out = true ∨ (m.switch g).waiting = true) ∧
      ∀ g, g < 36 → m.wanted g = false → (m.switch g).out = false) ∧
    ((∀ q ∈ l.die.queue, q.gate = 62 → 16 * l.now + 15 < q.t) → exec (.tokenHoldStart h) s = .next (s.after h l)) ∧
    (∃ m, exec (.deadTimeTurnOn h) s = .next (s.after h m) ∧ m = { l with die := m.die } ∧ m.die.queue = l.die.queue ∧
      ∀ g, g < 36 → (m.switch g).shadow = (l.switch g).shadow ∧
        (l.wanted g = true → (l.switch g).waiting = true → (l.switch g).out = false →
          (l.deadOver (16 * l.now + 15) g = true → (m.switch g).out = true ∧ (m.switch g).waiting = false ∧
            (m.switch g).onAt = some (l.deadEnd g)) ∧
          (l.deadOver (16 * l.now + 15) g = false → (m.switch g).out = false ∧ (m.switch g).waiting = true))) ∧
    (∀ t, l.die.hbAt = some t → l.die.hbLost = false → t + 500 ≤ l.now → l.die.lossSafe = false →
      ∃ m, exec (.heartbeatLoss h) s = .next (s.after h m) ∧ m = { l with die := m.die } ∧ m.die.hbLost = true ∧
        m.die.queue = l.die.queue ∧ (l.die.ov3 = false → ∀ g, g < 36 → (m.switch g).out = false)) ∧
    (l.die.hbAt = none ∨ l.die.hbLost = true ∨ (∃ t, l.die.hbAt = some t ∧ l.now < t + 500) →
      exec (.heartbeatLoss h) s = .next (s.after h l)) ∧
    (∀ t, l.die.hbAt = some t → l.die.hbLost = true → l.die.lossSafe = false → l.lossSafeTime ≠ 0 → t + (500 + l.lossSafeTime) ≤ l.now →
      ∃ m, exec (.lossSafeExpiry h) s = .next (s.after h m) ∧ m = { l with die := m.die } ∧ m.die.lossSafe = true ∧
        m.die.queue = l.die.queue ∧ ∀ g, g < 36 → m.wanted g = false → (m.switch g).out = false) ∧
    (l.die.hbLost = false ∨ l.lossSafeTime = 0 ∨ (∃ t, l.die.hbAt = some t ∧ l.now < t + (500 + l.lossSafeTime)) →
      exec (.lossSafeExpiry h) s = .next (s.after h l))

/-- Trips and the overvoltage ladder (07 R168 to R178). -/
def Obligations.TripsTurnTheirGatesOff : Prop :=
  ∀ (s : State) (h : Hdr) (l : Lane), l = s.arrive h → l.Sound h.lane → l.dieOn = true →
    (∀ g, g < 36 → g % 2 = 0 → (l.switch g).bootUv = false → l.underTest g = false →
      ∃ m r, exec (.bootUv h g) s = .next (s.after h m) ∧ m = { l with die := m.die } ∧ (m.switch g).bootUv = true ∧
        (m.switch g).out = false ∧ (m.switch g).bootWords = 0 ∧ m.die.events = l.die.events ++ [r] ∧ field r.word 16 6 = 4 ∧
        field r.word 22 6 = g) ∧
    (∀ g, g < 36 → (l.switch g).bootUv = true → (l.switch g).bootWords < 3 →
      ((l.switch g).bootAt + 250000 ≤ l.now → ∃ m r, exec (.bootPersist h g) s = .next (s.after h m) ∧ m = { l with die := m.die } ∧
        m.die.events = l.die.events ++ [r] ∧ field r.word 16 6 = 5 ∧ field r.word 22 6 = g) ∧
      (l.now < (l.switch g).bootAt + 250000 → exec (.bootPersist h g) s = .next (s.after h l))) ∧
    (∀ g, g < 36 → (l.switch g).out = true → blanked (l.switch g) l.now (l.switch g).dsBlank = false →
      ∃ m, exec (.desatTrip h g) s = .next (s.after h m) ∧ m = { l with die := m.die } ∧ (m.switch g).out = false ∧
        (m.switch g).hold = some (l.now + l.dieRetry) ∧ (m.switch g).pf = (l.switch g).pf + 1 ∧
        ((l.switch g).latched = false → max 1 (field (l.dieCfg 6) 0 4) ≤ (l.switch g).pf + 1 → (m.switch g).latched = true) ∧
        ∃ r ∈ m.die.events, field r.word 16 6 = 2 ∧ field r.word 22 6 = g) ∧
    (∀ g, g < 36 → (l.switch g).out = false → exec (.desatTrip h g) s = .next (s.after h l)) ∧
    (∀ n, n < 6 → l.underTest (6 * n) = false → (∀ g ∈ [6 * n, 6 * n + 2, 6 * n + 4],
        blanked (l.switch g) l.now (l.switch g).ocBlank = false) →
      ∃ m, exec (.ocTrip h n) s = .next (s.after h m) ∧ m = { l with die := m.die } ∧
        ∀ g ∈ [6 * n, 6 * n + 2, 6 * n + 4], (l.switch g).out = true → (m.switch g).out = false ∧
          (m.switch g).hold = some (l.now + l.dieRetry) ∧ (m.switch g).pf = (l.switch g).pf + 1 ∧
          ∃ r ∈ m.die.events, field r.word 16 6 = 3 ∧ field r.word 22 6 = g) ∧
    (∀ g, g < 36 → 0 < (l.switch g).pf → (l.switch g).pfAt + us (max 1 (field (l.dieCfg 6) 16 16)) ≤ l.now →
      ∃ m, exec (.pfDecay h g) s = .next (s.after h m) ∧ m = { l with die := { l.die with sw := m.die.sw } } ∧
        m.switch g = { l.switch g with pf := (l.switch g).pf - 1, pfAt := l.now } ∧ ∀ j, j ≠ g → m.switch j = l.switch j) ∧
    (∀ g, g < 36 → (l.switch g).pf = 0 → exec (.pfDecay h g) s = .next (s.after h l)) ∧
    (l.die.vdrvUv = false → ∃ m, exec (.vdrvUvTrip h) s = .next (s.after h m) ∧ m = { l with die := m.die } ∧ m.die.vdrvUv = true ∧
      m.die.vdrvAt = some l.now ∧ m.die.chopOut = false ∧ (∀ g, g < 36 → (m.switch g).out = false) ∧
      ∀ n, n < 6 → vget m.die.brlOut n true = false) ∧
    (∀ t, l.die.vdrvAt = some t → t + 2500 ≤ l.now → ∃ m r, exec (.vdrvUvPersist h) s = .next (s.after h m) ∧
      m = { l with die := { l.die with vdrvAt := none, events := l.die.events ++ [r] } } ∧ field r.word 16 6 = 11) ∧
    (l.die.vdrvAt = none → exec (.vdrvUvPersist h) s = .next (s.after h l)) ∧
    (∃ m, exec (.vdrvRecover h) s = .next (s.after h m) ∧ m = { l with die := m.die } ∧ m.die.vdrvUv = false ∧ m.die.vdrvAt = none ∧
      (∀ g, g < 36 → m.wanted g = true → (m.switch g).out = true ∨ (m.switch g).waiting = true)) ∧
    (l.die.vdrvUv = false → ∃ m, exec (.ov1Trip h) s = .next (s.after h m) ∧ m = { l with die := m.die } ∧ m.die.ov1 = true ∧
      m.die.chopOut = true ∧ (l.die.chopOut = false → m.die.chopTest = some (l.now + 1))) ∧
    (∃ m, exec (.ov1Release h) s = .next (s.after h m) ∧ m = { l with die := m.die } ∧ m.die.ov1 = false ∧
      (l.die.vdrvUv = false → m.die.chopOut = l.die.chopShadow)) ∧
    (l.die.vdrvUv = false → l.die.chopFault = true →
      exec (.ov2Enter h) s = .next (s.after h { l with die := { l.die with genLimit := true } })) ∧
    (l.die.chopFault = false → exec (.ov2Enter h) s = .next (s.after h l)) ∧
    exec (.ov2Leave h) s = .next (s.after h { l with die := { l.die with genLimit := false } }) ∧
    (l.die.vdrvUv = false → l.die.ov3 = false → ∃ m r, exec (.ov3Trip h) s = .next (s.after h m) ∧ m = { l with die := m.die } ∧
      m.die.ov3 = true ∧ m.die.ov3At = l.now ∧ m.die.events = l.die.events ++ [r] ∧ field r.word 16 6 = 9 ∧
      (∀ g, g < 36 → g % 2 = 0 ∨ l.dieClass (g / 6) = 2 → (m.switch g).out = false)) ∧
    (∃ m, exec (.ov3Release h) s = .next (s.after h m) ∧ m = { l with die := m.die } ∧ m.die.ov3 = false ∧
      ∀ g, g < 36 → m.wanted g = false → (m.switch g).out = false) ∧
    (l.die.ov3 = true → l.die.ov3At + 250000 ≤ l.now → ∃ m r, exec (.ov3Persist h) s = .next (s.after h m) ∧
      m = { l with die := { l.die with events := l.die.events ++ [r] } } ∧ field r.word 16 6 = 10) ∧
    (l.die.ov3 = false ∨ l.now < l.die.ov3At + 250000 → exec (.ov3Persist h) s = .next (s.after h l)) ∧
    (∀ t fallen, l.die.chopTest = some t → t + 1250 ≤ l.now → ∃ m, exec (.chopperTestEnd h fallen) s = .next (s.after h m) ∧
      m = { l with die := { l.die with chopTest := none, chopFault := l.die.chopFault || !fallen, events := m.die.events } } ∧
      (fallen = true ∨ l.die.chopFault = true → m.die.events = l.die.events) ∧
      (fallen = false → l.die.chopFault = false → ∃ r, m.die.events = l.die.events ++ [r] ∧ field r.word 16 6 = 12)) ∧
    (∀ fallen, l.die.chopTest = none → exec (.chopperTestEnd h fallen) s = .next (s.after h l))

/-- Blocks of the Runner link (07 R157 to R160, R163, R183). -/
def Obligations.BlocksCarryTheirWords : Prop :=
  ∀ (s : State) (h : Hdr) (l : Lane), l = s.arrive h → l.Sound h.lane →
    (l.alive = true → (∀ t, l.port.blockAt = some t → t + 16 ≤ l.now) →
      ∃ m x, exec (.runnerBlockSend h) s = .next (s.after h m) ∧
        m = { l with port := m.port, status := m.status, hr := m.hr } ∧ m.port.part = [x] ∧ m.port.blockAt = some l.now ∧
        m.port.lastBlock = l.port.lastBlock ∧
        (∀ p ps, l.port.c1 = p :: ps → x = p.word ∧ m.port.c1 = ps ∧ m.port.c2 = l.port.c2 ∧ m.port.c3 = l.port.c3 ∧
          m.port.c4 = l.port.c4 ∧ m.port.alignOwed = l.port.alignOwed ∧ m.port.sinceAlign = l.port.sinceAlign + 1) ∧
        (l.port.c1 = [] → l.port.alignOwed = true → gateOf x = 61 ∧ field x 5 20 = l.clk % 2 ^ 20 ∧ m.port.alignOwed = false ∧
          m.port.sinceAlign = 1 ∧ m.port.c2 = l.port.c2 ∧ m.port.c3 = l.port.c3 ∧ m.port.c4 = l.port.c4) ∧
        (l.port.c1 = [] → l.port.alignOwed = false →
          (∀ p ps, (dropLate l.now l.port.c2).1 = p :: ps → x = p.word ∧ m.port.c2 = ps ∧ m.port.c3 = l.port.c3 ∧ m.port.c4 = l.port.c4) ∧
          ((dropLate l.now l.port.c2).1 = [] → ∀ p ps, (dropLate l.now l.port.c3).1 = p :: ps →
            x = p.word ∧ m.port.c2 = [] ∧ m.port.c3 = ps ∧ m.port.c4 = l.port.c4) ∧
          (l.port.c2 = [] → l.port.c3 = [] → (∀ p ps, l.port.c4 = p :: ps → x = p.word ∧ m.port.c4 = ps) ∧
            (l.port.c4 = [] → gateOf x = 63)))) ∧
    (∀ t, l.port.blockAt = some t → l.now < t + 16 → exec (.runnerBlockSend h) s = .next (s.after h l)) ∧
    (l.alive = true → (4096 ≤ l.port.sinceAlign →
        exec (.alignPeriodic h) s = .next (s.after h { l with port := { l.port with alignOwed := true } })) ∧
      (l.port.sinceAlign < 4096 → exec (.alignPeriodic h) s = .next (s.after h l))) ∧
    (∀ w0 w1 w2 ck, l.dieOn = true →
      ((crc16 [w0, w1, w2]).toNat ≠ field ck 16 16 ∨ evenParity w0 = false ∨ evenParity w1 = false ∨ evenParity w2 = false →
        ∃ r, exec (.runnerBlockVerify h w0 w1 w2 ck) s =
            .next (s.after h { l with die := { l.die with events := l.die.events ++ [r] } }) ∧
          field r.word 28 4 = 4 ∧ field r.word 0 16 = field ck 0 16) ∧
      ((crc16 [w0, w1, w2]).toNat = field ck 16 16 → evenParity w0 = true → evenParity w1 = true → evenParity w2 = true →
        (l.die.aligned = true → field ck 0 16 ≠ (l.dieCount + 2 ^ 20 - 18) % 65536 →
          ∃ r, exec (.runnerBlockVerify h w0 w1 w2 ck) s =
              .next (s.after h { l with die := { l.die with aligned := false, events := l.die.events ++ [r] } }) ∧
            field r.word 28 4 = 4 ∧ field r.word 0 16 = field ck 0 16) ∧
        (l.die.aligned = false ∨ field ck 0 16 = (l.dieCount + 2 ^ 20 - 18) % 65536 →
          ∃ m, exec (.runnerBlockVerify h w0 w1 w2 ck) s = .next (s.after h m) ∧
            m = (((l.actWord 0 w0).actWord 1 w1).actWord 2 w2).dieHeard ∧ m = { l with die := m.die } ∧ m.die.hbLost = false ∧
            (m.die.aligned = true ∨ l.die.hbAt.isSome = true → m.die.hbAt = some l.now)))) ∧
    (l.dieOn = true → (∀ t, l.die.blockAt = some t → t + 16 ≤ l.now) →
      ∃ m, exec (.returnBlockSend h) s = .next (s.after h m) ∧ m = { l with die := m.die } ∧ m.die.blockAt = some l.now ∧
        m.die.blocks = l.die.blocks + 1 ∧ m.die.crcDue = false ∧ m.die.lastBlock.head? = some l.levelsWord ∧
        m.die.lastBlock.length = 4 ∧ (l.die.crcDue = true → ∃ x, m.die.lastBlock[1]? = some x ∧ field x 28 4 = 3 ∧ field x 0 16 = l.dieCfgCrc) ∧
        (l.die.crcDue = false → (l.die.blocks + 1) % 256 ≠ 0 → ∀ r rs, l.die.events = r :: rs → m.die.lastBlock[1]? = some r.word) ∧
        (l.die.events = [] → m.die.events = [] ∧ m.die.ovfEvt = false)) ∧
    (∀ t, l.die.blockAt = some t → l.now < t + 16 → exec (.returnBlockSend h) s = .next (s.after h l)) ∧
    (∀ w0 w1 w2 ck, l.alive = true →
      ((crc16 [w0, w1, w2]).toNat ≠ field ck 16 16 ∨
          (bit l.port.levels 13 = true ∧ field ck 0 16 ≠ (l.clk + 2 ^ 20 - 18) % 65536) →
        exec (.returnBlockVerify h w0 w1 w2 ck) s = .next (s.after h l)) ∧
      ((crc16 [w0, w1, w2]).toNat = field ck 16 16 →
          bit l.port.levels 13 = false ∨ field ck 0 16 = (l.clk + 2 ^ 20 - 18) % 65536 →
        ∃ m, exec (.returnBlockVerify h w0 w1 w2 ck) s = .next (s.after h m) ∧ m.port.lastReturn = some l.now ∧ m.port.gdLost = false ∧
          m = ((({ l with port := { l.port with lastReturn := some l.now, gdLost := false } } : Lane).actReturn w0).actReturn w1).actReturn w2 ∧
          m.die = l.die))

/-- Return words at the lane die (07 R159, R175, R178, R183, R184). -/
def Obligations.ReturnWordsReachTheLane : Prop :=
  ∀ (s : State) (h : Hdr) (l : Lane), l = s.arrive h → l.Sound h.lane → l.alive = true →
    (∀ w, field w 28 4 = 2 → ∃ m, exec (.levelsWord h w) s = .next (s.after h m) ∧ m.die = l.die ∧ m.port.levels = w ∧
      m.port.levelsSeen = true ∧
      (field l.port.levels 18 2 = 0 → 0 < field w 18 2 → m.flagged Reg.GD_STATUS Bit.GD_OV1 = true) ∧
      (bit l.port.levels 17 = false → bit w 17 = true → m.flagged Reg.GD_STATUS Bit.GD_GEN_LIMIT = true) ∧
      (bit w 13 = false → m.port.alignOwed = true) ∧
      (bit w 14 = true → m = { l with port := m.port, status := m.status, hr := m.hr } ∧ m.port.vdrvLow = none) ∧
      (bit w 14 = false → l.port.vdrvSeen = false → m = { l with port := m.port, status := m.status, hr := m.hr }) ∧
      (bit w 14 = false → l.port.vdrvSeen = true → l.port.vdrvLow = none → m.port.vdrvLow = some l.now ∧
        m = { l with port := m.port, status := m.status, hr := m.hr }) ∧
      (∀ t, bit w 14 = false → l.port.vdrvSeen = true → l.port.vdrvLow = some t → l.port.vdrvRaised = false → t + 3125 ≤ l.now →
        m.ln.failed = true ∧ m.ln.role = .withdrawn ∧ (l.ln.trigAt ≠ some l.now → m.ln.code = 0x05 ∧ m.ln.detail = 0x3F))) ∧
    (∀ w b, field w 28 4 = 1 → eventFlag (field w 16 6) = some b → ∃ m, exec (.eventWord h w) s = .next (s.after h m) ∧ m.die = l.die ∧
      m.flagged Reg.GD_STATUS b = true ∧
      m.port.late = min 0xFFFF (l.port.late + if field w 16 6 = 7 then 1 else 0) ∧
      m.port.qfull = min 0xFF (l.port.qfull + if field w 16 6 = 8 then 1 else 0) ∧
      (field w 16 6 ∉ [5, 6, 10, 11] → m = { l with port := m.port, status := m.status, hr := m.hr, env := m.env }) ∧
      (field w 16 6 ∈ [5, 6, 10, 11] → m.ln.failed = true ∧ m.ln.role = .withdrawn ∧
        (l.ln.trigAt ≠ some l.now → m.ln.code = 0x05 ∧ m.ln.detail = field w 22 6))) ∧
    (∀ w, field w 28 4 = 1 → eventFlag (field w 16 6) = none → exec (.eventWord h w) s = .next (s.after h l)) ∧
    (∀ w, field w 28 4 = 4 → ∃ m, exec (.fblkWord h w) s = .next (s.after h m) ∧ m.die = l.die ∧
      m.port.runLost = min 0xFF (l.port.runLost + 1) ∧ m.flagged Reg.GD_STATUS Bit.GD_RUN_LOST = true ∧
      m.port.failed = (field w 0 16 :: l.port.failed).take 4 ∧
      (crcLoss m.port.failed = false → m = { l with port := m.port, status := m.status, hr := m.hr }) ∧
      (crcLoss m.port.failed = true → m.ln.failed = true ∧ m.ln.role = .withdrawn ∧
        (l.ln.trigAt ≠ some l.now → m.ln.code = 0x07))) ∧
    (∀ w, field w 28 4 = 3 →
      (field w 0 16 = l.ownCfgCrc → exec (.cfgcrcWord h w) s = .next (s.after h { l with port := { l.port with cfgBad := 0 } })) ∧
      (field w 0 16 ≠ l.ownCfgCrc → l.port.cfgBad = 0 →
        exec (.cfgcrcWord h w) s = .next (s.after h { l with port := { l.port with cfgBad := 1 } })) ∧
      (field w 0 16 ≠ l.ownCfgCrc → l.port.cfgBad = 1 → ∃ m, exec (.cfgcrcWord h w) s = .next (s.after h m) ∧ m.die = l.die ∧
        m.flagged Reg.GD_STATUS Bit.GD_CFG_MISMATCH = true ∧ m.ln.failed = true ∧ m.ln.role = .withdrawn ∧
        (l.ln.trigAt ≠ some l.now → m.ln.code = 0x04))) ∧
    (∀ w, (field w 28 4 ≠ 2 → exec (.levelsWord h w) s = .next (s.after h l)) ∧
      (field w 28 4 ≠ 1 → exec (.eventWord h w) s = .next (s.after h l)) ∧
      (field w 28 4 ≠ 4 → exec (.fblkWord h w) s = .next (s.after h l)) ∧
      (field w 28 4 ≠ 3 → exec (.cfgcrcWord h w) s = .next (s.after h l))) ∧
    (l.port.gdLost = false → l.port.lastReturn.getD l.relAt + 500 ≤ l.now → ∃ m, exec (.gdLost h) s = .next (s.after h m) ∧
      m.die = l.die ∧ m.port.gdLost = true ∧ m.flagged Reg.GD_STATUS Bit.GD_GD_LOST = true ∧ m.ln.failed = true ∧
      m.ln.role = .withdrawn ∧ (l.ln.trigAt ≠ some l.now → m.ln.code = 0x05 ∧ m.ln.detail = 0x3F)) ∧
    (l.port.gdLost = true ∨ l.now < l.port.lastReturn.getD l.relAt + 500 → exec (.gdLost h) s = .next (s.after h l)) ∧
    (∀ t, l.port.chopAt = some t → t + 1294 ≤ l.now → ∃ m, exec (.chopCurrentVerdict h) s = .next (s.after h m) ∧
      m = { l with port := m.port } ∧ m.port.chopAt = none ∧ m.port.chopRes = none ∧
      (l.rbit Reg.GD_CHOPI 31 = true → l.port.chopRes = some false → ∃ p, m.port.c1 = l.port.c1 ++ [p] ∧ gateOf p.word = 58) ∧
      (l.rbit Reg.GD_CHOPI 31 = false ∨ l.port.chopRes ≠ some false → m.port.c1 = l.port.c1)) ∧
    (l.port.chopAt = none → exec (.chopCurrentVerdict h) s = .next (s.after h l))

/-- Gate-drive registers (07 R167, R174, R178, R184). -/
def Obligations.GateDriveRegistersReachTheDie : Prop :=
  ∀ (s : State) (h : Hdr) (l : Lane) (q : Requester), l = s.arrive h → l.Sound h.lane → l.reaches q = true →
    (∀ v, l.keyOf q = true → l.inRun = false →
      (field v 0 3 ≤ 4 → l.port.dtLocked = false → ∃ m, exec (.gdDtWrite h ⟨q, v, 0xF⟩) s = .next (s.after h m) ∧
        m = { l with sys := m.sys, regs := m.regs, port := m.port } ∧ m.keyOf q = false ∧ m.fld Reg.GD_DT 0 3 = field v 0 3 ∧
        m.port = { l.port with dtLocked := true, c4 := l.port.c4 ++ cfgWords 0 (m.reg Reg.GD_DT) }) ∧
      (4 < field v 0 3 → field (l.reg Reg.GD_DT) 0 3 ≠ field v 0 3 → l.port.dtLocked = false →
        ∃ m, exec (.gdDtWrite h ⟨q, v, 0xF⟩) s = .next (s.after h m) ∧
          m = { l with sys := m.sys, status := m.status } ∧ m.keyOf q = false ∧ m.sys.refReason = 3 ∧
          m.flagged Reg.SYS_LSTATUS Bit.SYS_WRITE_REFUSED = true) ∧
      (field v 0 3 ≤ 4 → field (l.reg Reg.GD_DT) 0 3 ≠ field v 0 3 → l.port.dtLocked = true →
        ∃ m, exec (.gdDtWrite h ⟨q, v, 0xF⟩) s = .next (s.after h m) ∧ m = { l with sys := m.sys, status := m.status } ∧
          m.keyOf q = false ∧ m.sys.refReason = 4 ∧ m.flagged Reg.SYS_LSTATUS Bit.SYS_WRITE_REFUSED = true)) ∧
    (l.keyOf q = true → (∃ m, exec (.gdFclrPersist h q) s = .next (s.after h m) ∧
        m = { l with sys := m.sys, regs := m.regs, port := { l.port with c4 := l.port.c4 ++ cfgWords fclrIndex 2 } } ∧ m.keyOf q = false) ∧
      (∃ m, exec (.gdFclrChop h q) s = .next (s.after h m) ∧ m.keyOf q = false ∧
        m = { l with sys := m.sys, regs := m.regs, port := { l.port with c4 := l.port.c4 ++ cfgWords fclrIndex 1 } })) ∧
    (∀ off v i, off = 0x4000 + 4 * i → i ≠ 0 → i ≠ 11 → i ∈ shadowIndices →
      ∃ m, exec (.gdRegisterWrite h off ⟨q, v, 0xF⟩) s = .next (s.after h m) ∧ m.die = l.die ∧ m.keyOf q = false ∧
        m = { l with sys := m.sys, regs := m.regs, port := { l.port with c4 := m.port.c4 }, status := m.status, hr := m.hr } ∧
        (m.reg off ≠ l.reg off → m.port.c4 = l.port.c4 ++ cfgWords i (m.reg off)) ∧
        (m.reg off = l.reg off → m.port.c4 = l.port.c4))

/-- Memory accesses and their codes (10 R236 to R242). The inner check matrix is free (log 4, log 37): nothing here rests on it. -/
def Obligations.LinesAreServedAndChecked : Prop :=
  ∀ (s : State) (h : Hdr) (l : Lane) (src a : Nat), l = s.arrive h → l.Sound h.lane → l.alive = true → l.ig.inj = none →
    (∀ (e : LineErr) (r : LineRead), src ≠ 0x0E ∨ l.ig.tapActs = .dbgAccess →
      regionOf a = .shm ∨ regionOf a = .rom ∨ regionOf a = .chill → r = l.ig.read (lineOf a) e l.freeVal →
      (r.having 2 = [] → ∃ m k, exec (.shmAccess h src a none e) s = .next (s.after h m) ∧
        m = { l with ig := m.ig, free := m.free, status := m.status, hr := m.hr } ∧ m.ig.mem = l.ig.mem ∧
        m.ig.delivered = some (lineOf a, r.bytes) ∧ m.ig.checks = l.ig.checks ++ [k] ∧
        k = { line := lineOf a, src := src, cyc := l.now, merge := none, inj := false, diff := r.diff, ue := false } ∧
        (r.having 1 = [] → m.status = l.status ∧ m.ig.wback = l.ig.wback) ∧
        (r.having 1 ≠ [] → m.flagged Reg.IG_STATUS Bit.IG_CE = true ∧ m.ig.ceSrc = src)) ∧
      (r.having 2 ≠ [] → ∃ m, exec (.shmAccess h src a none e) s = .next (s.after h m) ∧ m.ig.mem = l.ig.mem ∧
        m.ig.cap.valid = true ∧ (l.ig.cap.valid = false → m.ig.cap.kind = 1 ∧ m.ig.cap.src = src) ∧
        m.flagged Reg.IG_STATUS Bit.IG_UE = true ∧ m.ln.failed = true ∧ m.ln.role = .withdrawn ∧
        (l.ln.trigAt ≠ some l.now → m.ln.code = 0x02 ∧ m.ln.detail = src % 256)) ∧
      (l.ig.codeOf (lineOf a) = lineCode (lineOf a) (lineBytes l.ig.mem (lineOf a)) → e.other = none →
        ((∀ w, w < 4 → ones 64 (vget e.data w 0).toNat + ones 8 (vget e.chk w 0).toNat ≤ 1) →
          r.bytes = lineBytes l.ig.mem (lineOf a) ∧ r.diff = e.outer ∧ r.having 2 = []) ∧
        ((∃ w, w < 4 ∧ ones 64 (vget e.data w 0).toNat + ones 8 (vget e.chk w 0).toNat = 2) → r.having 2 ≠ []))) ∧
    (∀ bs (e : LineErr), src ≠ 0x0E ∨ l.ig.tapActs = .dbgAccess → a = lineOf a → bs.length = 32 → e.other = none →
        regionOf a = .chill ∨ (regionOf a = .shm ∧ mayWrite src a (l.pw.state == .setup) = true) →
      ∃ m v, exec (.shmAccess h src a (some bs) e) s = .next (s.after h m) ∧ m = { l with ig := m.ig } ∧
        (∀ x, memByte m.ig.mem x = if a ≤ x ∧ x < a + 32 then bs.getD (x - a) 0 else memByte l.ig.mem x) ∧
        m.ig.verify = l.ig.verify.filter (fun v => v.line != a) ++ [v] ∧
        v = { line := a, src := src, cyc := l.now, inner := (lineCode a bs).inner, outer := (lineCode a bs).outer, inj := false } ∧
        (fwf (fun _ => none) l.ig.codes = true → m.ig.codeOf a = { lineCode a bs with flaw := { e with other := none } }) ∧
        (∀ b ∈ m.ig.wback, lineOf b.addr ≠ a) ∧ m.ig.checks = l.ig.checks ∧ Memory.wf m.ig.mem = true) ∧
    (∀ bs (e : LineErr) (r : LineRead), src ≠ 0x0E ∨ l.ig.tapActs = .dbgAccess → ¬(a = lineOf a ∧ bs.length = 32) →
        a + bs.length ≤ lineOf a + 32 → r = l.ig.read (lineOf a) e l.freeVal → r.having 1 = [] → r.having 2 = [] →
        regionOf a = .chill ∨ (regionOf a = .shm ∧ mayWrite src a (l.pw.state == .setup) = true) →
      ∃ m k, exec (.shmAccess h src a (some bs) e) s = .next (s.after h m) ∧
        m = { l with ig := { l.ig with checks := l.ig.checks ++ [k] }, free := m.free } ∧
        k = { line := lineOf a, src := src, cyc := l.now, merge := some (lineOf a, mergeLine r.bytes a bs), inj := false,
              diff := r.diff, ue := false }) ∧
    (∀ bs (e : LineErr), regionOf a = .rom → exec (.shmAccess h src a (some bs) e) s = .next (s.after h l)) ∧
    (∀ e, src ≠ 0x0E ∨ l.ig.tapActs = .dbgAccess → regionOf a = .regs → ∃ m, exec (.shmAccess h src a none e) s = .next (s.after h m) ∧
      m.ig.delivered = some (a / 4 * 4, wordBytes ((s.start h).readReg false ((a - 0x40000000) / 4 * 4))) ∧ m.ig.mem = l.ig.mem) ∧
    (src = 0x0E → l.ig.tapActs ≠ .dbgAccess → ∀ w e, exec (.shmAccess h src a w e) s = .next (s.after h l)) ∧
    (∀ k ks, l.ig.checks = k :: ks →
      (l.now < k.cyc + 2 → exec (.outerCheckResult h) s = .next (s.after h l)) ∧
      (k.cyc + 2 ≤ l.now → k.diff = 0 → k.merge = none →
        exec (.outerCheckResult h) s = .next (s.after h { l with ig := { l.ig with checks := ks } })) ∧
      (∀ b bs, k.cyc + 2 ≤ l.now → k.diff = 0 → k.merge = some (b, bs) → b = lineOf b → bs.length = 32 →
          regionOf b = .shm ∨ regionOf b = .chill →
        ∃ m v, exec (.outerCheckResult h) s = .next (s.after h m) ∧ m = { l with ig := m.ig } ∧ m.ig.checks = ks ∧
          (∀ x, memByte m.ig.mem x = if b ≤ x ∧ x < b + 32 then bs.getD (x - b) 0 else memByte l.ig.mem x) ∧
          m.ig.verify = l.ig.verify.filter (fun v => v.line != b) ++ [v] ∧ v.line = b ∧ v.cyc = l.now ∧ Memory.wf m.ig.mem = true) ∧
      (k.cyc + 2 ≤ l.now → k.diff ≠ 0 → ∃ m, exec (.outerCheckResult h) s = .next (s.after h m) ∧
        m.ig.mem = l.ig.mem ∧ m.ig.checks = ks ∧ m.flagged Reg.IG_STATUS Bit.IG_OUTER = true ∧ m.ig.cap.valid = true ∧
        m.ln.failed = true ∧ m.ln.role = .withdrawn ∧ (l.ln.trigAt ≠ some l.now → m.ln.code = (if k.ue then 0x02 else 0x03)))) ∧
    (l.ig.checks = [] → exec (.outerCheckResult h) s = .next (s.after h l)) ∧
    (l.ig.wback = [] → exec (.ceWriteBack h) s = .next (s.after h l)) ∧
    (∀ b bs, l.ig.wback = b :: bs → regionOf b.addr = .shm ∨ regionOf b.addr = .chill →
      ∃ m, exec (.ceWriteBack h) s = .next (s.after h m) ∧ m = { l with ig := m.ig } ∧ m.ig.wback = bs ∧
        (∀ x, memByte m.ig.mem x = if b.addr / 8 * 8 ≤ x ∧ x < b.addr / 8 * 8 + 8 then (leBytes 8 b.word.toNat).getD (x - b.addr / 8 * 8) 0
          else memByte l.ig.mem x) ∧ Memory.wf m.ig.mem = true) ∧
    (∀ v vs (e d : LineErr) c, l.ig.verify.filter (fun v => decide (l.now ≤ v.cyc + 32)) = v :: vs →
        c = l.ig.codeOf (e.reaches v.line) → d = c.flaw.add e →
      ((∀ w, w < 4 → vget c.inner w 0 ^^^ vget d.chk w 0 = vget v.inner w 0) → c.outer ^^^ d.outer = v.outer →
        exec (.writeVerifyRead h e) s = .next (s.after h { l with ig := { l.ig with verify := vs } })) ∧
      ((∃ w, w < 4 ∧ vget c.inner w 0 ^^^ vget d.chk w 0 ≠ vget v.inner w 0) ∨ c.outer ^^^ d.outer ≠ v.outer →
        ∃ m, exec (.writeVerifyRead h e) s = .next (s.after h m) ∧ m.ig.mem = l.ig.mem ∧
        m.ig.verify = vs ∧ m.flagged Reg.IG_STATUS Bit.IG_WRITE_VERIFY = true ∧ m.flagged Reg.IG_STATUS Bit.IG_OUTER = true ∧
        m.ln.failed = true ∧ m.ln.role = .withdrawn ∧ (l.ln.trigAt ≠ some l.now → m.ln.code = 0x03))) ∧
    (∀ e, (∀ v ∈ l.ig.verify, v.cyc + 32 < l.now) →
      exec (.writeVerifyRead h e) s = .next (s.after h { l with ig := { l.ig with verify := [] } }))

/-- 10 R254: blocked writes. -/
def Obligations.RegionBlocksAreCounted : Prop :=
  ∀ (s : State) (h : Hdr) (l : Lane) (src a : Nat) (bs : List Byte) (e : LineErr), l = s.arrive h → l.Sound h.lane → l.alive = true →
    regionOf a = .shm → mayWrite src a (l.pw.state == .setup) = false →
    ∃ m, exec (.shmAccess h src a (some bs) e) s = .next (s.after h m) ∧
      m = { l with ig := { l.ig with regCount := min 63 (l.ig.regCount + 1), regSrc := src, regOff := a }, status := m.status, hr := m.hr } ∧
      m.flagged Reg.IG_STATUS Bit.IG_REGION_BLOCKED = true

/-- The scrubbers (10 R243 to R245). The interval in PARK is counted in cycles of CLK (log 37). -/
def Obligations.ScrubbersReadEveryLine : Prop :=
  ∀ (s : State) (h : Hdr) (l : Lane) (e : LineErr) (r : LineRead), l = s.arrive h → l.Sound h.lane →
    (l.alive = true → l.ig.inj = none → l.pw.state = .run ∨ l.pw.state = .doze → l.ig.scrubAt ≤ l.now →
        r = l.ig.read (scrubAddr l.ig.scrubLine) e l.freeVal →
      (r.having 1 = [] → r.having 2 = [] → ∃ m k, exec (.scrubRead h e) s = .next (s.after h m) ∧
        k = { line := scrubAddr l.ig.scrubLine, src := 0x0F, cyc := l.now, merge := none, inj := false, diff := r.diff, ue := false } ∧
        m.ig.checks = l.ig.checks ++ [k] ∧ m.ig.scrubAt = l.now + max 16 (l.fld Reg.IG_CTRL 0 10) ∧ m.ig.mem = l.ig.mem ∧
        (l.ig.scrubLine + 1 < 83968 → m = { l with free := m.free, ig := { l.ig with
          scrubLine := l.ig.scrubLine + 1, scrubAt := m.ig.scrubAt, checks := m.ig.checks } }) ∧
        (83968 ≤ l.ig.scrubLine + 1 → m.ig.scrubLine = 0 ∧ m.ig.passes = (l.ig.passes + 1) % 4096 ∧ m.ig.cePrev = l.ig.ceNow ∧
          m.ig.ceNow = [] ∧ (l.ig.ceNow.length ≤ l.fld Reg.IG_CTRL 16 8 → m = { l with free := m.free, ig := m.ig }) ∧
          (l.fld Reg.IG_CTRL 16 8 < l.ig.ceNow.length → m.flagged Reg.IG_STATUS Bit.IG_CE_STORM = true))) ∧
      (r.having 2 ≠ [] → ∃ m, exec (.scrubRead h e) s = .next (s.after h m) ∧ m.ig.mem = l.ig.mem ∧
        m.ig.cap.valid = true ∧ m.ln.failed = true ∧ m.ln.role = .withdrawn ∧
        (l.ln.trigAt ≠ some l.now → l.ig.scrubLine + 1 < 83968 → m.ln.code = 0x02 ∧ m.ln.detail = 0x0F))) ∧
    (l.alive = true → (l.pw.state ≠ .run ∧ l.pw.state ≠ .doze) ∨ l.now < l.ig.scrubAt →
      exec (.scrubRead h e) s = .next (s.after h l)) ∧
    (l.pw.state = .park → l.ig.parkAt ≤ l.now → r = l.ig.read (0x20000000 + 32 * l.ig.parkLine) e l.freeVal →
      ∃ m, exec (.parkScrub h e) s = .next (s.after h m) ∧
      m = { l with ig := m.ig, free := m.free } ∧ m.ig.parkLine = (l.ig.parkLine + 1) % 2048 ∧ m.ig.parkAt = l.now + us 64 ∧
      (r.having 1 = [] → m.ig.mem = l.ig.mem) ∧
      (r.having 2 = [] → r.diff = 0 → m.ig.cap = l.ig.cap ∧ m.ig.parkFault = l.ig.parkFault) ∧
      (r.having 2 ≠ [] ∨ r.diff ≠ 0 → m.ig.cap.valid = true ∧ (l.ig.cap.valid = false → m.ig.cap.park = true ∧
          m.ig.cap.kind = (if r.having 2 ≠ [] then 1 else 2)) ∧
        m.ig.parkFault = some (l.ig.parkFault.getD (if r.having 2 ≠ [] then 0x02 else 0x03)))) ∧
    (l.pw.state ≠ .park ∨ l.now < l.ig.parkAt → exec (.parkScrub h e) s = .next (s.after h l))

/-- Lock-step, parity, debug access and injection (10 R248 to R255). That TRST_N loads IDCODE is the model's (log 37). -/
def Obligations.LockstepParityAndDebug : Prop :=
  ∀ (s : State) (h : Hdr) (l : Lane), l = s.arrive h → l.Sound h.lane →
    (l.alive = true → (∀ k, k ≤ 10 → ∃ m, exec (.lockstepMismatch h k) s = .next (s.after h m) ∧ m.ig.last = k ∧
        m.flagged Reg.IG_STATUS Bit.IG_LOCKSTEP = true ∧
        (l.ig.compareOff = true → m = { l with ig := { l.ig with last := k }, status := m.status, hr := m.hr }) ∧
        (l.ig.compareOff = false → m.ln.failed = true ∧ m.ln.role = .withdrawn ∧
          (l.ln.trigAt ≠ some l.now → m.ln.code = 0x01 ∧ m.ln.detail = k))) ∧
      ((∀ t, l.ig.selfAt = some t → t + 2 ^ 20 ≤ l.now) →
        exec (.comparatorSelftest h 0) s =
          .next (s.after h { l with ig := { l.ig with passed := 0x7FF, selfAt := some l.now } }) ∧
        ∀ fails : BitVec 11, fails ≠ 0 → ∃ m k, exec (.comparatorSelftest h fails) s = .next (s.after h m) ∧
          fails.getLsbD k = true ∧ m.ig.passed = (~~~fails).toNat ∧ m.ig.last = k + 0x80 ∧ m.ig.selfAt = some l.now ∧
          m.flagged Reg.IG_STATUS Bit.IG_LS_SELFTEST = true ∧
          (l.ig.compareOff = false → m.ln.failed = true ∧ m.ln.role = .withdrawn ∧ (l.ln.trigAt ≠ some l.now →
            m.ln.code = 0x01 ∧ ∃ j, fails.getLsbD j = true ∧ m.ln.detail = j + 0x80))) ∧
      (∀ fails t, l.ig.selfAt = some t → l.now < t + 2 ^ 20 → exec (.comparatorSelftest h fails) s = .next (s.after h l)) ∧
      (∀ off b r, off % 4 = 0 → off < 0x8000 → b < 32 → regRow? off = some r → off ≠ Reg.IG_UEINFO →
        r.fields.any (fun f => !f.acc.writeOnly && decide (f.lo ≤ b) && decide (b < f.lo + f.width)) = true →
        ((s.start h).reg off = l.reg off →
          ∃ m, exec (.parityError h off b none) s = .next (s.after h m) ∧ m.reg off = l.reg off ^^^ (1 <<< b) ∧
            m.flagged Reg.IG_STATUS Bit.IG_PARITY = true ∧ m.ln.failed = true ∧ m.ln.role = .withdrawn ∧
            (l.ln.trigAt ≠ some l.now → m.ln.code = 0x04 ∧ m.ln.detail = off / 256) ∧
            m.ig.parOff = (if l.ig.parOff = 0xFFFF then off else l.ig.parOff)) ∧
        ((s.start h).reg off ≠ l.reg off → exec (.parityError h off b none) s = .next (s.after h l))) ∧
      (∀ off b k, off % 4 = 0 → off < 0x8000 → b < 192 → k < 256 → fwf (fun _ => initEntry) l.tl.entries = true →
        (l.entry k).commitAt ≠ l.now →
        ∃ m, exec (.parityError h off b (some k)) s = .next (s.after h m) ∧ m.entry k = (l.entry k).flip b ∧
          (∀ j, j ≠ k → m.entry j = l.entry j) ∧ m.flagged Reg.TL_STATUS Bit.TL_PARITY = true ∧ m.ln.failed = true ∧
          m.ln.role = .withdrawn ∧ (l.ln.trigAt ≠ some l.now → m.ln.code = 0x04 ∧ m.ln.detail = Reg.TL_STATUS / 256)) ∧
      (∀ ir : TapIr, ir.attaching = false → exec (.tapOpenInstruction h ir) s = .next (s.after h
        { l with ig := { l.ig with tap := ir, waiting := false, granted := false, pads := false, wantPads := false } })) ∧
      (∀ (ir : TapIr) code, ir.attaching = true → ∃ m, exec (.tapAttach h ir code) s = .next (s.after h m) ∧
        m.ig = { l.ig with unlocked := 7, unlockedCopy := true, tap := ir, attachWait := none, waiting := true, granted := false,
                           wantPads := ir.drives, pads := false, ir := code.toNat } ∧ m.ig.tapActs = .bypass ∧
        m.flagged Reg.IG_STATUS Bit.IG_DEBUG_ATTACH = true ∧ m.ln.impaired = l.ln.impaired ||| 0x20 ∧ m.ln.code = 0x15) ∧
      (l.ig.waiting = true → (l.ig.wantPads = false ∧ l.isActive = false) ∨
          (l.ig.wantPads = true ∧ (l.ln.role = .offline ∨ l.ln.role = .withdrawn)) →
        exec (.debugGrant h) s = .next (s.after h
          { l with ig := { l.ig with waiting := false, granted := true, pads := l.ig.wantPads, compareOff := true } })) ∧
      (l.ig.waiting = false → exec (.debugGrant h) s = .next (s.after h l))) ∧
    (l.pw.state = .park → ∀ (ir : TapIr) code, ir.attaching = true → exec (.tapAttach h ir code) s =
      .next (s.after h { l with ig := { l.ig with attachWait := some (ir, code.toNat) } })) ∧
    (l.pw.state ≠ .unpowered → exec (.tapReset h) s = .next (s.after h
      { l with ig := { l.ig with tap := .idcode, attachWait := none, waiting := false, granted := false, pads := false,
                                 wantPads := false } })) ∧
    (∀ q, l.reaches q = true → l.keyOf q = true →
      (∀ v, l.isActive = false →
        (field v 0 4 ∈ [1, 2, 3, 4] → ∃ m, exec (.igInjWrite h ⟨q, v, 0xF⟩) s = .next (s.after h m) ∧ m.keyOf q = false ∧
          m = { l with sys := m.sys, regs := m.regs, ig := { l.ig with inj := some (field v 0 4, (l.reg Reg.IG_INJADDR).toNat) } }) ∧
        (field v 0 4 = 5 → parityChecked (l.reg Reg.IG_INJADDR).toNat = true →
          ∃ m, exec (.igInjWrite h ⟨q, v, 0xF⟩) s = .next (s.after h m) ∧ m.keyOf q = false ∧ m.ig.inj = none ∧
          m.flagged Reg.IG_STATUS Bit.IG_PARITY = true ∧ m.ln.failed = true ∧ m.ln.role = .withdrawn ∧
          (l.ln.trigAt ≠ some l.now → m.ln.code = 0x04)) ∧
        (field v 0 4 = 5 → parityChecked (l.reg Reg.IG_INJADDR).toNat = false →
          ∃ m, exec (.igInjWrite h ⟨q, v, 0xF⟩) s = .next (s.after h m) ∧ m.keyOf q = false ∧
          m = { l with sys := m.sys, regs := m.regs, ig := { l.ig with inj := some (5, (l.reg Reg.IG_INJADDR).toNat) } }) ∧
        (field v 0 4 = 6 → (l.reg Reg.IG_INJADDR).toNat ≤ 0x0A → ∃ m, exec (.igInjWrite h ⟨q, v, 0xF⟩) s = .next (s.after h m) ∧
          m.keyOf q = false ∧ m.ig.inj = none ∧ m.ig.last = (l.reg Reg.IG_INJADDR).toNat ∧
          m.flagged Reg.IG_STATUS Bit.IG_LOCKSTEP = true) ∧
        (field v 0 4 = 6 → 0x0A < (l.reg Reg.IG_INJADDR).toNat → ∃ m, exec (.igInjWrite h ⟨q, v, 0xF⟩) s = .next (s.after h m) ∧
          m = { l with sys := m.sys, status := m.status } ∧ m.keyOf q = false ∧ m.sys.refReason = 3)) ∧
      (∀ v, l.isActive = true → field v 0 4 ∈ [1, 2, 3, 4, 5] → ∃ m, exec (.igInjWrite h ⟨q, v, 0xF⟩) s = .next (s.after h m) ∧
        m = { l with sys := m.sys, status := m.status } ∧ m.keyOf q = false ∧ m.sys.refReason = 4) ∧
      (∃ m, exec (.igUeinfoValidClear h q) s = .next (s.after h m) ∧ m.keyOf q = false ∧
        m = { l with sys := m.sys, ig := { l.ig with cap := { l.ig.cap with valid := false } } }))

/-- Start tests, on-demand tests and background tests (11 R258 to R265, R270). Log 21: which tests are skipped, and the lead of the
chopper pulse. -/
def Obligations.ShakeoutRunsItsTests : Prop :=
  ∀ (s : State) (h : Hdr) (l : Lane), l = s.arrive h → l.Sound h.lane → l.awake = true →
    (∀ q v, l.reaches q = true → l.keyOf q = true → field v 0 17 ≠ 0 →
      (l.ln.role = .standby ∨ l.ln.role = .active → ∃ m, exec (.tsCmdRun h ⟨q, v, 0xF⟩) s = .next (s.after h m) ∧
        m = { l with sys := m.sys, regs := m.regs, status := m.status, hr := m.hr } ∧ m.keyOf q = false ∧
        m.flagged Reg.TS_STATUS Bit.TS_TEST_REFUSED = true) ∧
      (l.ln.role = .spare ∨ l.ln.role = .offline ∨ l.ln.role = .withdrawn →
        (field v 0 17 &&& onDemand = 0 → ∃ m, exec (.tsCmdRun h ⟨q, v, 0xF⟩) s = .next (s.after h m) ∧
          m = { l with sys := m.sys, regs := m.regs } ∧ m.keyOf q = false) ∧
        (∀ r k, r = ShakeReq.mk (field v 0 17 &&& onDemand) (field v 0 17 &&& onDemand) 0 none → (members r.mask 17).head? = some k →
          ∃ m, exec (.tsCmdRun h ⟨q, v, 0xF⟩) s = .next (s.after h m) ∧ m.keyOf q = false ∧
            m = { l with sys := m.sys, regs := m.regs, ts := m.ts, port := m.port } ∧ (k ≠ 16 → m.port = l.port) ∧
            (l.ts.running.isSome ∨ l.ts.startAt.isSome → m.ts = { l.ts with reqs := l.ts.reqs ++ [r] } ∧ m.port = l.port) ∧
            (l.ts.running = none → l.ts.startAt = none → l.ts.reqs = [] →
              m.ts = { l.ts with reqs := [r], running := some (k, l.now) })))) ∧
    (∀ cells restore gates levels k c, l.ts.startAt = some (k, c) → restore < 3 →
      let dur : Nat := us (testDur k)
      (elapsed l.now c dur = false → exec (.shakeoutTestComplete h cells restore gates levels) s = .next (s.after h l)) ∧
      (elapsed l.now c dur = true → l.skipped k = true → k < 15 →
        exec (.shakeoutTestComplete h cells restore gates levels) s = .next (s.after h { l with ts := { l.ts with
          tests := vmod l.ts.tests k fun _ => { result := 3, cell := 0, dur := testDur k }, startAt := some (k + 1, l.now) } })) ∧
      (elapsed l.now c dur = true → l.skipped k = false → cells = [] → k < 15 → k ≠ 12 → k ≠ 3 ∨ restore = 0 →
        exec (.shakeoutTestComplete h cells restore gates levels) s = .next (s.after h { l with ts := { l.ts with
          tests := vmod l.ts.tests k fun _ => { result := 1, cell := 0, dur := testDur k }, startAt := some (k + 1, l.now) } })) ∧
      (elapsed l.now c dur = true → k = 3 → cells = [] → restore = 1 ∨ restore = 2 →
        ∃ m, exec (.shakeoutTestComplete h cells restore gates levels) s = .next (s.after h m) ∧ m.ig.cap.valid = true ∧
          (l.ig.cap.valid = false → m.ig.cap.kind = restore ∧ m.ig.cap.park = true) ∧ m.ts.startAt = some (4, l.now) ∧
          (l.pw.start = 5 → m.ig.parkFault = some (l.ig.parkFault.getD (1 + restore)) ∧ m.ln = l.ln) ∧
          (l.pw.start ≠ 5 → m.ln.code = 1 + restore ∧ m.ln.detail = 3 ∧ m.ln.failed = l.ln.failed)) ∧
      (elapsed l.now c dur = true → k = 12 → gateFails cells gates levels = [] →
        ∃ m, exec (.shakeoutTestComplete h cells restore gates levels) s = .next (s.after h m) ∧ m = { l with ts := m.ts } ∧
          m.ts = { (l.takeGates gates levels).ts with
            tests := vmod l.ts.tests k fun _ => { result := 1, cell := 0, dur := testDur k }, startAt := some (13, l.now) }) ∧
      (elapsed l.now c dur = true → cells = [] → k = 15 →
        ∃ m, exec (.shakeoutTestComplete h cells restore gates levels) s = .next (s.after h m) ∧
          m = { l with ts := m.ts, env := m.env, status := m.status, hr := m.hr } ∧
          m.ts = { l.ts with tests := vmod l.ts.tests k fun _ => { result := 1, cell := 0, dur := testDur k }, startAt := none, done := true }) ∧
      (∀ x xs, elapsed l.now c dur = true → l.skipped k = false → (l.testFinds k cells gates levels).1 = x :: xs → 0 < k → k < 15 →
          k ≠ 3 ∨ restore = 0 →
        ∃ m, exec (.shakeoutTestComplete h cells restore gates levels) s = .next (s.after h m) ∧ m.ts.startAt = some (k + 1, l.now) ∧
          vget m.ts.tests k initTest = { result := 2, cell := x % 256, dur := testDur k } ∧
          m.ts.failMask = l.ts.failMask ||| 2 ^ k ∧ m.ts.fails = l.ts.fails ++ (x :: xs).map (fun y => (k, y)) ∧
          m.flagged Reg.TS_STATUS Bit.TS_SHAKE_FAIL = true ∧
          (k = 12 → ∀ g, g < 36 → g ∈ x :: xs → (m.switch g).latched = true)) ∧
      (∀ x xs, elapsed l.now c dur = true → cells = x :: xs → k = 0 →
        ∃ m, exec (.shakeoutTestComplete h cells restore gates levels) s = .next (s.after h m) ∧
          m = { l with ts := m.ts, pw := { l.pw with state := .reset, start := 3, clockLoss := true }, status := m.status, hr := m.hr } ∧
          m.ts.startAt = none ∧ vget m.ts.tests 0 initTest = { result := 2, cell := x % 256, dur := testDur 0 })) ∧
    (∀ cells restore gates levels, l.ts.startAt = none → restore < 3 →
      (l.ts.running = none → l.ts.chopTest = none →
        exec (.shakeoutTestComplete h cells restore gates levels) s = .next (s.after h l)) ∧
      (∀ c, l.ts.running = none → l.ts.chopTest = some c →
        (elapsed l.now c (us (testDur 16)) = false → exec (.shakeoutTestComplete h cells restore gates levels) s = .next (s.after h l)) ∧
        (elapsed l.now c (us (testDur 16)) = true → cells = [] →
          exec (.shakeoutTestComplete h cells restore gates levels) s = .next (s.after h { l with ts := { l.ts with
            tests := vmod l.ts.tests 16 fun _ => { result := 1, cell := 0, dur := testDur 16 }, chopTest := none } }))) ∧
      (∀ k c, l.ts.running = some (k, c) → elapsed l.now c (us (testDur k)) = false →
        exec (.shakeoutTestComplete h cells restore gates levels) s = .next (s.after h l)) ∧
      (∀ k c r rs left, l.ts.running = some (k, c) → elapsed l.now c (us (testDur k)) = true → l.ts.reqs = r :: rs → r.tag = none →
        k ≠ 12 → cells = [] → left = r.mask &&& (0x1FFFF - 2 ^ k) →
        (left = 0 → rs = [] →
          exec (.shakeoutTestComplete h cells restore gates levels) s = .next (s.after h { l with ts := { l.ts with
            tests := vmod l.ts.tests k fun _ => { result := 1, cell := 0, dur := testDur k }, running := none, reqs := [] } })) ∧
        (∀ j, left ≠ 0 → (members left 17).head? = some j →
          ∃ m, exec (.shakeoutTestComplete h cells restore gates levels) s = .next (s.after h m) ∧
            m = { l with ts := m.ts, port := m.port } ∧ (j ≠ 16 → m.port = l.port) ∧
            m.ts = { l.ts with tests := vmod l.ts.tests k fun _ => { result := 1, cell := 0, dur := testDur k }, running := some (j, l.now), reqs := { r with mask := left } :: rs }))) ∧
    (∀ meas : CellMeas,
      (l.inRun = false ∨ l.dieOn = false ∨ elapsed l.now l.ts.gcellAt l.ts.gcellInt = false ∨ (∀ g, g < 37 → l.testable g = false) →
        exec (.gateCellStep h meas) s = .next (s.after h l)) ∧
      (∀ g, l.inRun = true → l.dieOn = true → elapsed l.now l.ts.gcellAt l.ts.gcellInt = true →
        ((List.range 37).map fun i => (l.ts.gcell + i) % 37).find? l.testable = some g →
        exec (.gateCellStep h meas) s = .next (s.after h { l with ts := { l.ts with
          cell := some { gate := g, cyc := l.now, meas := meas }, gcell := (g + 1) % 37, gcellAt := l.now, gcellInt := l.gateInterval } }))) ∧
    (∀ (x : Lane) c, x.ts.cell = some c → c.gate < 37 →
      (x.now < c.cyc + 875 → x.cellDone = x) ∧
      (c.cyc + 875 ≤ x.now → x.cellDone.ts.cell = none ∧ vget x.cellDone.ts.sink c.gate 0 = c.meas.sink ∧
        x.cellDone.ts.measured.testBit c.gate = true ∧ x.cellDone.ts.trim = x.ts.trim ∧ x.cellDone.ts.level = x.ts.level ∧
        ((∀ e ∈ cellErrs c.gate c.meas, e.2.natAbs ≤ 300) ∨ c.gate = 36 → x.cellDone = { x with ts := x.cellDone.ts }) ∧
        (c.gate < 36 → 300 < c.meas.desat.natAbs → x.enabled (c.gate / 6) = true →
          (x.cellDone.switch c.gate).latched = true ∧ x.cellDone.ln.failed = true ∧ x.cellDone.ln.role = .withdrawn ∧
          (x.ln.trigAt ≠ some x.now → x.cellDone.ln.code = 0x05 ∧ x.cellDone.ln.detail = c.gate)))) ∧
    (l.ts.cell = none → exec (.gateCellAbort h) s = .next (s.after h l)) ∧
    (∀ c, l.ts.cell = some c → ∃ m, exec (.gateCellAbort h) s = .next (s.after h m) ∧
      m = { l with ts := { l.ts with cell := none, gcell := c.gate }, status := m.status, hr := m.hr } ∧
      m.flagged Reg.TS_STATUS Bit.TS_TEST_ABORT = true) ∧
    (∀ ci, ci = l.fld Reg.TS_BG 8 8 →
      (l.inRun = false ∨ ci = 0 ∨ elapsed l.now l.ts.chopAt (ms (1000 * ci)) = false →
        exec (.chopperBgTest h) s = .next (s.after h l)) ∧
      (l.inRun = true → ci ≠ 0 → elapsed l.now l.ts.chopAt (ms (1000 * ci)) = true →
        ∃ m, exec (.chopperBgTest h) s = .next (s.after h m) ∧ m = { l with ts := { l.ts with chopAt := l.now, chopTest := some l.now }, port := m.port } ∧
          m.port = ((l.sendGate 36 true (16 * (l.now + 700))).sendGate 36 false (16 * (l.now + 700 + us 20))).port))

/-- Slacks, steps, levels and OTP records (11 R267 to R277). -/
def Obligations.TemperJudgesAndBurns : Prop :=
  ∀ (s : State) (h : Hdr) (l : Lane), l = s.arrive h → l.Sound h.lane → l.alive = true →
    (∀ (sl : List Nat) (ok : Bool), sl.length = 48 →
      (l.inRun = false ∨ elapsed l.now l.ts.tintAt l.tint = false → exec (.temperInterval h sl ok) s = .next (s.after h l)) ∧
      (l.inRun = true → elapsed l.now l.ts.tintAt l.tint = true →
        ∃ m, exec (.temperInterval h sl ok) s = .next (s.after h m) ∧ m.ts.tints = l.ts.tints + 1 ∧ m.ts.tintAt = l.now ∧
          (∀ k, k < 48 → vget m.ts.slack k 0 = projected (sl.getD k 0) l.ts.tj (l.tcs k)) ∧
          (∀ k, k < 48 → m.ts.smin ≤ projected (sl.getD k 0) l.ts.tj (l.tcs k)) ∧
          m.ts.steps = l.ts.steps ∧ m.ts.progress = l.ts.progress ∧ m.ts.birth = l.ts.birth ∧ m.ts.coreSlot = l.ts.coreSlot ∧
          m.regs = l.regs ∧ m.ig = l.ig ∧ m.die = l.die ∧ m.pw = l.pw ∧
          (m.ts.smin < 40 → l.stepsHas < 6 → (∀ n, l.ts.sinceStep = some n → 8 ≤ n + 1) →
            (∃ rs, .progress true rs ∈ m.ts.burns) ∧ m.ts.sinceStep = some 0) ∧
          (40 ≤ m.ts.smin → m.ts.sinceStep = l.ts.sinceStep.map (· + 1)) ∧
          ((∃ k, k < 48 ∧ sl.getD k 0 < 10) → m.ln.failed = true ∧ m.ln.role = .withdrawn ∧
            (l.ln.trigAt ≠ some l.now → m.ln.code = 0x09) ∧
            m.flagged Reg.TS_STATUS Bit.TS_CRITICAL = true))) ∧
    (∀ i b bs, l.ts.burns = .core i b :: bs →
      (∃ m, exec (.birthWriteComplete h true) s = .next (s.after h m) ∧
        m = { l with ts := { l.ts with burns := bs, coreSlot := vmod l.ts.coreSlot i fun _ => 1, birth := some b }, status := m.status, hr := m.hr } ∧
        m.flagged Reg.TS_STATUS Bit.TS_BIRTH_WRITTEN = true) ∧
      (vmod l.ts.coreSlot i (fun _ => 2) ≠ #v[2, 2] → exec (.birthWriteComplete h false) s =
        .next (s.after h { l with ts := { l.ts with burns := bs, coreSlot := vmod l.ts.coreSlot i fun _ => 2 } })) ∧
      (vmod l.ts.coreSlot i (fun _ => 2) = #v[2, 2] → ∃ m, exec (.birthWriteComplete h false) s = .next (s.after h m) ∧
        m.ts.birth = l.ts.birth ∧ m.ts.coreSlot = #v[2, 2] ∧ m.flagged Reg.TS_STATUS Bit.TS_BIRTH_FAIL = true)) ∧
    (∀ i xo bs, l.ts.burns = .clock i xo :: bs →
      ∃ m, exec (.birthWriteComplete h true) s = .next (s.after h m) ∧
        m = { l with ts := { l.ts with burns := bs, clockSlot := vmod l.ts.clockSlot i fun _ => 1, xoBirth := some xo }, status := m.status, hr := m.hr } ∧
        m.flagged Reg.TS_STATUS Bit.TS_BIRTH_WRITTEN = true) ∧
    (∀ step rs bs, l.ts.burns = .progress step rs :: bs →
      (∀ ok, exec (.birthWriteComplete h ok) s = .next (s.after h l)) ∧
      ∃ m, exec (.progressWordBurned h) s = .next (s.after h m) ∧
        m = { l with ts := m.ts, env := m.env, status := m.status, hr := m.hr } ∧ m.ts.burns = bs ∧
        m.ts.steps = l.ts.steps + b2n step ∧ m.ts.level = (rs.map (·.level)).foldl max l.ts.level ∧
        m.ts.progress = progressBits (burnedSteps l.ts.progress + b2n step) ((rs.map (·.level)).foldl max (burnedLevel l.ts.progress)) ∧
        (step = true → m.flagged Reg.TS_STATUS Bit.TS_VCORE_STEP = true) ∧
        (rs ≠ [] → m.flagged Reg.TS_STATUS Bit.TS_WEAR_NOTICE = true)) ∧
    (∀ b bs, (l.ts.burns = [] ∨ (l.ts.burns = b :: bs ∧ ∀ step rs, b ≠ .progress step rs)) →
      exec (.progressWordBurned h) s = .next (s.after h l)) ∧
    (∀ ok, l.ts.burns = [] → exec (.birthWriteComplete h ok) s = .next (s.after h l))

/-- Mastership, slots and the controller's error states (12 R289 to R299, R303). -/
def Obligations.MastersRunTheirSlots : Prop :=
  ∀ (s : State) (h : Hdr) (l : Lane) (b : Nat) (u : SprueBus), l = s.arrive h → l.Sound h.lane → l.alive = true → b < 2 → u = l.busOf b →
    (u.master = false ∨ l.slotDone b = false →
      exec (.slotStart h b) s = .next (s.after h l) ∧ exec (.slotEnd h b) s = .next (s.after h l)) ∧
    (u.master = true → l.slotDone b = true →
      ((∀ n, u.slot < n → n < 64 → bit (l.slotWord b u.mode n) 31 = false) → exec (.slotStart h b) s = .next (s.after h l)) ∧
      (∀ n, (List.range 64).find? (fun k => decide (u.slot < k) && bit (l.slotWord b u.mode k) 31) = some n → u.ending = false →
        ∃ m p, exec (.slotStart h b) s = .next (s.after h m) ∧
          m = { l with sp := m.sp, env := m.env, status := m.status, hr := m.hr, free := m.free } ∧ m.sp.sched = l.sp.sched ∧
          (m.busOf b).running = true ∧ (m.busOf b).slot = n ∧ (m.busOf b).slotAt = l.now ∧ (m.busOf b).poll = some p ∧
          (m.busOf b).sent = u.sent ++ [p] ∧ p.ident = 0x20 * l.rankOf b ∧
          p.bytes.take 4 = l.pollHeader b n (l.slotWord b u.mode n) false ∧ (m.busOf b).mode = u.mode ∧ (m.busOf b).master = true ∧
          (m.busOf b).target = if bit (l.slotWord b u.mode n) 30 then some (field (l.slotWord b u.mode n) 9 6) else none) ∧
      (u.running = false → exec (.slotEnd h b) s = .next (s.after h l)) ∧
      (u.running = true → u.ending = false → ∃ m, exec (.slotEnd h b) s = .next (s.after h m) ∧
        m = { l with sp := m.sp, status := m.status, hr := m.hr } ∧ m.sp.sched = l.sp.sched ∧ (m.busOf b).running = false ∧
        (m.busOf b).poll = none ∧ (m.busOf b).target = none ∧ (m.busOf b).master = true ∧ (m.busOf b).mode = u.mode ∧
        (u.target.isSome = true → u.answered = false → (m.busOf b).missing = satAdd 0xFFFF u.missing 1 ∧
          m.flagged (Reg.SP_STATUS b) Bit.SP_RESP_MISSING = true) ∧
        (u.target = none ∨ u.answered = true → (m.busOf b).missing = u.missing) ∧
        (u.poll.isSome = true ∨ u.lostArb = true → (m.busOf b).late = satAdd 0xFF u.late 1 ∧
          m.flagged (Reg.SP_STATUS b) Bit.SP_SLOT_LATE = true) ∧
        (u.poll = none → u.lostArb = false → (m.busOf b).late = u.late)) ∧
      (u.running = true → u.ending = true → ∃ m, exec (.slotEnd h b) s = .next (s.after h m) ∧
        m = { l with sp := m.sp, status := m.status, hr := m.hr } ∧ (m.busOf b).master = false ∧ (m.busOf b).running = false ∧
        (m.busOf b).idleAt = some l.now ∧ (u.yieldEnd = true → m.flagged (Reg.SP_STATUS b) Bit.SP_MASTER_YIELD = true))) ∧
    (u.idleAt = none → exec (.idleWaitExpiry h b) s = .next (s.after h l)) ∧
    (∀ t c, u.idleAt = some t → c = (l.mayMaster b && !u.master && elapsed l.now t u.idleLen) →
      exec (.idleWaitExpiry h b) s = .next (s.after h (if c = true then l.modBus b fun x => { x with ready := true } else l))) ∧
    (u.master = false ∨ u.running = false ∨ u.echo = [] → exec (.pollError h b) s = .next (s.after h l)) ∧
    (u.master = true → u.running = true → u.echo ≠ [] →
      (u.badPolls + 1 < 3 → exec (.pollError h b) s =
        .next (s.after h (l.modBus b fun x => { x with echo := [], erred := true, badPolls := x.badPolls + 1, tec := satAdd 0xFF x.tec 8 }))) ∧
      (3 ≤ u.badPolls + 1 → ∃ m, exec (.pollError h b) s = .next (s.after h m) ∧
        m = { l with sp := m.sp, status := m.status, hr := m.hr } ∧ (m.busOf b).master = false ∧ (m.busOf b).clash = true ∧
        (m.busOf b).idleAt = some l.now ∧ m.flagged (Reg.SP_STATUS b) Bit.SP_RANK_CLASH = true)) ∧
    (l.busHears b = false → ∀ own lost tec rec, exec (.busOff h b) s = .next (s.after h l) ∧
      exec (.errPassive h b tec rec) s = .next (s.after h l) ∧ exec (.sprueSof h b own lost) s = .next (s.after h l)) ∧
    (l.busHears b = true →
      (∃ m, exec (.busOff h b) s = .next (s.after h m) ∧ m = { l with sp := m.sp, status := m.status, hr := m.hr } ∧
        (m.busOf b).err = 2 ∧ (m.busOf b).master = false ∧ (m.busOf b).resp = none ∧ (m.busOf b).busOff = satAdd 0xFF u.busOff 1 ∧
        m.flagged (Reg.SP_STATUS b) Bit.SP_BUS_OFF = true) ∧
      (∀ tec rec, ∃ m, exec (.errPassive h b tec rec) s = .next (s.after h m) ∧
        m = { l with sp := m.sp, status := m.status, hr := m.hr } ∧
        m.busOf b = { u with err := 1, tec := min 255 tec, rec_ := min 255 rec } ∧
        m.flagged (Reg.SP_STATUS b) Bit.SP_ERR_PASSIVE = true) ∧
      (∀ lost, ∃ m, exec (.sprueSof h b false lost) s = .next (s.after h m) ∧ m = { l with sp := m.sp } ∧
        (m.busOf b).sof = some l.sofCap ∧
        (u.first = false → m.busOf b = { u with
          sof := some l.sofCap, idleAt := if u.master then u.idleAt else some l.now,
          idleLen := if u.master then u.idleLen else l.idlew b, ready := u.master && u.ready }) ∧
        (u.first = true → (m.busOf b).master = false ∧ (m.busOf b).idleAt = some l.now ∧ (m.busOf b).first = false)) ∧
      (∀ p lost, u.poll = some p → ∃ m, exec (.sprueSof h b true lost) s = .next (s.after h m) ∧
        m = { l with sp := m.sp, status := m.status, hr := m.hr } ∧ (m.busOf b).poll = none ∧
        (m.busOf b).echo = (if lost then [] else [p]) ∧ (m.busOf b).lostArb = lost ∧ (m.busOf b).sof = some l.sofCap ∧
        (u.slot = 0 → (m.busOf b).ownCap = (if lost then none else some (u.cycle, l.wns))) ∧
        (u.slot ≠ 0 → (m.busOf b).ownCap = u.ownCap) ∧
        (l.now ≤ u.slotAt + 16 → (m.busOf b).late = u.late) ∧
        (u.slotAt + 16 < l.now → (m.busOf b).late = satAdd 0xFF u.late 1 ∧ m.flagged (Reg.SP_STATUS b) Bit.SP_SLOT_LATE = true)) ∧
      (∀ t e lost, u.poll = none → u.resp = some (t, e) → ∃ m, exec (.sprueSof h b true lost) s = .next (s.after h m) ∧
        m = { l with sp := m.sp } ∧ m.busOf b = { u with
          sof := some l.sofCap, idleAt := if u.master then u.idleAt else some l.now,
          idleLen := if u.master then u.idleLen else l.idlew b, ready := u.master && u.ready,
          echo := if lost then [] else [t] })) ∧
    exec (.busOffRecovery h b) s = .next (s.after h
      (if u.err = 2 then (l.modBus b fun x => { x with err := 0, tec := 0, rec_ := 0 }).startWait b else l))

/-- Frames on a Sprue bus (12 R283, R291 to R302). -/
def Obligations.FramesAreReceivedAndEchoed : Prop :=
  ∀ (s : State) (h : Hdr) (l : Lane) (b : Nat) (u : SprueBus), l = s.arrive h → l.Sound h.lane → l.alive = true → b < 2 → u = l.busOf b →
    (l.busHears b = false → ∀ id bs t, ∀ x ∈ [Instr.spruePollReceive h b id bs, .sprueResponseReceive h b id bs, .foreignFrame h b,
      .txEcho h b bs t], exec x s = .next (s.after h l)) ∧
    (l.busHears b = true → ∀ id bs x,
      (x = Instr.foreignFrame h b ∨ (x = .spruePollReceive h b id bs ∧ (0x200 ≤ id ∨ id % 32 ≠ 0)) ∨
        (x = .sprueResponseReceive h b id bs ∧ (id < 0x200 ∨ 0x400 ≤ id ∨ id % 8 ≠ 0))) →
      ∃ m, exec x s = .next (s.after h m) ∧ m = { l with sp := m.sp, status := m.status, hr := m.hr } ∧
        m.busOf b = { u.rxOk with foreign := satAdd 0xFFFF u.foreign 1 } ∧ m.flagged (Reg.SP_STATUS b) Bit.SP_FOREIGN = true) ∧
    (∀ rank bs slot mode cycle, l.busHears b = true → rank < 16 → l.frameConn b bs = none → slot = leAt bs 0 1 % 64 →
      mode = leAt bs 0 1 / 64 → cycle = leAt bs 3 1 → leAt bs 1 1 / 32 % 2 = 0 →
      (u.master = false →
        (leAt bs 1 1 / 16 % 2 = 0 ∨ leAt bs 2 1 ≠ l.nodeOf b ∨ l.busNormal b = false → ∃ m, exec (.spruePollReceive h b (32 * rank) bs) s = .next (s.after h m) ∧
          m = { l with sp := m.sp } ∧ (m.busOf b).mode = mode ∧ (m.busOf b).cycle = cycle ∧ (m.busOf b).slot = slot ∧
          (m.busOf b).mrank = rank ∧ (m.busOf b).heard = some mode ∧ (m.busOf b).heardAt = some l.now ∧ (m.busOf b).resp = u.resp) ∧
        (leAt bs 1 1 / 16 % 2 = 1 → leAt bs 2 1 = l.nodeOf b → l.busNormal b = true →
          ∃ m t e, exec (.spruePollReceive h b (32 * rank) bs) s = .next (s.after h m) ∧
            m = { l with sp := m.sp, env := m.env, status := m.status, hr := m.hr, free := m.free } ∧ (m.busOf b).mode = mode ∧
            (m.busOf b).resp = some (t, e) ∧ (m.busOf b).sent = u.sent ++ [t] ∧ t.ident = 0x200 + 8 * l.nodeOf b ∧
            (bit (l.slotWord b mode slot) 31 = false ∨ l.modeLoaded b mode = false →
              t.bytes.length = 4 ∧ m.flagged (Reg.SP_STATUS b) Bit.SP_MODE_BAD = true) ∧
            (bit (l.slotWord b mode slot) 31 = true → l.modeLoaded b mode = true → 12 ≤ t.bytes.length))) ∧
      (u.master = true → leAt bs 1 1 / 16 % 2 = 0 →
        (u.lostArb = true → ∃ m, exec (.spruePollReceive h b (32 * rank) bs) s = .next (s.after h m) ∧
          m = { l with sp := m.sp, status := m.status, hr := m.hr } ∧ (m.busOf b).master = false ∧ (m.busOf b).mode = mode ∧
          m.flagged (Reg.SP_STATUS b) Bit.SP_MASTER_YIELD = true) ∧
        (u.lostArb = false → rank < l.rankOf b → u.running = true → ∃ m, exec (.spruePollReceive h b (32 * rank) bs) s = .next (s.after h m) ∧
          m = { l with sp := m.sp } ∧ (m.busOf b).master = true ∧ (m.busOf b).ending = true ∧ (m.busOf b).yieldEnd = true ∧
          (m.busOf b).mode = u.mode) ∧
        (u.lostArb = false → l.rankOf b ≤ rank → ∃ m, exec (.spruePollReceive h b (32 * rank) bs) s = .next (s.after h m) ∧
          m = { l with sp := m.sp } ∧ (m.busOf b).master = true ∧ (m.busOf b).ending = u.ending ∧ (m.busOf b).mode = u.mode))) ∧
    (∀ rank bs, l.busHears b = true → rank < 16 → l.frameConn b bs = none → u.master = false → leAt bs 1 1 / 32 % 2 = 1 →
      leAt bs 1 1 / 16 % 2 = 0 → l.refSrc = 2 + b → u.cap = none →
      ∃ m, exec (.spruePollReceive h b (32 * rank) bs) s = .next (s.after h m) ∧
        m = { l with sp := m.sp, status := m.status, hr := m.hr } ∧ m.flagged (Reg.SP_STATUS b) Bit.SP_TIME_UNPAIRED = true) ∧
    (∀ node bs, l.busHears b = true → node < 64 →
      (l.frameConn b bs = none → u.master = false →
        exec (.sprueResponseReceive h b (0x200 + 8 * node) bs) s = .next (s.after h (l.modBus b SprueBus.rxOk))) ∧
      (l.frameConn b bs = none → u.master = true → ∃ m, exec (.sprueResponseReceive h b (0x200 + 8 * node) bs) s = .next (s.after h m) ∧
        m = { l with sp := m.sp } ∧ (m.busOf b).seenNow = u.seenNow ||| 2 ^ node ∧
        (m.busOf b).answered = (u.answered || u.target == some node) ∧
        (m.busOf b).acked = (if leAt bs 1 1 / 4 % 2 = 1 ∧ u.announced = true ∧ u.rewritten = false ∧ leAt bs 1 1 % 4 = u.pend
          then u.acked ||| 2 ^ node else u.acked)) ∧
      (∀ k f, l.frameConn b bs = some k → l.envVerdict k ((u.sof.map (·.cyc)).getD l.now) bs = some f →
        ∃ m, exec (.sprueResponseReceive h b (0x200 + 8 * node) bs) s = .next (s.after h m) ∧
          m = { l with sp := m.sp, env := m.env, status := m.status, hr := m.hr } ∧ (m.conn k).last = (l.conn k).last ∧
          (m.conn k).consec = satAdd 15 (l.conn k).consec 1 ∧ m.flagged Reg.SF_ENVSTATUS f = true) ∧
      (∀ k r n v, l.frameConn b bs = some k → l.envVerdict k ((u.sof.map (·.cyc)).getD l.now) bs = none → records 8 ((bs.take (bs.length - 16)).drop 4) = [r] →
        leAt r 0 1 = 1 → n = leAt r 1 1 % 8 → n < 6 → l.permitted k (2 ^ n) ≠ 0 → v = signed 32 (leAt r 4 4) →
        ∃ m, exec (.sprueResponseReceive h b (0x200 + 8 * node) bs) s = .next (s.after h m) ∧
          (m.conn k).last = (envelopeOf bs).seq ∧ (m.conn k).sync = true ∧ (m.conn k).fault = false ∧
          (m.conn k).wdAt = some l.now ∧ m.regs = l.regs ∧ m.cm = l.cm ∧ m.sf = l.sf ∧
          (l.isActive = true → (l.safetyOf n).ramp = false → (m.loopOf n).tgt = l.limitTgt n v) ∧
          (l.isActive = true → (l.safetyOf n).ramp = true → (m.loopOf n).tgt = (l.loopOf n).tgt) ∧
          (l.isActive = false → (m.loopOf n).tgt = (l.loopOf n).tgt ∧ (m.loopOf n).heldTgt = some (v, (envelopeOf bs).stamp)))) ∧
    (∀ bs t rest tdcv, l.busHears b = true → u.echo = t :: rest →
      (enveloped t.bytes = false ∨ bs = t.bytes → ∃ m, exec (.txEcho h b bs tdcv) s = .next (s.after h m) ∧ m = { l with sp := m.sp } ∧
        (m.busOf b).echo = [] ∧ (m.busOf b).echoCnt = satAdd 0xFF u.echoCnt 0 ∧ (m.busOf b).tdcv = tdcv % 256 ∧
        (enveloped t.bytes = true → (m.busOf b).echoRun = 0 ∧ (m.busOf b).echoLost = false)) ∧
      (enveloped t.bytes = true → bs.drop (bs.length - 16) ≠ t.bytes.drop (t.bytes.length - 16) →
        ∃ m, exec (.txEcho h b bs tdcv) s = .next (s.after h m) ∧ m = { l with sp := m.sp, status := m.status, hr := m.hr } ∧
          (m.busOf b).echo = [] ∧ (m.busOf b).echoCnt = satAdd 0xFF u.echoCnt 1 ∧ (m.busOf b).echoRun = min 2 (u.echoRun + 1) ∧
          (1 ≤ u.echoRun → (m.busOf b).echoLost = true) ∧ m.flagged (Reg.SP_STATUS b) Bit.SP_TX_ECHO = true)) ∧
    (u.resp = none → exec (.responseWithdraw h b) s = .next (s.after h l)) ∧
    (∀ t e, u.resp = some (t, e) →
      (l.now < e → exec (.responseWithdraw h b) s = .next (s.after h l)) ∧
      (e ≤ l.now → ∃ m, exec (.responseWithdraw h b) s = .next (s.after h m) ∧
        m = { l with sp := m.sp, status := m.status, hr := m.hr } ∧
        m.busOf b = { u with resp := none, late := satAdd 0xFF u.late 1 } ∧ m.flagged (Reg.SP_STATUS b) Bit.SP_SLOT_LATE = true))

/-- Mode requests, slot tables and envelope watchdogs (12 R288, R293, 13 R315). -/
def Obligations.ModesTablesAndWatchdogs : Prop :=
  ∀ (s : State) (h : Hdr) (l : Lane), l = s.arrive h → l.Sound h.lane →
    (∀ b q v u, b < 2 → l.reaches q = true → u = l.busOf b → field v 4 3 ≠ l.fld (Reg.SP_MODE b) 4 3 →
      (bit v 6 = true → u.master = true → l.modeLoaded b (field v 4 2) = false →
        ∃ m, exec (.spPendWrite h b ⟨q, v, 0xF⟩) s = .next (s.after h m) ∧
          m = { l with sys := m.sys, status := m.status, hr := m.hr } ∧ m.keyOf q = false ∧
          m.flagged (Reg.SP_STATUS b) Bit.SP_MODE_BAD = true) ∧
      (bit v 6 = true → u.master = false ∨ l.modeLoaded b (field v 4 2) = true →
        ∃ m, exec (.spPendWrite h b ⟨q, v, 0xF⟩) s = .next (s.after h m) ∧
          m = { l with sys := m.sys, regs := m.regs, sp := m.sp } ∧ m.keyOf q = false ∧ m.fld (Reg.SP_MODE b) 4 3 = field v 4 3 ∧
          (u.announced = false → m.sp = l.sp) ∧
          (u.announced = true → m.busOf b = { u with rewritten := true, acked := 0, nak := false })) ∧
      (bit v 6 = false → ∃ m, exec (.spPendWrite h b ⟨q, v, 0xF⟩) s = .next (s.after h m) ∧
        m = { l with sys := m.sys, regs := m.regs, sp := m.sp } ∧ m.keyOf q = false ∧ m.fld (Reg.SP_MODE b) 4 3 = field v 4 2 ∧
        m.busOf b = { u with announced := false, rewritten := false, acked := 0, nak := false })) ∧
    (∀ b q v md sl, b < 2 → l.reaches q = true → md = l.fld (Reg.SP_TWSEL b) 8 2 → sl = l.fld (Reg.SP_TWSEL b) 0 6 →
      (l.tableBusy b md = true → ∃ m, exec (.spTableWrite h b ⟨q, v, 0xF⟩) s = .next (s.after h m) ∧
        m = { l with sys := m.sys, status := m.status, hr := m.hr } ∧ m.keyOf q = false ∧
        m.flagged (Reg.SP_STATUS b) Bit.SP_TBL_REFUSED = true) ∧
      (l.tableBusy b md = false → ∃ m, exec (.spTableWrite h b ⟨q, v, 0xF⟩) s = .next (s.after h m) ∧
        m = { l with sys := m.sys, sp := m.sp } ∧ m.keyOf q = false ∧
        m.sp.sched = fset (fun _ => (0 : Word)) l.sp.sched (256 * b + 64 * md + sl) v ∧
        m.busOf b = { l.busOf b with loaded := (m.busOf b).loaded, bad := (m.busOf b).bad } ∧
        (m.busOf b).loaded.testBit md = m.modePasses b md ∧ (m.busOf b).bad.testBit md = (m.modeAny b md && !m.modePasses b md) ∧
        (∀ x, x < 4 → x ≠ md → (m.busOf b).loaded.testBit x = (l.busOf b).loaded.testBit x ∧
          (m.busOf b).bad.testBit x = (l.busOf b).bad.testBit x) ∧ (∀ j, j < 2 → j ≠ b → m.busOf j = l.busOf j) ∧
        (v ≠ 0 → m.slotWord b md sl = v))) ∧
    (∀ k, k < 15 → l.awake = true →
      ((l.conn k).wdAt = none ∨ l.inbound k = false ∨ l.wdog k = 0 → exec (.envWatchdog h k) s = .next (s.after h l)) ∧
      (∀ t, (l.conn k).wdAt = some t → elapsed l.now t (l.wdog k) = false → exec (.envWatchdog h k) s = .next (s.after h l)) ∧
      (∀ t, (l.conn k).wdAt = some t → l.inbound k = true → l.wdog k ≠ 0 → elapsed l.now t (l.wdog k) = true →
        ∃ m, exec (.envWatchdog h k) s = .next (s.after h m) ∧ m = { l with env := m.env, status := m.status, hr := m.hr } ∧
          m.conn k = { l.conn k with nWdog := satAdd 0xFF (l.conn k).nWdog 1, fault := true, wdAt := none, expired := true } ∧
          (∀ j, j ≠ k → m.conn j = l.conn j) ∧ m.env.lastKind = 9 ∧ m.env.lastConn = k ∧
          m.flagged Reg.SF_ENVSTATUS Bit.ENV_WATCHDOG = true ∧
          ((l.conn k).fault = false → m.flagged Reg.SF_ENVSTATUS Bit.ENV_CONN_FAULT = true)))

/-- Evaluations (09 R216 to R225, R230, R231). Log 36: the reaction of several functions at RT in one evaluation, and the M of an
evaluation that a change of the profile overtakes. -/
def Obligations.EvaluationsFindAndReact : Prop :=
  ∀ (s : State) (h : Hdr) (l : Lane) (n : Nat), l = s.arrive h → l.Sound h.lane → l.awake = true → n < 6 →
    (l.enabled n = false ∨ (l.safetyOf n).pend = none → (∀ ok, exec (.sfeEvaluation h n ok) s = .next (s.after h l)) ∧
      exec (.sfeDeadline h n) s = .next (s.after h l)) ∧
    (∀ p, (l.safetyOf n).pend = some p → l.evalTurn n p = false → ∀ ok, exec (.sfeEvaluation h n ok) s = .next (s.after h l)) ∧
    (∀ p, l.enabled n = true → (l.safetyOf n).pend = some p → l.evalTurn n p = true → 240 < l.now - p.start → p.missed = false →
      ∀ ok, ∃ m, exec (.sfeEvaluation h n ok) s = .next (s.after h m) ∧ (m.safetyOf n).pend = none ∧
        (m.safetyOf n).evalAt = some l.now ∧ (m.safetyOf n).spdLast = p.spd ∧
        m.sf.maxCyc = max l.sf.maxCyc (min 255 (l.now - p.start)) ∧ m.ln.failed = true ∧ m.ln.role = .withdrawn ∧
        (l.ln.trigAt ≠ some l.now → m.ln.code = 0x08) ∧ m.flagged Reg.SF_STATUS Bit.SF_DEADLINE = true) ∧
    (∀ (p : EvalLatch) (ok : Bool) (a : SafeAxis) (lv : Lane) (lim mNew pNew : Int) (v : Verdict) (cnt : Nat → Nat),
      l.enabled n = true → (l.safetyOf n).pend = some p → l.evalTurn n p = true → l.now - p.start ≤ 240 ∨ p.missed = true →
      a = l.safetyOf n → lv = l.asLatched n p → lim = lv.slsLim n p.prof →
      (a.m = none → mNew = lim) → (∀ x, a.m = some x → x ≤ lim → mNew = lim) →
      (∀ x, a.m = some x → lim < x → mNew = max lim (x - lv.slideStep n (lv.fld (Reg.SF_RATE n) 16 16))) →
      (a.pref = none → pNew = p.apos.toInt) →
      (∀ x, a.pref = some x → (lv.sdiDir n = 1 → pNew = max x p.apos.toInt) ∧ (lv.sdiDir n = -1 → pNew = min x p.apos.toInt) ∧
        (lv.sdiDir n = 0 → pNew = x)) →
      v = lv.verdict n p mNew pNew → (∀ f, cnt f = if v.viol.testBit f then min 15 (vget a.cnt f 0 + 1) else 0) →
      ∃ m, exec (.sfeEvaluation h n ok) s = .next (s.after h m) ∧ m.regs = l.regs ∧ m.fb = l.fb ∧ m.cv = l.cv ∧ m.tl = l.tl ∧
        (m.safetyOf n).pend = none ∧ (m.safetyOf n).m = (if p.prof = l.profNow then some mNew else a.m) ∧
        (m.safetyOf n).spdLast = p.spd ∧ (m.safetyOf n).viol = v.viol ∧
        (m.safetyOf n).inLost = (v.lost != 0) ∧ (m.safetyOf n).evalAt = some l.now ∧
        m.sf.maxCyc = max l.sf.maxCyc (min 255 (l.now - p.start)) ∧ m.sf.evals = (l.sf.evals + 1) % 256 ∧
        (∀ j, j ≠ n → m.safetyOf j = l.safetyOf j) ∧
        (a.resume = false ∨ l.isActive = false → (m.safetyOf n).pref = (if lv.sdiDir n = 0 then none else some pNew) ∧
          ∀ f, f < 3 → vget (m.safetyOf n).cnt f 0 = cnt f) ∧
        (v.viol.testBit 0 = true → m.flagged (Reg.SF_STATUSN n) Bit.SFN_SLS_VIOL = true) ∧
        (v.viol.testBit 1 = true → m.flagged (Reg.SF_STATUSN n) Bit.SFN_SLP_VIOL = true) ∧
        (v.viol.testBit 2 = true → m.flagged (Reg.SF_STATUSN n) Bit.SFN_SDI_VIOL = true) ∧
        (v.lost ≠ 0 → m.flagged (Reg.SF_STATUSN n) Bit.SFN_INPUT_LOST = true) ∧
        (lv.sfcfgBad n = true → m.flagged (Reg.SF_STATUSN n) Bit.SFN_SFCFG_BAD = true) ∧
        (l.isActive = true → ∀ f, f < 3 → v.viol.testBit f = true → lv.rtOf n f ≤ cnt f → a.told.testBit f = false →
          (∀ g, g < 3 → v.viol.testBit g = true → lv.rtOf n g ≤ cnt g → a.told.testBit g = false →
            min 2 (lv.rxOf n g) ≤ min 2 (lv.rxOf n f)) →
          (lv.rxOf n f = 0 → (l.axis n).drive = true → a.recBy = 0 → (m.safetyOf n).clampBy.testBit f = true) ∧
          (lv.rxOf n f = 1 → (l.axis n).drive = true → (m.safetyOf n).ramp = true ∨ (m.safetyOf n).safe = true) ∧
          (2 ≤ lv.rxOf n f → (m.safetyOf n).safe = true) ∧
          (lv.rxOf n f < 2 → (l.axis n).drive = false → a.ramp = false → (m.safetyOf n).recBy.testBit f = true)) ∧
        (l.isActive = false →
          (m.safetyOf n).ramp = a.ramp ∧ (m.safetyOf n).safe = a.safe ∧ (m.safetyOf n).brk = a.brk ∧
          (m.safetyOf n).clampBy = a.clampBy ∧ (ok = true → m = { l with sf := m.sf, le := m.le, status := m.status, hr := m.hr }) ∧
          (∀ f, f < 3 → v.viol.testBit f = true → vget a.cnt f 0 < lv.rtOf n f → lv.rtOf n f ≤ cnt f →
            m.flagged (Reg.SF_STATUSN n) Bit.SFN_SHADOW_VIOL = true)) ∧
        ((l.sf.evals + 1) % 256 = 0 → ok = false → m.ln.failed = true ∧ m.ln.role = .withdrawn ∧
          (l.ln.trigAt ≠ some l.now → m.ln.code = 0x08) ∧ m.flagged Reg.SF_STATUS Bit.SF_KAT_FAIL = true) ∧
        ((l.sf.evals + 1) % 256 = 0 → ok = true → m.sf.kats = (l.sf.kats + 1) % 256)) ∧
    (∀ p, l.enabled n = true → (l.safetyOf n).pend = some p →
      (p.missed = true ∨ l.now < p.start + 240 → exec (.sfeDeadline h n) s = .next (s.after h l)) ∧
      (p.missed = false → p.start + 240 ≤ l.now → ∃ m, exec (.sfeDeadline h n) s = .next (s.after h m) ∧
        m.sf = (l.modSafety n fun x => { x with pend := some { p with missed := true } }).sf ∧ m.die = l.die ∧ m.ln.failed = true ∧
        m.ln.role = .withdrawn ∧ (l.ln.trigAt ≠ some l.now → m.ln.code = 0x08 ∧ m.ln.detail = n) ∧
        m.flagged Reg.SF_STATUS Bit.SF_DEADLINE = true)) ∧
    (∀ r t, l.pw.runAt = some r → t = max ((l.safetyOf n).evalAt.getD r) r →
      (l.enabled n = false ∨ l.inRun = false ∨ elapsed l.now t (4 * l.per n) = false →
        exec (.sfeEvalRateTimeout h n) s = .next (s.after h l)) ∧
      (l.enabled n = true → l.inRun = true → elapsed l.now t (4 * l.per n) = true →
        ∃ m, exec (.sfeEvalRateTimeout h n) s = .next (s.after h m) ∧ m.sf = l.sf ∧ m.die = l.die ∧ m.ln.failed = true ∧
          m.ln.role = .withdrawn ∧ (l.ln.trigAt ≠ some l.now → m.ln.code = 0x08 ∧ m.ln.detail = n) ∧
          m.flagged Reg.SF_STATUS Bit.SF_DEADLINE = true)) ∧
    (l.pw.runAt = none → exec (.sfeEvalRateTimeout h n) s = .next (s.after h l))

/-- Profiles, RESUME and brakes (09 R218, R227 to R229). Log 15: how far ahead the words of a ramp period are formed. Log 8: the
rounding of its high-time. -/
def Obligations.ProfilesResumesAndBrakes : Prop :=
  ∀ (s : State) (h : Hdr) (l : Lane), l = s.arrive h → l.Sound h.lane →
    (∀ q v, l.reaches q = true → l.keyOf q = true → field v 0 2 ≠ l.fld Reg.SF_CTRL 0 2 →
      ∃ m, exec (.sfProfWrite h ⟨q, v, 0xF⟩) s = .next (s.after h m) ∧ m.keyOf q = false ∧
        m = { l with sys := m.sys, regs := m.regs, sf := m.sf, le := m.le, status := m.status, hr := m.hr } ∧
        m.fld Reg.SF_CTRL 0 2 = field v 0 2 ∧
        m.sf.prof = (if l.limp then 3 else field v 0 2) ∧
        (l.sf.prof ≠ (if l.limp then 3 else field v 0 2) → m.flagged Reg.SF_STATUS Bit.SF_PROF_CHANGED = true)) ∧
    (∀ q v, l.reaches q = true → l.keyOf q = true → field v 0 6 ≠ 0 →
      ∃ m, exec (.sfResume h ⟨q, v, 0xF⟩) s = .next (s.after h m) ∧ m.keyOf q = false ∧
        m = { l with sys := m.sys, regs := m.regs, sf := m.sf } ∧
        ∀ n, n < 6 →
          (bit v n = false ∨ l.enabled n = false → m.safetyOf n = l.safetyOf n) ∧
          (bit v n = true → l.enabled n = true → m.safetyOf n = { l.safetyOf n with resume := true })) ∧
    (∀ n a, n < 6 → l.awake = true → a = l.safetyOf n →
      (a.relAt = none → exec (.brakeRelease h n) s = .next (s.after h l)) ∧
      (∀ t, a.relAt = some t → exec (.brakeRelease h n) s =
        .next (s.after h (if t ≤ l.now ∧ a.brk = 0 then l.modSafety n fun x => { x with brk := 1, relAt := none } else l))) ∧
      (a.taAt = none → exec (.brakeApplyStart h n) s = .next (s.after h l) ∧ exec (.brakeRampPeriod h n) s = .next (s.after h l)) ∧
      (∀ t, a.taAt = some t →
        exec (.brakeApplyStart h n) s =
          .next (s.after h (if t ≤ l.now ∧ a.brk ≠ 2 ∧ (a.brk ≠ 0 ∨ a.relAt ≠ none) then
            l.modSafety n fun x => { x with brk := 2, relAt := none } else l)) ∧
        ∀ start lost hi, start = (if a.rampK = 0 then t else l.cycleOf (a.tA.getD 0 + 1000 * (a.rampK * a.bper))) →
          lost = (a.rampK + 1) * a.bper →
          hi = (if a.bramp = 0 ∨ 1000 * a.bramp ≤ lost then 0 else
            (rdiv ((16 * 2 ^ 32 * (a.bper * (1000 * a.bramp - lost)) : Nat) : Int) (a.bramp * l.wgain 1)).toNat) →
          (l.now + 700 < start → exec (.brakeRampPeriod h n) s = .next (s.after h l)) ∧
          (start ≤ l.now + 700 → hi ≠ 0 → ∃ m, exec (.brakeRampPeriod h n) s = .next (s.after h m) ∧
            m = { l with sf := m.sf, port := m.port } ∧ m.safetyOf n = { a with rampK := a.rampK + 1 } ∧
            m.port = ((l.sendGate (37 + n) true (16 * max start (l.now + 560))).sendGate (37 + n) false (16 * start + hi)).port) ∧
          (start ≤ l.now + 700 → l.now < start → hi = 0 → ∃ m, exec (.brakeRampPeriod h n) s = .next (s.after h m) ∧
            m = { l with sf := m.sf, port := m.port } ∧ m.safetyOf n = { a with rampLow := true } ∧
            (a.rampLow = false → m.port = (l.sendGate (37 + n) false (16 * max start (l.now + 560))).port) ∧
            (a.rampLow = true → m.port = l.port)) ∧
          (start ≤ l.now → hi = 0 → ∃ m, exec (.brakeRampPeriod h n) s = .next (s.after h m) ∧
            m = { l with sf := m.sf, port := m.port } ∧
            m.safetyOf n = { a with brk := 0, tRel := none, relAt := none, taAt := none, tA := none, rampLow := false, forQuench := false } ∧
            (l.ln.role ≠ .withdrawn → { word := safeWord (2 ^ n) 0, ts := none } ∈ m.port.c1) ∧
            (l.ln.role = .withdrawn → m.port.c1 = l.port.c1))))

/-- Doorbell services and outbound writes (14 R327 to R332, R344). -/
def Obligations.ServicesReadAndWriteHostMemory : Prop :=
  ∀ (s : State) (h : Hdr) (l : Lane), l = s.arrive h → l.Sound h.lane →
    (l.awake = true →
      (∀ ok w0 w1 w2 w3,
        (l.hr.svc = none → ok = true ∨ l.hr.img.state ≠ 1 → exec (.doorbellReadComplete h ok w0 w1 w2 w3) s = .next (s.after h l)) ∧
        (l.hr.svc = none → ok = false → l.hr.img.state = 1 →
          ∃ m, exec (.doorbellReadComplete h ok w0 w1 w2 w3) s = .next (s.after h m) ∧
            m = { l with hr := m.hr, status := m.status } ∧ m.hr.img.state = 4 ∧ m.hr.img.reason = 2 ∧
            m.hr.rdFail = satAdd 0xFF l.hr.rdFail 1 ∧ m.flagged Reg.HR_STATUS Bit.HR_IMG_FAIL = true) ∧
        (∀ v, l.hr.svc = some v → (ok = true ∧ v.left.isSome = true) ∨ v.issued + v.dbto < l.now →
          exec (.doorbellReadComplete h ok w0 w1 w2 w3) s = .next (s.after h l)) ∧
        (∀ v, l.hr.svc = some v → l.now ≤ v.issued + v.dbto →
          (ok = false → ∃ m, exec (.doorbellReadComplete h ok w0 w1 w2 w3) s = .next (s.after h m) ∧
            m = { l with hr := m.hr, env := m.env, status := m.status } ∧ m.hr.svc = none ∧ m.hr.rdFail = satAdd 0xFF l.hr.rdFail 1 ∧
            m.hr.services = (l.hr.services + b2n v.left.isSome) % 65536 ∧ m.flagged Reg.HR_STATUS Bit.HR_RDFAIL = true) ∧
          (ok = true → v.left = none → ∀ ws : Nat → Word, ws 0 = w0 → ws 1 = w1 → ws 2 = w2 → ws 3 = w3 →
            ∃ m, exec (.doorbellReadComplete h ok w0 w1 w2 w3) s = .next (s.after h m) ∧
              m = { l with hr := m.hr, env := m.env, status := m.status } ∧
              (∀ k, k < 4 → v.mask.testBit k = true → l.wordOk k (ws k) = true → (m.ring k).host = field (ws k) 0 16) ∧
              (∀ k, k < 4 → v.mask.testBit k = true → l.wordOk k (ws k) = false → (m.ring k).host = (l.ring k).host ∧
                m.flagged Reg.HR_STATUS Bit.HR_DB_BAD = true) ∧
              (∀ k, k < 4 → v.mask.testBit k = false → (m.ring k).host = (l.ring k).host) ∧
              ∀ l1 n, l1 = l.each (members v.mask 4) (fun l k => l.adoptWord k (ws k)) →
                n = (if v.mask.testBit 0 && l1.ringOn 0 && l1.ringOn 1 then l1.fetchCount v.fetchMax else 0) →
                (n = 0 → m.hr.svc = none ∧ m.hr.services = (l.hr.services + 1) % 65536) ∧
                (n ≠ 0 → m.hr.svc = some { v with issued := l.now, left := some n } ∧ m.hr.staged = l.hr.staged)))) ∧
      (∀ v, l.hr.svc = some v →
        (l.now < v.issued + v.dbto → l.hr.img.state ≠ 1 ∨ l.now < l.hr.img.issued + l.dbto →
          exec (.readDeadline h) s = .next (s.after h l)) ∧
        (v.issued + v.dbto ≤ l.now → ∃ m, exec (.readDeadline h) s = .next (s.after h m) ∧
          m = { l with hr := m.hr, env := m.env, status := m.status } ∧ m.hr.svc = none ∧
          m.hr.rdFail = satAdd 0xFF l.hr.rdFail 1 ∧ m.hr.services = (l.hr.services + b2n v.left.isSome) % 65536 ∧
          m.flagged Reg.HR_STATUS Bit.HR_RDFAIL = true)) ∧
      (l.hr.svc = none → l.hr.img.state ≠ 1 ∨ l.now < l.hr.img.issued + l.dbto →
        exec (.readDeadline h) s = .next (s.after h l)) ∧
      ((∀ v, l.hr.svc = some v → l.now < v.issued + v.dbto) →
        (l.hr.img.state = 1 → l.hr.img.issued + l.dbto ≤ l.now → ∃ m, exec (.readDeadline h) s = .next (s.after h m) ∧
          m = { l with hr := m.hr, status := m.status } ∧ m.hr.img.state = 4 ∧ m.hr.img.reason = 2 ∧
          m.hr.rdFail = satAdd 0xFF l.hr.rdFail 1 ∧ m.flagged Reg.HR_STATUS Bit.HR_IMG_FAIL = true)) ∧
      (l.canIssue = false ∨ l.hr.staged = [] → exec (.outboundWrite h) s = .next (s.after h l)) ∧
      (∀ d r, l.canIssue = true → r = l.ring d.ring → d.ring < 4 →
        l.hr.staged.find? (fun d => l.ringOn d.ring && decide (((l.ring d.ring).dev + 65536 - (l.ring d.ring).host) % 65536 < l.ringN d.ring)) = some d →
        ∃ m, exec (.outboundWrite h) s = .next (s.after h m) ∧ m = { l with hr := m.hr, env := m.env } ∧
          m.hr.sent = l.hr.sent ++ [.desc d.ring (r.dev % l.ringN d.ring) d.bytes] ∧ (m.ring d.ring).dev = (r.dev + 1) % 65536 ∧
          (∀ k, k ≠ d.ring → m.ring k = l.ring k) ∧ m.hr.uncovered = some (l.hr.uncovered.getD l.now) ∧
          (l.hr.evtQueue = [] → m.hr.staged = l.hr.staged.erase d)) ∧
      (∀ t, l.hr.uncovered = none ∨ (l.hr.uncovered = some t ∧ (l.now < t + 500 ∨ l.canIssue = false)) →
        exec (.indexBlockTimer h) s = .next (s.after h l)) ∧
      (∀ t, l.hr.uncovered = some t → t + 500 ≤ l.now → l.canIssue = true →
        ∃ m more, exec (.indexBlockTimer h) s = .next (s.after h m) ∧ m = { l with hr := m.hr } ∧
          m.hr.sent = l.hr.sent ++ .index l.indexBlock :: more ∧ m.hr.uncovered = none ∧ m.hr.indexNews = 0 ∧
          m.hr.ixCount = (l.hr.ixCount + 1) % 2 ^ 32)) ∧
    (∀ q v old, l.reaches q = true → l.keyOf q = true → old = l.reg Reg.HR_CTRL → field v 0 4 ≠ field old 0 4 →
      ((∃ k, k < 4 ∧ bit v k = true ∧ bit old k = false ∧ l.ringReady k v = false) →
        ∃ m, exec (.hrRingEnable h ⟨q, v, 0xF⟩) s = .next (s.after h m) ∧ m = { l with sys := m.sys, status := m.status, hr := m.hr } ∧
          m.keyOf q = false ∧ m.sys.refReason = 4 ∧ m.sys.refOff = Reg.HR_CTRL ∧ (∀ k, m.ring k = l.ring k)) ∧
      ((∀ k, k < 4 → bit v k = true → bit old k = false → l.ringReady k v = true) →
        ∃ m, exec (.hrRingEnable h ⟨q, v, 0xF⟩) s = .next (s.after h m) ∧
          m = { l with sys := m.sys, regs := m.regs, hr := m.hr, env := m.env } ∧ m.keyOf q = false ∧
          m.fld Reg.HR_CTRL 0 4 = field v 0 4 ∧
          ∀ k, k < 4 → (bit v k = true → bit old k = false → (m.ring k).dev = 0 ∧ (m.ring k).host = 0) ∧
            (bit v k = false ∨ bit old k = true → m.ring k = l.ring k)))

/-- CMD descriptors (14 R328 to R339). -/
def Obligations.DescriptorsAreCheckedAndAnswered : Prop :=
  ∀ (s : State) (h : Hdr) (l : Lane) (bs : List Byte) (k idx tag : Nat), l = s.arrive h → l.Sound h.lane → l.ringOn 1 = true →
    k = l.ringConn 0 → idx = (l.ring 0).dev → tag = leAt bs 2 2 →
    (∀ (x : Instr) (row : Nat), (x, row) ∈ [(Instr.nop h bs, 0), (.setpoint h bs, 1), (.mode h bs, 2), (.arm h bs, 3), (.shakeout h bs, 4),
        (.time h bs, 5), (.abort h bs, 6), (.lane h bs, 7), (.badDesc h bs, 8)] →
      (bs.length ≠ 64 ∨ l.awake = false ∨ l.hr.svc = none ∨ descRow bs ≠ row → exec x s = .next (s.after h l)) ∧
      (∀ v, l.hr.svc = some v → v.left = none ∨ v.left = some 0 ∨ v.issued + v.dbto < l.now →
        exec x s = .next (s.after h l)) ∧
      (∀ n, l.lands row (n + 1) bs → ∃ m, exec x s = .next (s.after h m) ∧ (m.ring 0).dev = (idx + 1) % 65536 ∧
        ∃ v, m.hr.svc = some v ∧ v.left = some (n + 1)) ∧
      (l.lands row 0 bs → ∃ m, exec x s = .next (s.after h m) ∧ m.hr.svc = none ∧
        m.hr.services = (l.hr.services + 1) % 65536) ∧
      (∀ n f, l.lands row (n + 1) bs → l.envVerdict k l.now bs = some f → ∃ m, exec x s = .next (s.after h m) ∧
        m = { l with hr := m.hr, env := m.env, status := m.status } ∧ m.answers idx 0 3 f [])) ∧
    (∀ n, l.envVerdict k l.now bs = none →
      (l.lands 0 (n + 1) bs → ∃ m, exec (.nop h bs) s = .next (s.after h m) ∧
        m = { l with hr := m.hr, env := m.env, status := m.status, ln := { l.ln with sent := m.ln.sent, seqOut := m.ln.seqOut } } ∧ m.answers idx tag 0 0 [] ∧
        m.hr.reserved = l.hr.reserved) ∧
      (∀ mask, l.lands 1 (n + 1) bs → mask = l.permitted k (leAt bs 4 1 % 64) →
        ∃ m, exec (.setpoint h bs) s = .next (s.after h m) ∧ m.regs = l.regs ∧ m.cm = l.cm ∧ m.sf = l.sf ∧
          (l.isActive = true → (∀ j, j < 6 → mask.testBit j = true → (l.safetyOf j).ramp = false) →
            m.answers idx tag 0 0 [mask, leAt bs 4 1 % 64 - mask]) ∧
          (l.isActive = false → m.answers idx tag 1 0 [mask, leAt bs 4 1 % 64 - mask]) ∧
          ∀ j v, j < 6 → v = signed 32 (leAt bs (8 + 4 * j) 4) →
            (mask.testBit j = false → m.loopOf j = l.loopOf j) ∧
            (mask.testBit j = true → (leAt bs 5 1).testBit j = false → l.isActive = true → (l.safetyOf j).ramp = false →
              (m.loopOf j).tgt = l.limitTgt j v) ∧
            (mask.testBit j = true → (leAt bs 5 1).testBit j = true → l.isActive = true → (l.safetyOf j).ramp = false →
              (m.loopOf j).psp = l.limitPsp j true v) ∧
            (mask.testBit j = true → l.isActive = true → (l.safetyOf j).ramp = true → m.loopOf j = l.loopOf j) ∧
            (mask.testBit j = true → (leAt bs 5 1).testBit j = false → l.isActive = false →
              m.loopOf j = { l.loopOf j with heldTgt := some (v, (envelopeOf bs).stamp) })) ∧
      (l.lands 2 (n + 1) bs → l.isActive = false → leAt bs 4 1 % 64 ≠ 0 ∨ leAt bs 5 1 % 64 ≠ 0 ∨ leAt bs 6 1 % 64 ≠ 0 ∨
          (leAt bs 7 1).testBit 7 = true → ∃ m, exec (.mode h bs) s = .next (s.after h m) ∧ m.cm = l.cm ∧ m.sf = l.sf ∧ m.le = l.le ∧
        m.answers idx tag 1 0 [0, 0, 0, 0]) ∧
      (l.lands 2 (n + 1) bs → l.isActive = true → ∃ m, exec (.mode h bs) s = .next (s.after h m) ∧
        (leAt bs 4 1 % 64 = 0 → m.answers idx tag 0 0 [0, 0, 0, 0]) ∧
        (m.answers idx tag 0 0 [0, 0, 0, 0] ∨ ∃ p, p ∈ m.hr.pendOps ∧ p.tag = tag ∧ p.cmdIdx = idx ∧ p.ctype = 2) ∧
        ((leAt bs 7 1).testBit 7 = true → m.fld Reg.SF_CTRL 0 2 = leAt bs 7 1 % 4) ∧
        (∀ j, j < 6 → (leAt bs 6 1).testBit j = true → l.carries k j = true → l.enabled j = true →
          (l.safetyOf j).ramp = true ∨ (l.safetyOf j).safe = true → (m.safetyOf j).resume = true) ∧
        (∀ j t, j < 6 → (leAt bs 5 1).testBit j = true → l.carries k j = true → l.enabled j = true → (l.axis j).drive = true →
          (l.axis j).stopAt = none → l.nextStart j (l.now + 700) = some t → (m.axis j).stopAt = some t)) ∧
      (l.lands 3 (n + 1) bs → l.isActive = false → ∃ m, exec (.arm h bs) s = .next (s.after h m) ∧ m.fb = l.fb ∧ m.answers idx tag 1 0 []) ∧
      (l.lands 3 (n + 1) bs → l.isActive = true → ∃ m refused, exec (.arm h bs) s = .next (s.after h m) ∧ m.answers idx tag 0 0 [refused] ∧
        m.cm = l.cm ∧ m.le = l.le ∧ m.sf = l.sf ∧ ∀ j, j < 6 →
          (l.permitted k (leAt bs 5 1)).testBit j = true → (l.permitted k (leAt bs 4 1)).testBit j = false →
            m.unit j = (l.setArm j .disarmed).unit j ∧ (m.unit j).cnt.arm = .disarmed) ∧
      (l.lands 3 (n + 1) bs → l.isActive = true → ∃ m, exec (.arm h bs) s = .next (s.after h m) ∧ ∀ j, j < 6 →
        (l.permitted k (leAt bs 4 1)).testBit j = true →
        ((l.permitted k (leAt bs 5 1)).testBit j = true →
          m.unit j = ((l.setArm j .disarmed).setArm j .armed).unit j ∧ (m.unit j).cnt.arm = .armed) ∧
        ((l.permitted k (leAt bs 5 1)).testBit j = false → (l.unit j).cnt.arm = .disarmed →
          m.unit j = (l.setArm j .armed).unit j ∧ (m.unit j).cnt.arm = .armed) ∧
        ((l.permitted k (leAt bs 5 1)).testBit j = false → (l.unit j).cnt.arm ≠ .disarmed →
          m.unit j = l.unit j ∧ m.flagged (Reg.FB_STATUS j) Bit.FB_ARM_REFUSED = true)) ∧
      (∀ mask, l.lands 4 (n + 1) bs → mask = leAt bs 4 3 % 2 ^ 17 &&& onDemand →
        ∃ m, exec (.shakeout h bs) s = .next (s.after h m) ∧ m.fb = l.fb ∧ m.le = l.le ∧ m.cm = l.cm ∧
          (l.ln.role = .standby ∨ l.ln.role = .active → m.ts = l.ts ∧ m.answers idx tag 2 1 [] ∧
            m.flagged Reg.TS_STATUS Bit.TS_TEST_REFUSED = true) ∧
          (l.ln.role = .spare ∨ l.ln.role = .offline ∨ l.ln.role = .withdrawn → (mask = 0 → m.ts = l.ts ∧ m.answers idx tag 0 0 []) ∧
            (mask ≠ 0 → m.ts.reqs = l.ts.reqs ++ [{ mask := mask, asked := mask, failed := 0, tag := some idx }] ∧
              ∃ p ∈ m.hr.pendOps, p.tag = tag ∧ p.cmdIdx = idx ∧ p.ctype = 4))) ∧
      (l.lands 5 (n + 1) bs → ∃ m, exec (.time h bs) s = .next (s.after h m) ∧ m.answers idx tag 0 0 [] ∧
        m = { l with hr := m.hr, env := m.env, status := m.status, tl := m.tl, ln := { l.ln with sent := m.ln.sent, seqOut := m.ln.seqOut } } ∧
        (leAt bs 4 1 % 4 = 1 → m.tl = l.acceptSlew.tl) ∧ (leAt bs 4 1 % 4 = 2 → m.tl = l.acceptStep.tl) ∧
        (leAt bs 4 1 % 4 ≠ 1 → leAt bs 4 1 % 4 ≠ 2 → m.tl = l.tl)) ∧
      (l.lands 6 (n + 1) bs →
        ((∀ p ∈ l.hr.pendOps, p.tag ≠ leAt bs 4 2) → (∀ r ∈ l.hr.recorded, r.tag ≠ leAt bs 4 2) →
          ∃ m, exec (.abort h bs) s = .next (s.after h m) ∧ m.cm = l.cm ∧ m.ts = l.ts ∧ m.answers idx tag 2 2 []) ∧
        (∀ r, (∀ p ∈ l.hr.pendOps, p.tag ≠ leAt bs 4 2) → l.hr.recorded.find? (fun r => r.tag == leAt bs 4 2) = some r →
          ∃ m, exec (.abort h bs) s = .next (s.after h m) ∧ m.cm = l.cm ∧ m.ts = l.ts ∧
            m.answers idx tag 0 0 [r.status, r.cmdIdx % 256, r.cmdIdx / 256]) ∧
        (∀ p, l.hr.pendOps.filter (fun p => p.tag == leAt bs 4 2) = [p] → p.ctype = 2 →
          ∃ m, exec (.abort h bs) s = .next (s.after h m) ∧ m.answers p.cmdIdx p.tag 4 0 [] ∧
            m.answers idx tag 0 0 [4, p.cmdIdx % 256, p.cmdIdx / 256] ∧
            m.hr.pendOps = l.hr.pendOps.filter (fun q => q.cmdIdx != p.cmdIdx) ∧
            ∀ j, j < 6 → some p.cmdIdx ∉ (m.axis j).starts)) ∧
      (l.lands 7 (n + 1) bs → (leAt bs 4 1).testBit 0 = false → (leAt bs 4 1).testBit 1 = false →
        ∃ m, exec (.lane h bs) s = .next (s.after h m) ∧
          ((∀ u, u < 8 → leAt bs (8 + u) 1 % 8 = 0) →
            m.answers idx tag 0 0 [if leAt bs 5 1 % 64 ≠ 0 ∧ l.isActive = false then 4 else 0] ∧
            (∀ j, j < 6 → l.isActive = true → (l.permitted k (leAt bs 5 1 % 64)).testBit j = true → (m.loopOf j).zero = true) ∧
            (l.isActive = false → m.le = l.le)) ∧
          (∃ r, m.answers idx tag 0 0 [r]) ∧ (∀ u, u < 8 → (leAt bs (8 + u) 1).testBit 0 = true → (m.unit u).cntFault = false) ∧
          m.die = l.die ∧ m.port.c4 = (if (leAt bs 4 1).testBit 2 = false ∧ (leAt bs 4 1).testBit 3 = false then l.port.c4
            else l.port.c4 ++ cfgWords fclrIndex (BitVec.ofNat 32 (b2n ((leAt bs 4 1).testBit 3) + 2 * b2n ((leAt bs 4 1).testBit 2))))) ∧
      (l.lands 8 (n + 1) bs → ∃ m, exec (.badDesc h bs) s = .next (s.after h m) ∧
        m = { l with hr := m.hr, env := m.env, status := m.status, ln := { l.ln with sent := m.ln.sent, seqOut := m.ln.seqOut } } ∧
        m.answers idx tag 5 (descFault bs) []))

/-- The endpoint and its vectors (14 R320, R322, R342, R343). -/
def Obligations.EndpointsResetAndVectorsFire : Prop :=
  ∀ (s : State) (h : Hdr) (l : Lane), l = s.arrive h → l.Sound h.lane → l.alive = true →
    (∀ kind, kind < 4 → ∃ m, exec (.endpointReset h kind) s = .next (s.after h m) ∧
      m = { l with regs := m.regs, status := m.status, sys := { l.sys with keyHost := false }, hr := m.hr } ∧
      m.hr = { initRings with evtQueue := l.hr.evtQueue, evtDropped := l.hr.evtDropped, sent := l.hr.sent, viewFlag := l.hr.viewFlag, dlActive := l.hr.dlActive && kind == 2 } ∧
      (∀ off, 0x7000 ≤ off → off < 0x7800 → m.reg off = regReset off) ∧
      (∀ off, off < 0x7000 ∨ 0x7800 ≤ off → m.reg off = l.reg off) ∧ m.stat Reg.HR_STATUS = initStatus ∧
      (∀ off, (m.stat off).hostTok = none) ∧ (∀ off, off ≠ Reg.HR_STATUS → (m.stat off).flags = (l.stat off).flags)) ∧
    exec (.dlActiveEntry h) s = .next (s.after h { l with hr := { l.hr with dlActive := true } }) ∧
    (∀ mse bme en d3 code, code < 6 →
      (l.hr.dlActive = true → exec (.pcieConfigWrite h mse bme en d3 code) s =
        .next (s.after h { l with hr := { l.hr with mse := mse, bme := bme, msixEn := en, d3hot := d3, mrrs := 128 * 2 ^ code } })) ∧
      (l.hr.dlActive = false → exec (.pcieConfigWrite h mse bme en d3 code) s = .next (s.after h l))) ∧
    (∀ v, v < 16 →
      (l.hr.msixLate.getLsbD v = false ∨ l.moderated v = true → exec (.msixModerationExpiry h v) s = .next (s.after h l)) ∧
      (l.hr.msixLate.getLsbD v = true → l.moderated v = false → ∃ m, exec (.msixModerationExpiry h v) s = .next (s.after h m) ∧
        m = { l with hr := m.hr } ∧ m.hr.msixLate.getLsbD v = false ∧
        (l.hr.msixEn = true → l.canIssue = true → l.vecMasked v = false →
          m.hr.sent = l.hr.sent ++ [.msix v (l.reg (0x7404 + 0x10 * v)) (l.reg (0x7400 + 0x10 * v)) (l.reg (0x7408 + 0x10 * v))] ∧
          vget m.hr.msixLast v none = some l.now) ∧
        (l.hr.msixEn = true → l.canIssue = true → l.vecMasked v = true → m.hr.sent = l.hr.sent ∧ m.hr.msixPend.getLsbD v = true) ∧
        (l.hr.msixEn = false ∨ l.canIssue = false → m.hr.sent = l.hr.sent ∧ m.hr.msixPend = l.hr.msixPend)))

/-- Beyten images (14 R344, 15 R357 to R359). Log 22: one command carries the whole image. -/
def Obligations.ImagesAreCheckedWholeThenApplied : Prop :=
  ∀ (s : State) (h : Hdr) (l : Lane), l = s.arrive h → l.Sound h.lane →
    (∀ q, l.reaches q = true → l.keyOf q = true →
      (l.loadOk = true → ∃ m, exec (.imageLoad h q) s = .next (s.after h m) ∧ m = { l with sys := m.sys, regs := m.regs, hr := m.hr } ∧
        m.keyOf q = false ∧ m.hr.img = { state := 1, reason := 0, fetched := 0, issued := l.now, checked := [] } ∧
        (∀ off, off ≠ Reg.HR_IMGCMD → m.reg off = l.reg off) ∧
        m.hr.sent = (l.readReq (l.addr64 Reg.HR_IMG_LO Reg.HR_IMG_HI) (min 512 (l.fld Reg.HR_IMG_LEN 0 19))).hr.sent ∧
        (l.canIssue = true → 512 ≤ l.hr.mrrs → l.fld Reg.HR_IMG_LEN 0 19 ≠ 0 →
          m.hr.sent = l.hr.sent ++ [.read (l.addr64 Reg.HR_IMG_LO Reg.HR_IMG_HI) (min 512 (l.fld Reg.HR_IMG_LEN 0 19))])) ∧
      (l.loadOk = false → ∃ m, exec (.imageLoad h q) s = .next (s.after h m) ∧ m = { l with sys := m.sys, status := m.status, hr := m.hr } ∧
        m.keyOf q = false ∧ m.sys.refReason = 4 ∧ m.sys.refOff = Reg.HR_IMGCMD ∧ m.hr.img = l.hr.img)) ∧
    (l.awake = true →
      (∀ ws, l.hr.img.state ≠ 1 ∨ 4 * ws.length ≠ l.fld Reg.HR_IMG_LEN 0 19 →
        exec (.imageFetchComplete h ws) s = .next (s.after h l)) ∧
      (∀ ws l1, l.hr.img.state = 1 → 4 * ws.length = l.fld Reg.HR_IMG_LEN 0 19 →
        l1 = ((l.imageReads (4 * ws.length)).modIg fun g => g.stageImage (imageBytes ws)).modHr
          (fun r => { r with img := { r.img with fetched := 4 * ws.length } }) →
        (l1.imageErr (imageBytes ws) = none → ∃ m, exec (.imageFetchComplete h ws) s = .next (s.after h m) ∧
          m = { l with hr := m.hr, ig := l1.ig } ∧
          m.hr.img.state = 2 ∧ m.hr.img.checked = ws ∧ m.hr.img.fetched = 4 * ws.length) ∧
        (∀ e, l1.imageErr (imageBytes ws) = some e → ∃ m, exec (.imageFetchComplete h ws) s = .next (s.after h m) ∧
          m = { l with hr := m.hr, ig := l1.ig, pw := { l.pw with errCause := e.cause, errSection := e.sect, errByte := e.byte }, status := m.status } ∧
          m.hr.img.state = 4 ∧ m.hr.img.reason = 3 ∧ m.flagged Reg.HR_STATUS Bit.HR_IMG_FAIL = true)) ∧
      (l.hr.img.state ≠ 2 → exec (.imageApplyComplete h) s = .next (s.after h l)) ∧
      (∀ l1, l.hr.img.state = 2 →
        l1 = (imageItems (sectionsOf (imageBytes l.hr.img.checked)).1).foldl (fun l x => (l.applyItem x.2.2).2) l →
        ∃ m, exec (.imageApplyComplete h) s = .next (s.after h m) ∧ m.regs = l1.regs ∧ m.le.banks = l1.le.banks ∧
          (l1.pw.state ≠ .setup ∨ l1.ts.fails = [] → m.tl = l1.tl) ∧ m.sp = l1.sp ∧ m.hr.img.state = 3 ∧ m.hr.img.checked = [] ∧ m.pw.imgId = wordAt (imageBytes l.hr.img.checked) 12 ∧
          m.flagged Reg.HR_STATUS Bit.HR_IMG_DONE = true ∧ (l1.pw.state = .setup → m.pw.state = .run ∧ m.pw.runAt = some l1.now) ∧
          (l1.pw.state ≠ .setup → m.pw.state = l1.pw.state)))

/-- The empty queue (log 1: DESIGN CHOICE). -/
def Obligations.EmptyQueueIdles : Prop := ∀ s : State, s.pending = [] → step s = .next s

/-- One step is exec of the front command on the rest. -/
def Obligations.StepRunsTheFrontCommand : Prop :=
  ∀ (c : Instr) (s : State), step { s with pending := c :: s.pending } = exec c s

/-- The state after reset. Logs 9 and 23: what the spec leaves open. -/
def Obligations.ResetLeavesEachLane : Prop :=
  State.reset.Sound ∧ State.reset.Apart ∧ State.reset.pending = [] ∧ ∀ (k : LaneId) (l : Lane), l = State.reset.lane k →
    (∀ off, l.reg off = regReset off) ∧ (∀ off, l.stat off = initStatus) ∧ l.sys.keyHost = false ∧ l.sys.keyInt = false ∧
      l.unlocked = false ∧ l.pw.state = .setup ∧ l.pw.start = 0 ∧ l.ln.role = .offline ∧ l.ln.line = .idle ∧ l.ln.failed = false ∧
      l.die.token = false ∧ (∀ g, g < 36 → (l.switch g).out = false ∧ (l.switch g).shadow = false) ∧ l.die.chopOut = false ∧
      (∀ n, n < 6 → vget l.die.brlOut n false = false) ∧ (∀ n, n < 6 → (l.axis n).drive = false) ∧
      (∀ r, r < 4 → l.ringOn r = false ∧ l.ring r = initRing) ∧ l.ig.mem = []

/-- Soundness is an invariant of every step. -/
def Obligations.StepKeepsSound : Prop := ∀ s t : State, s.Sound → step s = .next t → t.Sound

/-- The shoot-through interlock holds in every step (07 R165, R166, R186). -/
def Obligations.NoHalfBridgeShootsThrough : Prop := ∀ s t : State, s.Apart → step s = .next t → t.Apart

/-- What precedes a command keeps soundness (log 2, log 3). -/
def Obligations.ArrivalKeepsSound : Prop :=
  ∀ (s : State) (h : Hdr), s.Sound → (s.arrive h).Sound h.lane ∧ (s.arrive h).now = (s.lane h.lane).now + h.dt

/-- Isolation of the lanes: they share no state (01 R16 to R18). -/
def Obligations.CommandsStayInTheirLane : Prop :=
  ∀ (c : Instr) (s t s' : State) (k : LaneId), k = c.hdr.lane → s.lane k = t.lane k → s.wasLane k = t.wasLane k → exec c s = .next s' →
    (∀ j, j ≠ k → s'.lane j = s.lane j ∧ s'.wasLane j = s.wasLane j) ∧ s'.pending = s.pending ∧
      ∃ t', exec c t = .next t' ∧ t'.lane k = s'.lane k ∧ t'.wasLane k = s'.wasLane k ∧
        (∀ j, j ≠ k → t'.lane j = t.lane j ∧ t'.wasLane j = t.wasLane j) ∧ t'.pending = t.pending

/-- Every command runs. Log 25: a command that names no unit. -/
def Obligations.WellFormedCommandsRun : Prop :=
  ∀ (c : Instr) (s : State), (∃ t, exec c s = .next t) ∧ (c.wf = false → exec c s = .next (s.after c.hdr (s.arrive c.hdr)))

/-- Time between commands (02 R44, R46, R48; log 3). -/
def Obligations.TimePassesCycleByCycle : Prop :=
  (∀ (l : Lane) (a b : Nat), l.tick (a + b) = (l.tick a).tick b) ∧
    ∀ (s : State) (h : Hdr) (l m : Lane), l = s.lane h.lane → m = s.arrive h → l.pw.resetAt = none →
      (l.alive = true → m.now = l.now + h.dt ∧ m.fb = l.fb ∧ m.regs = l.regs ∧
        (l.tl.slewEnd ≤ l.now → m.tl.wclk =
          (l.tl.wclk + h.dt * (2 ^ 34 + clampAbs 3435973 (l.sreg Reg.TL_WRATE)).toNat) % (2 ^ 48 * 1000000000 * 2 ^ 32)) ∧
        (∀ n, n < 8 → (l.ptOf n).valid = false ∨ (l.ptOf n).rate = 0 → m.ptOf n = l.ptOf n) ∧
        (l.ts.cell = none → (∀ n, n < 6 → (l.axis n).drive = false) →
          m = { l with now := l.now + h.dt, tl := m.tl, port := m.port, status := m.status, hr := m.hr, cm := m.cm })) ∧
      (l.alive = false → m = { l with now := l.now + h.dt })

/-- The debug latch and the comparison outlive everything but a power cycle (10 R251, R252). -/
def Obligations.OnlyPowerOnLocksDebugAgain : Prop :=
  ∀ (c : Instr) (s t : State) (k : LaneId), (∀ h mirror, c ≠ .powerOn h mirror) → exec c s = .next t →
    ((s.lane k).unlocked = true → (t.lane k).unlocked = true) ∧ ((s.lane k).ig.compareOff = true → (t.lane k).ig.compareOff = true)

/-- A dark lane (15 R349, R351, Table 15.9). -/
def Obligations.UnpoweredLanesStayDark : Prop :=
  ∀ (c : Instr) (s : State) (l : Lane), l = s.lane c.hdr.lane → l.pw.state = .unpowered → l.pw.resetAt = none →
    (∀ h mirror, c ≠ .powerOn h mirror) → exec c s = .next (s.setLane c.hdr.lane (s.start c.hdr) { l with now := l.now + c.hdr.dt })
end

