-- ==== Sys2Proof/Laws/State.lean ====
section
/-! SUPPORT. Small laws of the state: what sparse tables, vectors and every update of a lane read back, so that no later proof unfolds
them. -/

namespace Sys2Proof.Machine

/-! Sparse tables -/

theorem fget_below {V : Type} [DecidableEq V] (d : Nat → V) :
    ∀ (t : Table V) (lo k : Nat), fwfFrom d lo t = true → k < lo → fget d t k = d k
  | [], _, _, _, _ => rfl
  | (k', v) :: t, lo, k, h, hk => by
    simp [fwfFrom] at h
    have : k ≠ k' := by omega
    have : k < k' := by omega
    simp [fget, *]

/-- A table entry reads back as written. -/
theorem fget_fset_self {V : Type} [DecidableEq V] (d : Nat → V) :
    ∀ (t : Table V) (lo k : Nat) (v : V), fwfFrom d lo t = true → fget d (fset d t k v) k = v
  | [], lo, k, v, _ => by by_cases hv : v = d k <;> simp [fset, fget, hv]
  | (k', v') :: t, lo, k, v, h => by
    simp [fwfFrom] at h
    by_cases h1 : k < k'
    · by_cases hv : v = d k
      · have : k ≠ k' := by omega
        simp [fset, fget, h1, hv, this]
      · simp [fset, fget, h1, hv]
    · by_cases h2 : k = k'
      · subst h2
        by_cases hv : v = d k
        · simp [fset, hv, fget_below d t (k + 1) k h.2 (by omega)]
        · simp [fset, fget, hv]
      · simp [fset, fget, h1, h2, fget_fset_self d t (k' + 1) k v h.2]

/-- A table keeps every other entry. -/
theorem fget_fset_ne {V : Type} [DecidableEq V] (d : Nat → V) :
    ∀ (t : Table V) (lo k j : Nat) (v : V), fwfFrom d lo t = true → j ≠ k → fget d (fset d t k v) j = fget d t j
  | [], lo, k, j, v, _, hj => by by_cases hv : v = d k <;> simp [fset, fget, hv, hj]
  | (k', v') :: t, lo, k, j, v, h, hj => by
    simp [fwfFrom] at h
    by_cases h1 : k < k'
    · by_cases hv : v = d k
      · simp [fset, h1, hv]
      · by_cases h3 : j < k
        · have h4 : j ≠ k' := by omega
          have h5 : j < k' := by omega
          simp [fset, fget, h1, hv, hj, h3, h4, h5]
        · simp [fset, fget, h1, hv, hj, h3]
    · by_cases h2 : k = k'
      · subst h2
        by_cases hv : v = d k
        · by_cases h3 : j < k
          · simp [fset, fget, hv, hj, h3, fget_below d t (k + 1) j h.2 (by omega)]
          · simp [fset, fget, hv, hj, h3]
        · simp [fset, fget, hv, hj]
      · simp [fset, fget, h1, h2, fget_fset_ne d t (k' + 1) k j v h.2 hj]

theorem fwfFrom_weaken {V : Type} [DecidableEq V] (d : Nat → V) :
    ∀ (t : Table V) (lo lo' : Nat), fwfFrom d lo t = true → lo' ≤ lo → fwfFrom d lo' t = true
  | [], _, _, _, _ => rfl
  | (k', v) :: t, lo, lo', h, hl => by
    simp [fwfFrom] at h ⊢
    exact ⟨⟨by omega, h.1.2⟩, h.2⟩

/-- A write keeps the canonical form of a table. -/
theorem fwfFrom_fset {V : Type} [DecidableEq V] (d : Nat → V) :
    ∀ (t : Table V) (lo k : Nat) (v : V), fwfFrom d lo t = true → lo ≤ k → fwfFrom d lo (fset d t k v) = true
  | [], lo, k, v, _, hl => by by_cases hv : v = d k <;> simp [fset, fwfFrom, hv, hl]
  | (k', v') :: t, lo, k, v, h, hl => by
    have hw := h
    simp [fwfFrom] at h
    by_cases h1 : k < k'
    · by_cases hv : v = d k
      · simp [fset, h1, hv, hw]
      · simp [fset, fwfFrom, h1, hv, hl, h.1.2, h.2] <;> omega
    · by_cases h2 : k = k'
      · subst h2
        by_cases hv : v = d k
        · simp [fset, hv]
          exact fwfFrom_weaken d t (k + 1) lo h.2 (by omega)
        · simp [fset, fwfFrom, hv, hl, h.2]
      · simp [fset, fwfFrom, h1, h2, h.1.1, h.1.2]
        exact fwfFrom_fset d t (k' + 1) k v h.2 (by omega)

theorem fwf_fset {V : Type} [DecidableEq V] (d : Nat → V) (t : Table V) (k : Nat) (v : V) (h : fwf d t = true) :
    fwf d (fset d t k v) = true := fwfFrom_fset d t 0 k v h (Nat.zero_le k)

/-! Vectors -/

/-- An element reads back as changed. -/
theorem vget_vmod_self {V : Type} {n : Nat} (v : Vector V n) (i : Nat) (f : V → V) (d : V) (h : i < n) :
    vget (vmod v i f) i d = f (vget v i d) := by simp [vget, vmod, h]

/-- The other elements stay. -/
theorem vget_vmod_ne {V : Type} {n : Nat} (v : Vector V n) (i j : Nat) (f : V → V) (d : V) (h : j ≠ i) :
    vget (vmod v i f) j d = vget v j d := by
  by_cases hi : i < n <;> by_cases hj : j < n <;> simp [vget, vmod, hi, hj, Ne.symm h]

theorem unit_modUnit (l : Lane) (n : Nat) (f : Unit → Unit) (h : n < 8) : (l.modUnit n f).unit n = f (l.unit n) :=
  vget_vmod_self _ _ _ _ h

theorem axis_modAxis (l : Lane) (n : Nat) (f : CmAxis → CmAxis) (h : n < 6) : (l.modAxis n f).axis n = f (l.axis n) :=
  vget_vmod_self _ _ _ _ h

theorem loopOf_modLoop (l : Lane) (n : Nat) (f : LoopAxis → LoopAxis) (h : n < 6) : (l.modLoop n f).loopOf n = f (l.loopOf n) :=
  vget_vmod_self _ _ _ _ h

theorem safetyOf_modSafety (l : Lane) (n : Nat) (f : SafeAxis → SafeAxis) (h : n < 6) :
    (l.modSafety n f).safetyOf n = f (l.safetyOf n) := vget_vmod_self _ _ _ _ h

theorem conv_modConv (l : Lane) (m : Nat) (f : Converter → Converter) (h : m < 4) : (l.modConv m f).conv m = f (l.conv m) :=
  vget_vmod_self _ _ _ _ h

theorem ptOf_modPt (l : Lane) (n : Nat) (f : Pt → Pt) (h : n < 8) : (l.modPt n f).ptOf n = f (l.ptOf n) := vget_vmod_self _ _ _ _ h

theorem peerOf_modPeer (l : Lane) (k : Nat) (f : Peer → Peer) (h : k < 2) : (l.modPeer k f).peerOf k = f (l.peerOf k) :=
  vget_vmod_self _ _ _ _ h

theorem bus_modBus (l : Lane) (b : Nat) (f : SprueBus → SprueBus) (h : b < 2) : (l.modBus b f).busOf b = f (l.busOf b) :=
  vget_vmod_self _ _ _ _ h

theorem conn_modConn (l : Lane) (k : Nat) (f : Conn → Conn) (h : k < 15) : (l.modConn k f).conn k = f (l.conn k) :=
  vget_vmod_self _ _ _ _ h

theorem ring_modRing (l : Lane) (k : Nat) (f : Ring → Ring) (h : k < 4) : (l.modRing k f).ring k = f (l.ring k) :=
  vget_vmod_self _ _ _ _ h

/-! Lists of updates -/

/-- What every step of a fold keeps, the fold keeps. -/
theorem Lane.foldl_keeps {α β : Type} (p : Lane → α) (f : Lane → β → Lane) (hf : ∀ l x, p (f l x) = p l) :
    ∀ (xs : List β) (l : Lane), p (xs.foldl f l) = p l
  | [], _ => rfl
  | x :: xs, l => by rw [List.foldl_cons, Lane.foldl_keeps p f hf xs, hf]

theorem Lane.each_keeps {α : Type} (p : Lane → α) (f : Lane → Nat → Lane) (hf : ∀ l x, p (f l x) = p l) (xs : List Nat) (l : Lane) :
    p (l.each xs f) = p l := Lane.foldl_keeps p f hf xs l

/-! Lane updates: what each leaves as it was -/

@[simp] theorem Lane.setReg_id (l : Lane) (off : Nat) (w : Word) : (l.setReg off w).id = l.id := rfl
@[simp] theorem Lane.setReg_now (l : Lane) (off : Nat) (w : Word) : (l.setReg off w).now = l.now := rfl
@[simp] theorem Lane.setReg_relAt (l : Lane) (off : Nat) (w : Word) : (l.setReg off w).relAt = l.relAt := rfl
@[simp] theorem Lane.setReg_free (l : Lane) (off : Nat) (w : Word) : (l.setReg off w).free = l.free := rfl
@[simp] theorem Lane.setReg_status (l : Lane) (off : Nat) (w : Word) : (l.setReg off w).status = l.status := rfl
@[simp] theorem Lane.setReg_sys (l : Lane) (off : Nat) (w : Word) : (l.setReg off w).sys = l.sys := rfl
@[simp] theorem Lane.setReg_tl (l : Lane) (off : Nat) (w : Word) : (l.setReg off w).tl = l.tl := rfl
@[simp] theorem Lane.setReg_fb (l : Lane) (off : Nat) (w : Word) : (l.setReg off w).fb = l.fb := rfl
@[simp] theorem Lane.setReg_cv (l : Lane) (off : Nat) (w : Word) : (l.setReg off w).cv = l.cv := rfl
@[simp] theorem Lane.setReg_cm (l : Lane) (off : Nat) (w : Word) : (l.setReg off w).cm = l.cm := rfl
@[simp] theorem Lane.setReg_le (l : Lane) (off : Nat) (w : Word) : (l.setReg off w).le = l.le := rfl
@[simp] theorem Lane.setReg_sf (l : Lane) (off : Nat) (w : Word) : (l.setReg off w).sf = l.sf := rfl
@[simp] theorem Lane.setReg_port (l : Lane) (off : Nat) (w : Word) : (l.setReg off w).port = l.port := rfl
@[simp] theorem Lane.setReg_die (l : Lane) (off : Nat) (w : Word) : (l.setReg off w).die = l.die := rfl
@[simp] theorem Lane.setReg_ln (l : Lane) (off : Nat) (w : Word) : (l.setReg off w).ln = l.ln := rfl
@[simp] theorem Lane.setReg_ig (l : Lane) (off : Nat) (w : Word) : (l.setReg off w).ig = l.ig := rfl
@[simp] theorem Lane.setReg_ts (l : Lane) (off : Nat) (w : Word) : (l.setReg off w).ts = l.ts := rfl
@[simp] theorem Lane.setReg_sp (l : Lane) (off : Nat) (w : Word) : (l.setReg off w).sp = l.sp := rfl
@[simp] theorem Lane.setReg_env (l : Lane) (off : Nat) (w : Word) : (l.setReg off w).env = l.env := rfl
@[simp] theorem Lane.setReg_hr (l : Lane) (off : Nat) (w : Word) : (l.setReg off w).hr = l.hr := rfl
@[simp] theorem Lane.setReg_pw (l : Lane) (off : Nat) (w : Word) : (l.setReg off w).pw = l.pw := rfl
@[simp] theorem Lane.setReg_head (l : Lane) (off : Nat) (w : Word) : (l.setReg off w).head = l.head := rfl
@[simp] theorem Lane.setReg_regs (l : Lane) (off : Nat) (w : Word) : (l.setReg off w).regs = fset regReset l.regs off w := rfl

@[simp] theorem Lane.setFld_id (l : Lane) (off lo width v : Nat) : (l.setFld off lo width v).id = l.id := rfl
@[simp] theorem Lane.setFld_now (l : Lane) (off lo width v : Nat) : (l.setFld off lo width v).now = l.now := rfl
@[simp] theorem Lane.setFld_relAt (l : Lane) (off lo width v : Nat) : (l.setFld off lo width v).relAt = l.relAt := rfl
@[simp] theorem Lane.setFld_free (l : Lane) (off lo width v : Nat) : (l.setFld off lo width v).free = l.free := rfl
@[simp] theorem Lane.setFld_status (l : Lane) (off lo width v : Nat) : (l.setFld off lo width v).status = l.status := rfl
@[simp] theorem Lane.setFld_sys (l : Lane) (off lo width v : Nat) : (l.setFld off lo width v).sys = l.sys := rfl
@[simp] theorem Lane.setFld_tl (l : Lane) (off lo width v : Nat) : (l.setFld off lo width v).tl = l.tl := rfl
@[simp] theorem Lane.setFld_fb (l : Lane) (off lo width v : Nat) : (l.setFld off lo width v).fb = l.fb := rfl
@[simp] theorem Lane.setFld_cv (l : Lane) (off lo width v : Nat) : (l.setFld off lo width v).cv = l.cv := rfl
@[simp] theorem Lane.setFld_cm (l : Lane) (off lo width v : Nat) : (l.setFld off lo width v).cm = l.cm := rfl
@[simp] theorem Lane.setFld_le (l : Lane) (off lo width v : Nat) : (l.setFld off lo width v).le = l.le := rfl
@[simp] theorem Lane.setFld_sf (l : Lane) (off lo width v : Nat) : (l.setFld off lo width v).sf = l.sf := rfl
@[simp] theorem Lane.setFld_port (l : Lane) (off lo width v : Nat) : (l.setFld off lo width v).port = l.port := rfl
@[simp] theorem Lane.setFld_die (l : Lane) (off lo width v : Nat) : (l.setFld off lo width v).die = l.die := rfl
@[simp] theorem Lane.setFld_ln (l : Lane) (off lo width v : Nat) : (l.setFld off lo width v).ln = l.ln := rfl
@[simp] theorem Lane.setFld_ig (l : Lane) (off lo width v : Nat) : (l.setFld off lo width v).ig = l.ig := rfl
@[simp] theorem Lane.setFld_ts (l : Lane) (off lo width v : Nat) : (l.setFld off lo width v).ts = l.ts := rfl
@[simp] theorem Lane.setFld_sp (l : Lane) (off lo width v : Nat) : (l.setFld off lo width v).sp = l.sp := rfl
@[simp] theorem Lane.setFld_env (l : Lane) (off lo width v : Nat) : (l.setFld off lo width v).env = l.env := rfl
@[simp] theorem Lane.setFld_hr (l : Lane) (off lo width v : Nat) : (l.setFld off lo width v).hr = l.hr := rfl
@[simp] theorem Lane.setFld_pw (l : Lane) (off lo width v : Nat) : (l.setFld off lo width v).pw = l.pw := rfl
@[simp] theorem Lane.setFld_head (l : Lane) (off lo width v : Nat) : (l.setFld off lo width v).head = l.head := rfl

@[simp] theorem Lane.setStat_id (l : Lane) (off : Nat) (r : StatusReg) : (l.setStat off r).id = l.id := rfl
@[simp] theorem Lane.setStat_now (l : Lane) (off : Nat) (r : StatusReg) : (l.setStat off r).now = l.now := rfl
@[simp] theorem Lane.setStat_relAt (l : Lane) (off : Nat) (r : StatusReg) : (l.setStat off r).relAt = l.relAt := rfl
@[simp] theorem Lane.setStat_free (l : Lane) (off : Nat) (r : StatusReg) : (l.setStat off r).free = l.free := rfl
@[simp] theorem Lane.setStat_regs (l : Lane) (off : Nat) (r : StatusReg) : (l.setStat off r).regs = l.regs := rfl
@[simp] theorem Lane.setStat_sys (l : Lane) (off : Nat) (r : StatusReg) : (l.setStat off r).sys = l.sys := rfl
@[simp] theorem Lane.setStat_tl (l : Lane) (off : Nat) (r : StatusReg) : (l.setStat off r).tl = l.tl := rfl
@[simp] theorem Lane.setStat_fb (l : Lane) (off : Nat) (r : StatusReg) : (l.setStat off r).fb = l.fb := rfl
@[simp] theorem Lane.setStat_cv (l : Lane) (off : Nat) (r : StatusReg) : (l.setStat off r).cv = l.cv := rfl
@[simp] theorem Lane.setStat_cm (l : Lane) (off : Nat) (r : StatusReg) : (l.setStat off r).cm = l.cm := rfl
@[simp] theorem Lane.setStat_le (l : Lane) (off : Nat) (r : StatusReg) : (l.setStat off r).le = l.le := rfl
@[simp] theorem Lane.setStat_sf (l : Lane) (off : Nat) (r : StatusReg) : (l.setStat off r).sf = l.sf := rfl
@[simp] theorem Lane.setStat_port (l : Lane) (off : Nat) (r : StatusReg) : (l.setStat off r).port = l.port := rfl
@[simp] theorem Lane.setStat_die (l : Lane) (off : Nat) (r : StatusReg) : (l.setStat off r).die = l.die := rfl
@[simp] theorem Lane.setStat_ln (l : Lane) (off : Nat) (r : StatusReg) : (l.setStat off r).ln = l.ln := rfl
@[simp] theorem Lane.setStat_ig (l : Lane) (off : Nat) (r : StatusReg) : (l.setStat off r).ig = l.ig := rfl
@[simp] theorem Lane.setStat_ts (l : Lane) (off : Nat) (r : StatusReg) : (l.setStat off r).ts = l.ts := rfl
@[simp] theorem Lane.setStat_sp (l : Lane) (off : Nat) (r : StatusReg) : (l.setStat off r).sp = l.sp := rfl
@[simp] theorem Lane.setStat_env (l : Lane) (off : Nat) (r : StatusReg) : (l.setStat off r).env = l.env := rfl
@[simp] theorem Lane.setStat_hr (l : Lane) (off : Nat) (r : StatusReg) : (l.setStat off r).hr = l.hr := rfl
@[simp] theorem Lane.setStat_pw (l : Lane) (off : Nat) (r : StatusReg) : (l.setStat off r).pw = l.pw := rfl
@[simp] theorem Lane.setStat_head (l : Lane) (off : Nat) (r : StatusReg) : (l.setStat off r).head = l.head := rfl
@[simp] theorem Lane.setStat_status (l : Lane) (off : Nat) (r : StatusReg) : (l.setStat off r).status = fset (fun _ => initStatus) l.status off r := rfl

@[simp] theorem Lane.modSys_id (l : Lane) (f : Sys → Sys) : (l.modSys f).id = l.id := rfl
@[simp] theorem Lane.modSys_now (l : Lane) (f : Sys → Sys) : (l.modSys f).now = l.now := rfl
@[simp] theorem Lane.modSys_relAt (l : Lane) (f : Sys → Sys) : (l.modSys f).relAt = l.relAt := rfl
@[simp] theorem Lane.modSys_free (l : Lane) (f : Sys → Sys) : (l.modSys f).free = l.free := rfl
@[simp] theorem Lane.modSys_regs (l : Lane) (f : Sys → Sys) : (l.modSys f).regs = l.regs := rfl
@[simp] theorem Lane.modSys_status (l : Lane) (f : Sys → Sys) : (l.modSys f).status = l.status := rfl
@[simp] theorem Lane.modSys_tl (l : Lane) (f : Sys → Sys) : (l.modSys f).tl = l.tl := rfl
@[simp] theorem Lane.modSys_fb (l : Lane) (f : Sys → Sys) : (l.modSys f).fb = l.fb := rfl
@[simp] theorem Lane.modSys_cv (l : Lane) (f : Sys → Sys) : (l.modSys f).cv = l.cv := rfl
@[simp] theorem Lane.modSys_cm (l : Lane) (f : Sys → Sys) : (l.modSys f).cm = l.cm := rfl
@[simp] theorem Lane.modSys_le (l : Lane) (f : Sys → Sys) : (l.modSys f).le = l.le := rfl
@[simp] theorem Lane.modSys_sf (l : Lane) (f : Sys → Sys) : (l.modSys f).sf = l.sf := rfl
@[simp] theorem Lane.modSys_port (l : Lane) (f : Sys → Sys) : (l.modSys f).port = l.port := rfl
@[simp] theorem Lane.modSys_die (l : Lane) (f : Sys → Sys) : (l.modSys f).die = l.die := rfl
@[simp] theorem Lane.modSys_ln (l : Lane) (f : Sys → Sys) : (l.modSys f).ln = l.ln := rfl
@[simp] theorem Lane.modSys_ig (l : Lane) (f : Sys → Sys) : (l.modSys f).ig = l.ig := rfl
@[simp] theorem Lane.modSys_ts (l : Lane) (f : Sys → Sys) : (l.modSys f).ts = l.ts := rfl
@[simp] theorem Lane.modSys_sp (l : Lane) (f : Sys → Sys) : (l.modSys f).sp = l.sp := rfl
@[simp] theorem Lane.modSys_env (l : Lane) (f : Sys → Sys) : (l.modSys f).env = l.env := rfl
@[simp] theorem Lane.modSys_hr (l : Lane) (f : Sys → Sys) : (l.modSys f).hr = l.hr := rfl
@[simp] theorem Lane.modSys_pw (l : Lane) (f : Sys → Sys) : (l.modSys f).pw = l.pw := rfl
@[simp] theorem Lane.modSys_head (l : Lane) (f : Sys → Sys) : (l.modSys f).head = l.head := rfl
@[simp] theorem Lane.modSys_sys (l : Lane) (f : Sys → Sys) : (l.modSys f).sys = f l.sys := rfl

@[simp] theorem Lane.setKey_id (l : Lane) (q : Requester) (b : Bool) : (l.setKey q b).id = l.id := rfl
@[simp] theorem Lane.setKey_now (l : Lane) (q : Requester) (b : Bool) : (l.setKey q b).now = l.now := rfl
@[simp] theorem Lane.setKey_relAt (l : Lane) (q : Requester) (b : Bool) : (l.setKey q b).relAt = l.relAt := rfl
@[simp] theorem Lane.setKey_free (l : Lane) (q : Requester) (b : Bool) : (l.setKey q b).free = l.free := rfl
@[simp] theorem Lane.setKey_regs (l : Lane) (q : Requester) (b : Bool) : (l.setKey q b).regs = l.regs := rfl
@[simp] theorem Lane.setKey_status (l : Lane) (q : Requester) (b : Bool) : (l.setKey q b).status = l.status := rfl
@[simp] theorem Lane.setKey_tl (l : Lane) (q : Requester) (b : Bool) : (l.setKey q b).tl = l.tl := rfl
@[simp] theorem Lane.setKey_fb (l : Lane) (q : Requester) (b : Bool) : (l.setKey q b).fb = l.fb := rfl
@[simp] theorem Lane.setKey_cv (l : Lane) (q : Requester) (b : Bool) : (l.setKey q b).cv = l.cv := rfl
@[simp] theorem Lane.setKey_cm (l : Lane) (q : Requester) (b : Bool) : (l.setKey q b).cm = l.cm := rfl
@[simp] theorem Lane.setKey_le (l : Lane) (q : Requester) (b : Bool) : (l.setKey q b).le = l.le := rfl
@[simp] theorem Lane.setKey_sf (l : Lane) (q : Requester) (b : Bool) : (l.setKey q b).sf = l.sf := rfl
@[simp] theorem Lane.setKey_port (l : Lane) (q : Requester) (b : Bool) : (l.setKey q b).port = l.port := rfl
@[simp] theorem Lane.setKey_die (l : Lane) (q : Requester) (b : Bool) : (l.setKey q b).die = l.die := rfl
@[simp] theorem Lane.setKey_ln (l : Lane) (q : Requester) (b : Bool) : (l.setKey q b).ln = l.ln := rfl
@[simp] theorem Lane.setKey_ig (l : Lane) (q : Requester) (b : Bool) : (l.setKey q b).ig = l.ig := rfl
@[simp] theorem Lane.setKey_ts (l : Lane) (q : Requester) (b : Bool) : (l.setKey q b).ts = l.ts := rfl
@[simp] theorem Lane.setKey_sp (l : Lane) (q : Requester) (b : Bool) : (l.setKey q b).sp = l.sp := rfl
@[simp] theorem Lane.setKey_env (l : Lane) (q : Requester) (b : Bool) : (l.setKey q b).env = l.env := rfl
@[simp] theorem Lane.setKey_hr (l : Lane) (q : Requester) (b : Bool) : (l.setKey q b).hr = l.hr := rfl
@[simp] theorem Lane.setKey_pw (l : Lane) (q : Requester) (b : Bool) : (l.setKey q b).pw = l.pw := rfl
@[simp] theorem Lane.setKey_head (l : Lane) (q : Requester) (b : Bool) : (l.setKey q b).head = l.head := rfl

@[simp] theorem Lane.modTl_id (l : Lane) (f : Timeline → Timeline) : (l.modTl f).id = l.id := rfl
@[simp] theorem Lane.modTl_now (l : Lane) (f : Timeline → Timeline) : (l.modTl f).now = l.now := rfl
@[simp] theorem Lane.modTl_relAt (l : Lane) (f : Timeline → Timeline) : (l.modTl f).relAt = l.relAt := rfl
@[simp] theorem Lane.modTl_free (l : Lane) (f : Timeline → Timeline) : (l.modTl f).free = l.free := rfl
@[simp] theorem Lane.modTl_regs (l : Lane) (f : Timeline → Timeline) : (l.modTl f).regs = l.regs := rfl
@[simp] theorem Lane.modTl_status (l : Lane) (f : Timeline → Timeline) : (l.modTl f).status = l.status := rfl
@[simp] theorem Lane.modTl_sys (l : Lane) (f : Timeline → Timeline) : (l.modTl f).sys = l.sys := rfl
@[simp] theorem Lane.modTl_fb (l : Lane) (f : Timeline → Timeline) : (l.modTl f).fb = l.fb := rfl
@[simp] theorem Lane.modTl_cv (l : Lane) (f : Timeline → Timeline) : (l.modTl f).cv = l.cv := rfl
@[simp] theorem Lane.modTl_cm (l : Lane) (f : Timeline → Timeline) : (l.modTl f).cm = l.cm := rfl
@[simp] theorem Lane.modTl_le (l : Lane) (f : Timeline → Timeline) : (l.modTl f).le = l.le := rfl
@[simp] theorem Lane.modTl_sf (l : Lane) (f : Timeline → Timeline) : (l.modTl f).sf = l.sf := rfl
@[simp] theorem Lane.modTl_port (l : Lane) (f : Timeline → Timeline) : (l.modTl f).port = l.port := rfl
@[simp] theorem Lane.modTl_die (l : Lane) (f : Timeline → Timeline) : (l.modTl f).die = l.die := rfl
@[simp] theorem Lane.modTl_ln (l : Lane) (f : Timeline → Timeline) : (l.modTl f).ln = l.ln := rfl
@[simp] theorem Lane.modTl_ig (l : Lane) (f : Timeline → Timeline) : (l.modTl f).ig = l.ig := rfl
@[simp] theorem Lane.modTl_ts (l : Lane) (f : Timeline → Timeline) : (l.modTl f).ts = l.ts := rfl
@[simp] theorem Lane.modTl_sp (l : Lane) (f : Timeline → Timeline) : (l.modTl f).sp = l.sp := rfl
@[simp] theorem Lane.modTl_env (l : Lane) (f : Timeline → Timeline) : (l.modTl f).env = l.env := rfl
@[simp] theorem Lane.modTl_hr (l : Lane) (f : Timeline → Timeline) : (l.modTl f).hr = l.hr := rfl
@[simp] theorem Lane.modTl_pw (l : Lane) (f : Timeline → Timeline) : (l.modTl f).pw = l.pw := rfl
@[simp] theorem Lane.modTl_head (l : Lane) (f : Timeline → Timeline) : (l.modTl f).head = l.head := rfl
@[simp] theorem Lane.modTl_tl (l : Lane) (f : Timeline → Timeline) : (l.modTl f).tl = f l.tl := rfl

@[simp] theorem Lane.modPt_id (l : Lane) (n : Nat) (f : Pt → Pt) : (l.modPt n f).id = l.id := rfl
@[simp] theorem Lane.modPt_now (l : Lane) (n : Nat) (f : Pt → Pt) : (l.modPt n f).now = l.now := rfl
@[simp] theorem Lane.modPt_relAt (l : Lane) (n : Nat) (f : Pt → Pt) : (l.modPt n f).relAt = l.relAt := rfl
@[simp] theorem Lane.modPt_free (l : Lane) (n : Nat) (f : Pt → Pt) : (l.modPt n f).free = l.free := rfl
@[simp] theorem Lane.modPt_regs (l : Lane) (n : Nat) (f : Pt → Pt) : (l.modPt n f).regs = l.regs := rfl
@[simp] theorem Lane.modPt_status (l : Lane) (n : Nat) (f : Pt → Pt) : (l.modPt n f).status = l.status := rfl
@[simp] theorem Lane.modPt_sys (l : Lane) (n : Nat) (f : Pt → Pt) : (l.modPt n f).sys = l.sys := rfl
@[simp] theorem Lane.modPt_fb (l : Lane) (n : Nat) (f : Pt → Pt) : (l.modPt n f).fb = l.fb := rfl
@[simp] theorem Lane.modPt_cv (l : Lane) (n : Nat) (f : Pt → Pt) : (l.modPt n f).cv = l.cv := rfl
@[simp] theorem Lane.modPt_cm (l : Lane) (n : Nat) (f : Pt → Pt) : (l.modPt n f).cm = l.cm := rfl
@[simp] theorem Lane.modPt_le (l : Lane) (n : Nat) (f : Pt → Pt) : (l.modPt n f).le = l.le := rfl
@[simp] theorem Lane.modPt_sf (l : Lane) (n : Nat) (f : Pt → Pt) : (l.modPt n f).sf = l.sf := rfl
@[simp] theorem Lane.modPt_port (l : Lane) (n : Nat) (f : Pt → Pt) : (l.modPt n f).port = l.port := rfl
@[simp] theorem Lane.modPt_die (l : Lane) (n : Nat) (f : Pt → Pt) : (l.modPt n f).die = l.die := rfl
@[simp] theorem Lane.modPt_ln (l : Lane) (n : Nat) (f : Pt → Pt) : (l.modPt n f).ln = l.ln := rfl
@[simp] theorem Lane.modPt_ig (l : Lane) (n : Nat) (f : Pt → Pt) : (l.modPt n f).ig = l.ig := rfl
@[simp] theorem Lane.modPt_ts (l : Lane) (n : Nat) (f : Pt → Pt) : (l.modPt n f).ts = l.ts := rfl
@[simp] theorem Lane.modPt_sp (l : Lane) (n : Nat) (f : Pt → Pt) : (l.modPt n f).sp = l.sp := rfl
@[simp] theorem Lane.modPt_env (l : Lane) (n : Nat) (f : Pt → Pt) : (l.modPt n f).env = l.env := rfl
@[simp] theorem Lane.modPt_hr (l : Lane) (n : Nat) (f : Pt → Pt) : (l.modPt n f).hr = l.hr := rfl
@[simp] theorem Lane.modPt_pw (l : Lane) (n : Nat) (f : Pt → Pt) : (l.modPt n f).pw = l.pw := rfl
@[simp] theorem Lane.modPt_head (l : Lane) (n : Nat) (f : Pt → Pt) : (l.modPt n f).head = l.head := rfl
@[simp] theorem Lane.modPt_tl (l : Lane) (n : Nat) (f : Pt → Pt) : (l.modPt n f).tl = { l.tl with pt := vmod l.tl.pt n f } := rfl

@[simp] theorem Lane.setEntry_id (l : Lane) (k : Nat) (e : Entry) : (l.setEntry k e).id = l.id := rfl
@[simp] theorem Lane.setEntry_now (l : Lane) (k : Nat) (e : Entry) : (l.setEntry k e).now = l.now := rfl
@[simp] theorem Lane.setEntry_relAt (l : Lane) (k : Nat) (e : Entry) : (l.setEntry k e).relAt = l.relAt := rfl
@[simp] theorem Lane.setEntry_free (l : Lane) (k : Nat) (e : Entry) : (l.setEntry k e).free = l.free := rfl
@[simp] theorem Lane.setEntry_regs (l : Lane) (k : Nat) (e : Entry) : (l.setEntry k e).regs = l.regs := rfl
@[simp] theorem Lane.setEntry_status (l : Lane) (k : Nat) (e : Entry) : (l.setEntry k e).status = l.status := rfl
@[simp] theorem Lane.setEntry_sys (l : Lane) (k : Nat) (e : Entry) : (l.setEntry k e).sys = l.sys := rfl
@[simp] theorem Lane.setEntry_fb (l : Lane) (k : Nat) (e : Entry) : (l.setEntry k e).fb = l.fb := rfl
@[simp] theorem Lane.setEntry_cv (l : Lane) (k : Nat) (e : Entry) : (l.setEntry k e).cv = l.cv := rfl
@[simp] theorem Lane.setEntry_cm (l : Lane) (k : Nat) (e : Entry) : (l.setEntry k e).cm = l.cm := rfl
@[simp] theorem Lane.setEntry_le (l : Lane) (k : Nat) (e : Entry) : (l.setEntry k e).le = l.le := rfl
@[simp] theorem Lane.setEntry_sf (l : Lane) (k : Nat) (e : Entry) : (l.setEntry k e).sf = l.sf := rfl
@[simp] theorem Lane.setEntry_port (l : Lane) (k : Nat) (e : Entry) : (l.setEntry k e).port = l.port := rfl
@[simp] theorem Lane.setEntry_die (l : Lane) (k : Nat) (e : Entry) : (l.setEntry k e).die = l.die := rfl
@[simp] theorem Lane.setEntry_ln (l : Lane) (k : Nat) (e : Entry) : (l.setEntry k e).ln = l.ln := rfl
@[simp] theorem Lane.setEntry_ig (l : Lane) (k : Nat) (e : Entry) : (l.setEntry k e).ig = l.ig := rfl
@[simp] theorem Lane.setEntry_ts (l : Lane) (k : Nat) (e : Entry) : (l.setEntry k e).ts = l.ts := rfl
@[simp] theorem Lane.setEntry_sp (l : Lane) (k : Nat) (e : Entry) : (l.setEntry k e).sp = l.sp := rfl
@[simp] theorem Lane.setEntry_env (l : Lane) (k : Nat) (e : Entry) : (l.setEntry k e).env = l.env := rfl
@[simp] theorem Lane.setEntry_hr (l : Lane) (k : Nat) (e : Entry) : (l.setEntry k e).hr = l.hr := rfl
@[simp] theorem Lane.setEntry_pw (l : Lane) (k : Nat) (e : Entry) : (l.setEntry k e).pw = l.pw := rfl
@[simp] theorem Lane.setEntry_head (l : Lane) (k : Nat) (e : Entry) : (l.setEntry k e).head = l.head := rfl

@[simp] theorem Lane.modUnit_id (l : Lane) (n : Nat) (f : Unit → Unit) : (l.modUnit n f).id = l.id := rfl
@[simp] theorem Lane.modUnit_now (l : Lane) (n : Nat) (f : Unit → Unit) : (l.modUnit n f).now = l.now := rfl
@[simp] theorem Lane.modUnit_relAt (l : Lane) (n : Nat) (f : Unit → Unit) : (l.modUnit n f).relAt = l.relAt := rfl
@[simp] theorem Lane.modUnit_free (l : Lane) (n : Nat) (f : Unit → Unit) : (l.modUnit n f).free = l.free := rfl
@[simp] theorem Lane.modUnit_regs (l : Lane) (n : Nat) (f : Unit → Unit) : (l.modUnit n f).regs = l.regs := rfl
@[simp] theorem Lane.modUnit_status (l : Lane) (n : Nat) (f : Unit → Unit) : (l.modUnit n f).status = l.status := rfl
@[simp] theorem Lane.modUnit_sys (l : Lane) (n : Nat) (f : Unit → Unit) : (l.modUnit n f).sys = l.sys := rfl
@[simp] theorem Lane.modUnit_tl (l : Lane) (n : Nat) (f : Unit → Unit) : (l.modUnit n f).tl = l.tl := rfl
@[simp] theorem Lane.modUnit_cv (l : Lane) (n : Nat) (f : Unit → Unit) : (l.modUnit n f).cv = l.cv := rfl
@[simp] theorem Lane.modUnit_cm (l : Lane) (n : Nat) (f : Unit → Unit) : (l.modUnit n f).cm = l.cm := rfl
@[simp] theorem Lane.modUnit_le (l : Lane) (n : Nat) (f : Unit → Unit) : (l.modUnit n f).le = l.le := rfl
@[simp] theorem Lane.modUnit_sf (l : Lane) (n : Nat) (f : Unit → Unit) : (l.modUnit n f).sf = l.sf := rfl
@[simp] theorem Lane.modUnit_port (l : Lane) (n : Nat) (f : Unit → Unit) : (l.modUnit n f).port = l.port := rfl
@[simp] theorem Lane.modUnit_die (l : Lane) (n : Nat) (f : Unit → Unit) : (l.modUnit n f).die = l.die := rfl
@[simp] theorem Lane.modUnit_ln (l : Lane) (n : Nat) (f : Unit → Unit) : (l.modUnit n f).ln = l.ln := rfl
@[simp] theorem Lane.modUnit_ig (l : Lane) (n : Nat) (f : Unit → Unit) : (l.modUnit n f).ig = l.ig := rfl
@[simp] theorem Lane.modUnit_ts (l : Lane) (n : Nat) (f : Unit → Unit) : (l.modUnit n f).ts = l.ts := rfl
@[simp] theorem Lane.modUnit_sp (l : Lane) (n : Nat) (f : Unit → Unit) : (l.modUnit n f).sp = l.sp := rfl
@[simp] theorem Lane.modUnit_env (l : Lane) (n : Nat) (f : Unit → Unit) : (l.modUnit n f).env = l.env := rfl
@[simp] theorem Lane.modUnit_hr (l : Lane) (n : Nat) (f : Unit → Unit) : (l.modUnit n f).hr = l.hr := rfl
@[simp] theorem Lane.modUnit_pw (l : Lane) (n : Nat) (f : Unit → Unit) : (l.modUnit n f).pw = l.pw := rfl
@[simp] theorem Lane.modUnit_head (l : Lane) (n : Nat) (f : Unit → Unit) : (l.modUnit n f).head = l.head := rfl
@[simp] theorem Lane.modUnit_fb (l : Lane) (n : Nat) (f : Unit → Unit) : (l.modUnit n f).fb = vmod l.fb n f := rfl

@[simp] theorem Lane.modCv_id (l : Lane) (f : Conversion → Conversion) : (l.modCv f).id = l.id := rfl
@[simp] theorem Lane.modCv_now (l : Lane) (f : Conversion → Conversion) : (l.modCv f).now = l.now := rfl
@[simp] theorem Lane.modCv_relAt (l : Lane) (f : Conversion → Conversion) : (l.modCv f).relAt = l.relAt := rfl
@[simp] theorem Lane.modCv_free (l : Lane) (f : Conversion → Conversion) : (l.modCv f).free = l.free := rfl
@[simp] theorem Lane.modCv_regs (l : Lane) (f : Conversion → Conversion) : (l.modCv f).regs = l.regs := rfl
@[simp] theorem Lane.modCv_status (l : Lane) (f : Conversion → Conversion) : (l.modCv f).status = l.status := rfl
@[simp] theorem Lane.modCv_sys (l : Lane) (f : Conversion → Conversion) : (l.modCv f).sys = l.sys := rfl
@[simp] theorem Lane.modCv_tl (l : Lane) (f : Conversion → Conversion) : (l.modCv f).tl = l.tl := rfl
@[simp] theorem Lane.modCv_fb (l : Lane) (f : Conversion → Conversion) : (l.modCv f).fb = l.fb := rfl
@[simp] theorem Lane.modCv_cm (l : Lane) (f : Conversion → Conversion) : (l.modCv f).cm = l.cm := rfl
@[simp] theorem Lane.modCv_le (l : Lane) (f : Conversion → Conversion) : (l.modCv f).le = l.le := rfl
@[simp] theorem Lane.modCv_sf (l : Lane) (f : Conversion → Conversion) : (l.modCv f).sf = l.sf := rfl
@[simp] theorem Lane.modCv_port (l : Lane) (f : Conversion → Conversion) : (l.modCv f).port = l.port := rfl
@[simp] theorem Lane.modCv_die (l : Lane) (f : Conversion → Conversion) : (l.modCv f).die = l.die := rfl
@[simp] theorem Lane.modCv_ln (l : Lane) (f : Conversion → Conversion) : (l.modCv f).ln = l.ln := rfl
@[simp] theorem Lane.modCv_ig (l : Lane) (f : Conversion → Conversion) : (l.modCv f).ig = l.ig := rfl
@[simp] theorem Lane.modCv_ts (l : Lane) (f : Conversion → Conversion) : (l.modCv f).ts = l.ts := rfl
@[simp] theorem Lane.modCv_sp (l : Lane) (f : Conversion → Conversion) : (l.modCv f).sp = l.sp := rfl
@[simp] theorem Lane.modCv_env (l : Lane) (f : Conversion → Conversion) : (l.modCv f).env = l.env := rfl
@[simp] theorem Lane.modCv_hr (l : Lane) (f : Conversion → Conversion) : (l.modCv f).hr = l.hr := rfl
@[simp] theorem Lane.modCv_pw (l : Lane) (f : Conversion → Conversion) : (l.modCv f).pw = l.pw := rfl
@[simp] theorem Lane.modCv_head (l : Lane) (f : Conversion → Conversion) : (l.modCv f).head = l.head := rfl
@[simp] theorem Lane.modCv_cv (l : Lane) (f : Conversion → Conversion) : (l.modCv f).cv = f l.cv := rfl

@[simp] theorem Lane.modConv_id (l : Lane) (m : Nat) (f : Converter → Converter) : (l.modConv m f).id = l.id := rfl
@[simp] theorem Lane.modConv_now (l : Lane) (m : Nat) (f : Converter → Converter) : (l.modConv m f).now = l.now := rfl
@[simp] theorem Lane.modConv_relAt (l : Lane) (m : Nat) (f : Converter → Converter) : (l.modConv m f).relAt = l.relAt := rfl
@[simp] theorem Lane.modConv_free (l : Lane) (m : Nat) (f : Converter → Converter) : (l.modConv m f).free = l.free := rfl
@[simp] theorem Lane.modConv_regs (l : Lane) (m : Nat) (f : Converter → Converter) : (l.modConv m f).regs = l.regs := rfl
@[simp] theorem Lane.modConv_status (l : Lane) (m : Nat) (f : Converter → Converter) : (l.modConv m f).status = l.status := rfl
@[simp] theorem Lane.modConv_sys (l : Lane) (m : Nat) (f : Converter → Converter) : (l.modConv m f).sys = l.sys := rfl
@[simp] theorem Lane.modConv_tl (l : Lane) (m : Nat) (f : Converter → Converter) : (l.modConv m f).tl = l.tl := rfl
@[simp] theorem Lane.modConv_fb (l : Lane) (m : Nat) (f : Converter → Converter) : (l.modConv m f).fb = l.fb := rfl
@[simp] theorem Lane.modConv_cm (l : Lane) (m : Nat) (f : Converter → Converter) : (l.modConv m f).cm = l.cm := rfl
@[simp] theorem Lane.modConv_le (l : Lane) (m : Nat) (f : Converter → Converter) : (l.modConv m f).le = l.le := rfl
@[simp] theorem Lane.modConv_sf (l : Lane) (m : Nat) (f : Converter → Converter) : (l.modConv m f).sf = l.sf := rfl
@[simp] theorem Lane.modConv_port (l : Lane) (m : Nat) (f : Converter → Converter) : (l.modConv m f).port = l.port := rfl
@[simp] theorem Lane.modConv_die (l : Lane) (m : Nat) (f : Converter → Converter) : (l.modConv m f).die = l.die := rfl
@[simp] theorem Lane.modConv_ln (l : Lane) (m : Nat) (f : Converter → Converter) : (l.modConv m f).ln = l.ln := rfl
@[simp] theorem Lane.modConv_ig (l : Lane) (m : Nat) (f : Converter → Converter) : (l.modConv m f).ig = l.ig := rfl
@[simp] theorem Lane.modConv_ts (l : Lane) (m : Nat) (f : Converter → Converter) : (l.modConv m f).ts = l.ts := rfl
@[simp] theorem Lane.modConv_sp (l : Lane) (m : Nat) (f : Converter → Converter) : (l.modConv m f).sp = l.sp := rfl
@[simp] theorem Lane.modConv_env (l : Lane) (m : Nat) (f : Converter → Converter) : (l.modConv m f).env = l.env := rfl
@[simp] theorem Lane.modConv_hr (l : Lane) (m : Nat) (f : Converter → Converter) : (l.modConv m f).hr = l.hr := rfl
@[simp] theorem Lane.modConv_pw (l : Lane) (m : Nat) (f : Converter → Converter) : (l.modConv m f).pw = l.pw := rfl
@[simp] theorem Lane.modConv_head (l : Lane) (m : Nat) (f : Converter → Converter) : (l.modConv m f).head = l.head := rfl
@[simp] theorem Lane.modConv_cv (l : Lane) (m : Nat) (f : Converter → Converter) : (l.modConv m f).cv = { l.cv with cv := vmod l.cv.cv m f } := rfl

@[simp] theorem Lane.modAxis_id (l : Lane) (n : Nat) (f : CmAxis → CmAxis) : (l.modAxis n f).id = l.id := rfl
@[simp] theorem Lane.modAxis_now (l : Lane) (n : Nat) (f : CmAxis → CmAxis) : (l.modAxis n f).now = l.now := rfl
@[simp] theorem Lane.modAxis_relAt (l : Lane) (n : Nat) (f : CmAxis → CmAxis) : (l.modAxis n f).relAt = l.relAt := rfl
@[simp] theorem Lane.modAxis_free (l : Lane) (n : Nat) (f : CmAxis → CmAxis) : (l.modAxis n f).free = l.free := rfl
@[simp] theorem Lane.modAxis_regs (l : Lane) (n : Nat) (f : CmAxis → CmAxis) : (l.modAxis n f).regs = l.regs := rfl
@[simp] theorem Lane.modAxis_status (l : Lane) (n : Nat) (f : CmAxis → CmAxis) : (l.modAxis n f).status = l.status := rfl
@[simp] theorem Lane.modAxis_sys (l : Lane) (n : Nat) (f : CmAxis → CmAxis) : (l.modAxis n f).sys = l.sys := rfl
@[simp] theorem Lane.modAxis_tl (l : Lane) (n : Nat) (f : CmAxis → CmAxis) : (l.modAxis n f).tl = l.tl := rfl
@[simp] theorem Lane.modAxis_fb (l : Lane) (n : Nat) (f : CmAxis → CmAxis) : (l.modAxis n f).fb = l.fb := rfl
@[simp] theorem Lane.modAxis_cv (l : Lane) (n : Nat) (f : CmAxis → CmAxis) : (l.modAxis n f).cv = l.cv := rfl
@[simp] theorem Lane.modAxis_le (l : Lane) (n : Nat) (f : CmAxis → CmAxis) : (l.modAxis n f).le = l.le := rfl
@[simp] theorem Lane.modAxis_sf (l : Lane) (n : Nat) (f : CmAxis → CmAxis) : (l.modAxis n f).sf = l.sf := rfl
@[simp] theorem Lane.modAxis_port (l : Lane) (n : Nat) (f : CmAxis → CmAxis) : (l.modAxis n f).port = l.port := rfl
@[simp] theorem Lane.modAxis_die (l : Lane) (n : Nat) (f : CmAxis → CmAxis) : (l.modAxis n f).die = l.die := rfl
@[simp] theorem Lane.modAxis_ln (l : Lane) (n : Nat) (f : CmAxis → CmAxis) : (l.modAxis n f).ln = l.ln := rfl
@[simp] theorem Lane.modAxis_ig (l : Lane) (n : Nat) (f : CmAxis → CmAxis) : (l.modAxis n f).ig = l.ig := rfl
@[simp] theorem Lane.modAxis_ts (l : Lane) (n : Nat) (f : CmAxis → CmAxis) : (l.modAxis n f).ts = l.ts := rfl
@[simp] theorem Lane.modAxis_sp (l : Lane) (n : Nat) (f : CmAxis → CmAxis) : (l.modAxis n f).sp = l.sp := rfl
@[simp] theorem Lane.modAxis_env (l : Lane) (n : Nat) (f : CmAxis → CmAxis) : (l.modAxis n f).env = l.env := rfl
@[simp] theorem Lane.modAxis_hr (l : Lane) (n : Nat) (f : CmAxis → CmAxis) : (l.modAxis n f).hr = l.hr := rfl
@[simp] theorem Lane.modAxis_pw (l : Lane) (n : Nat) (f : CmAxis → CmAxis) : (l.modAxis n f).pw = l.pw := rfl
@[simp] theorem Lane.modAxis_head (l : Lane) (n : Nat) (f : CmAxis → CmAxis) : (l.modAxis n f).head = l.head := rfl
@[simp] theorem Lane.modAxis_cm (l : Lane) (n : Nat) (f : CmAxis → CmAxis) : (l.modAxis n f).cm = vmod l.cm n f := rfl

@[simp] theorem Lane.modLoop_id (l : Lane) (n : Nat) (f : LoopAxis → LoopAxis) : (l.modLoop n f).id = l.id := rfl
@[simp] theorem Lane.modLoop_now (l : Lane) (n : Nat) (f : LoopAxis → LoopAxis) : (l.modLoop n f).now = l.now := rfl
@[simp] theorem Lane.modLoop_relAt (l : Lane) (n : Nat) (f : LoopAxis → LoopAxis) : (l.modLoop n f).relAt = l.relAt := rfl
@[simp] theorem Lane.modLoop_free (l : Lane) (n : Nat) (f : LoopAxis → LoopAxis) : (l.modLoop n f).free = l.free := rfl
@[simp] theorem Lane.modLoop_regs (l : Lane) (n : Nat) (f : LoopAxis → LoopAxis) : (l.modLoop n f).regs = l.regs := rfl
@[simp] theorem Lane.modLoop_status (l : Lane) (n : Nat) (f : LoopAxis → LoopAxis) : (l.modLoop n f).status = l.status := rfl
@[simp] theorem Lane.modLoop_sys (l : Lane) (n : Nat) (f : LoopAxis → LoopAxis) : (l.modLoop n f).sys = l.sys := rfl
@[simp] theorem Lane.modLoop_tl (l : Lane) (n : Nat) (f : LoopAxis → LoopAxis) : (l.modLoop n f).tl = l.tl := rfl
@[simp] theorem Lane.modLoop_fb (l : Lane) (n : Nat) (f : LoopAxis → LoopAxis) : (l.modLoop n f).fb = l.fb := rfl
@[simp] theorem Lane.modLoop_cv (l : Lane) (n : Nat) (f : LoopAxis → LoopAxis) : (l.modLoop n f).cv = l.cv := rfl
@[simp] theorem Lane.modLoop_cm (l : Lane) (n : Nat) (f : LoopAxis → LoopAxis) : (l.modLoop n f).cm = l.cm := rfl
@[simp] theorem Lane.modLoop_sf (l : Lane) (n : Nat) (f : LoopAxis → LoopAxis) : (l.modLoop n f).sf = l.sf := rfl
@[simp] theorem Lane.modLoop_port (l : Lane) (n : Nat) (f : LoopAxis → LoopAxis) : (l.modLoop n f).port = l.port := rfl
@[simp] theorem Lane.modLoop_die (l : Lane) (n : Nat) (f : LoopAxis → LoopAxis) : (l.modLoop n f).die = l.die := rfl
@[simp] theorem Lane.modLoop_ln (l : Lane) (n : Nat) (f : LoopAxis → LoopAxis) : (l.modLoop n f).ln = l.ln := rfl
@[simp] theorem Lane.modLoop_ig (l : Lane) (n : Nat) (f : LoopAxis → LoopAxis) : (l.modLoop n f).ig = l.ig := rfl
@[simp] theorem Lane.modLoop_ts (l : Lane) (n : Nat) (f : LoopAxis → LoopAxis) : (l.modLoop n f).ts = l.ts := rfl
@[simp] theorem Lane.modLoop_sp (l : Lane) (n : Nat) (f : LoopAxis → LoopAxis) : (l.modLoop n f).sp = l.sp := rfl
@[simp] theorem Lane.modLoop_env (l : Lane) (n : Nat) (f : LoopAxis → LoopAxis) : (l.modLoop n f).env = l.env := rfl
@[simp] theorem Lane.modLoop_hr (l : Lane) (n : Nat) (f : LoopAxis → LoopAxis) : (l.modLoop n f).hr = l.hr := rfl
@[simp] theorem Lane.modLoop_pw (l : Lane) (n : Nat) (f : LoopAxis → LoopAxis) : (l.modLoop n f).pw = l.pw := rfl
@[simp] theorem Lane.modLoop_head (l : Lane) (n : Nat) (f : LoopAxis → LoopAxis) : (l.modLoop n f).head = l.head := rfl
@[simp] theorem Lane.modLoop_le (l : Lane) (n : Nat) (f : LoopAxis → LoopAxis) : (l.modLoop n f).le = { l.le with axis := vmod l.le.axis n f } := rfl

@[simp] theorem Lane.modSafety_id (l : Lane) (n : Nat) (f : SafeAxis → SafeAxis) : (l.modSafety n f).id = l.id := rfl
@[simp] theorem Lane.modSafety_now (l : Lane) (n : Nat) (f : SafeAxis → SafeAxis) : (l.modSafety n f).now = l.now := rfl
@[simp] theorem Lane.modSafety_relAt (l : Lane) (n : Nat) (f : SafeAxis → SafeAxis) : (l.modSafety n f).relAt = l.relAt := rfl
@[simp] theorem Lane.modSafety_free (l : Lane) (n : Nat) (f : SafeAxis → SafeAxis) : (l.modSafety n f).free = l.free := rfl
@[simp] theorem Lane.modSafety_regs (l : Lane) (n : Nat) (f : SafeAxis → SafeAxis) : (l.modSafety n f).regs = l.regs := rfl
@[simp] theorem Lane.modSafety_status (l : Lane) (n : Nat) (f : SafeAxis → SafeAxis) : (l.modSafety n f).status = l.status := rfl
@[simp] theorem Lane.modSafety_sys (l : Lane) (n : Nat) (f : SafeAxis → SafeAxis) : (l.modSafety n f).sys = l.sys := rfl
@[simp] theorem Lane.modSafety_tl (l : Lane) (n : Nat) (f : SafeAxis → SafeAxis) : (l.modSafety n f).tl = l.tl := rfl
@[simp] theorem Lane.modSafety_fb (l : Lane) (n : Nat) (f : SafeAxis → SafeAxis) : (l.modSafety n f).fb = l.fb := rfl
@[simp] theorem Lane.modSafety_cv (l : Lane) (n : Nat) (f : SafeAxis → SafeAxis) : (l.modSafety n f).cv = l.cv := rfl
@[simp] theorem Lane.modSafety_cm (l : Lane) (n : Nat) (f : SafeAxis → SafeAxis) : (l.modSafety n f).cm = l.cm := rfl
@[simp] theorem Lane.modSafety_le (l : Lane) (n : Nat) (f : SafeAxis → SafeAxis) : (l.modSafety n f).le = l.le := rfl
@[simp] theorem Lane.modSafety_port (l : Lane) (n : Nat) (f : SafeAxis → SafeAxis) : (l.modSafety n f).port = l.port := rfl
@[simp] theorem Lane.modSafety_die (l : Lane) (n : Nat) (f : SafeAxis → SafeAxis) : (l.modSafety n f).die = l.die := rfl
@[simp] theorem Lane.modSafety_ln (l : Lane) (n : Nat) (f : SafeAxis → SafeAxis) : (l.modSafety n f).ln = l.ln := rfl
@[simp] theorem Lane.modSafety_ig (l : Lane) (n : Nat) (f : SafeAxis → SafeAxis) : (l.modSafety n f).ig = l.ig := rfl
@[simp] theorem Lane.modSafety_ts (l : Lane) (n : Nat) (f : SafeAxis → SafeAxis) : (l.modSafety n f).ts = l.ts := rfl
@[simp] theorem Lane.modSafety_sp (l : Lane) (n : Nat) (f : SafeAxis → SafeAxis) : (l.modSafety n f).sp = l.sp := rfl
@[simp] theorem Lane.modSafety_env (l : Lane) (n : Nat) (f : SafeAxis → SafeAxis) : (l.modSafety n f).env = l.env := rfl
@[simp] theorem Lane.modSafety_hr (l : Lane) (n : Nat) (f : SafeAxis → SafeAxis) : (l.modSafety n f).hr = l.hr := rfl
@[simp] theorem Lane.modSafety_pw (l : Lane) (n : Nat) (f : SafeAxis → SafeAxis) : (l.modSafety n f).pw = l.pw := rfl
@[simp] theorem Lane.modSafety_head (l : Lane) (n : Nat) (f : SafeAxis → SafeAxis) : (l.modSafety n f).head = l.head := rfl
@[simp] theorem Lane.modSafety_sf (l : Lane) (n : Nat) (f : SafeAxis → SafeAxis) : (l.modSafety n f).sf = { l.sf with axis := vmod l.sf.axis n f } := rfl

@[simp] theorem Lane.modPort_id (l : Lane) (f : Port → Port) : (l.modPort f).id = l.id := rfl
@[simp] theorem Lane.modPort_now (l : Lane) (f : Port → Port) : (l.modPort f).now = l.now := rfl
@[simp] theorem Lane.modPort_relAt (l : Lane) (f : Port → Port) : (l.modPort f).relAt = l.relAt := rfl
@[simp] theorem Lane.modPort_free (l : Lane) (f : Port → Port) : (l.modPort f).free = l.free := rfl
@[simp] theorem Lane.modPort_regs (l : Lane) (f : Port → Port) : (l.modPort f).regs = l.regs := rfl
@[simp] theorem Lane.modPort_status (l : Lane) (f : Port → Port) : (l.modPort f).status = l.status := rfl
@[simp] theorem Lane.modPort_sys (l : Lane) (f : Port → Port) : (l.modPort f).sys = l.sys := rfl
@[simp] theorem Lane.modPort_tl (l : Lane) (f : Port → Port) : (l.modPort f).tl = l.tl := rfl
@[simp] theorem Lane.modPort_fb (l : Lane) (f : Port → Port) : (l.modPort f).fb = l.fb := rfl
@[simp] theorem Lane.modPort_cv (l : Lane) (f : Port → Port) : (l.modPort f).cv = l.cv := rfl
@[simp] theorem Lane.modPort_cm (l : Lane) (f : Port → Port) : (l.modPort f).cm = l.cm := rfl
@[simp] theorem Lane.modPort_le (l : Lane) (f : Port → Port) : (l.modPort f).le = l.le := rfl
@[simp] theorem Lane.modPort_sf (l : Lane) (f : Port → Port) : (l.modPort f).sf = l.sf := rfl
@[simp] theorem Lane.modPort_die (l : Lane) (f : Port → Port) : (l.modPort f).die = l.die := rfl
@[simp] theorem Lane.modPort_ln (l : Lane) (f : Port → Port) : (l.modPort f).ln = l.ln := rfl
@[simp] theorem Lane.modPort_ig (l : Lane) (f : Port → Port) : (l.modPort f).ig = l.ig := rfl
@[simp] theorem Lane.modPort_ts (l : Lane) (f : Port → Port) : (l.modPort f).ts = l.ts := rfl
@[simp] theorem Lane.modPort_sp (l : Lane) (f : Port → Port) : (l.modPort f).sp = l.sp := rfl
@[simp] theorem Lane.modPort_env (l : Lane) (f : Port → Port) : (l.modPort f).env = l.env := rfl
@[simp] theorem Lane.modPort_hr (l : Lane) (f : Port → Port) : (l.modPort f).hr = l.hr := rfl
@[simp] theorem Lane.modPort_pw (l : Lane) (f : Port → Port) : (l.modPort f).pw = l.pw := rfl
@[simp] theorem Lane.modPort_head (l : Lane) (f : Port → Port) : (l.modPort f).head = l.head := rfl
@[simp] theorem Lane.modPort_port (l : Lane) (f : Port → Port) : (l.modPort f).port = f l.port := rfl

@[simp] theorem Lane.sendFirst_id (l : Lane) (w : Word) : (l.sendFirst w).id = l.id := rfl
@[simp] theorem Lane.sendFirst_now (l : Lane) (w : Word) : (l.sendFirst w).now = l.now := rfl
@[simp] theorem Lane.sendFirst_relAt (l : Lane) (w : Word) : (l.sendFirst w).relAt = l.relAt := rfl
@[simp] theorem Lane.sendFirst_free (l : Lane) (w : Word) : (l.sendFirst w).free = l.free := rfl
@[simp] theorem Lane.sendFirst_regs (l : Lane) (w : Word) : (l.sendFirst w).regs = l.regs := rfl
@[simp] theorem Lane.sendFirst_status (l : Lane) (w : Word) : (l.sendFirst w).status = l.status := rfl
@[simp] theorem Lane.sendFirst_sys (l : Lane) (w : Word) : (l.sendFirst w).sys = l.sys := rfl
@[simp] theorem Lane.sendFirst_tl (l : Lane) (w : Word) : (l.sendFirst w).tl = l.tl := rfl
@[simp] theorem Lane.sendFirst_fb (l : Lane) (w : Word) : (l.sendFirst w).fb = l.fb := rfl
@[simp] theorem Lane.sendFirst_cv (l : Lane) (w : Word) : (l.sendFirst w).cv = l.cv := rfl
@[simp] theorem Lane.sendFirst_cm (l : Lane) (w : Word) : (l.sendFirst w).cm = l.cm := rfl
@[simp] theorem Lane.sendFirst_le (l : Lane) (w : Word) : (l.sendFirst w).le = l.le := rfl
@[simp] theorem Lane.sendFirst_sf (l : Lane) (w : Word) : (l.sendFirst w).sf = l.sf := rfl
@[simp] theorem Lane.sendFirst_die (l : Lane) (w : Word) : (l.sendFirst w).die = l.die := rfl
@[simp] theorem Lane.sendFirst_ln (l : Lane) (w : Word) : (l.sendFirst w).ln = l.ln := rfl
@[simp] theorem Lane.sendFirst_ig (l : Lane) (w : Word) : (l.sendFirst w).ig = l.ig := rfl
@[simp] theorem Lane.sendFirst_ts (l : Lane) (w : Word) : (l.sendFirst w).ts = l.ts := rfl
@[simp] theorem Lane.sendFirst_sp (l : Lane) (w : Word) : (l.sendFirst w).sp = l.sp := rfl
@[simp] theorem Lane.sendFirst_env (l : Lane) (w : Word) : (l.sendFirst w).env = l.env := rfl
@[simp] theorem Lane.sendFirst_hr (l : Lane) (w : Word) : (l.sendFirst w).hr = l.hr := rfl
@[simp] theorem Lane.sendFirst_pw (l : Lane) (w : Word) : (l.sendFirst w).pw = l.pw := rfl
@[simp] theorem Lane.sendFirst_head (l : Lane) (w : Word) : (l.sendFirst w).head = l.head := rfl
@[simp] theorem Lane.sendFirst_port (l : Lane) (w : Word) : (l.sendFirst w).port = { l.port with c1 := l.port.c1 ++ [{ word := w, ts := none }] } := rfl

@[simp] theorem Lane.modDie_id (l : Lane) (f : Die → Die) : (l.modDie f).id = l.id := rfl
@[simp] theorem Lane.modDie_now (l : Lane) (f : Die → Die) : (l.modDie f).now = l.now := rfl
@[simp] theorem Lane.modDie_relAt (l : Lane) (f : Die → Die) : (l.modDie f).relAt = l.relAt := rfl
@[simp] theorem Lane.modDie_free (l : Lane) (f : Die → Die) : (l.modDie f).free = l.free := rfl
@[simp] theorem Lane.modDie_regs (l : Lane) (f : Die → Die) : (l.modDie f).regs = l.regs := rfl
@[simp] theorem Lane.modDie_status (l : Lane) (f : Die → Die) : (l.modDie f).status = l.status := rfl
@[simp] theorem Lane.modDie_sys (l : Lane) (f : Die → Die) : (l.modDie f).sys = l.sys := rfl
@[simp] theorem Lane.modDie_tl (l : Lane) (f : Die → Die) : (l.modDie f).tl = l.tl := rfl
@[simp] theorem Lane.modDie_fb (l : Lane) (f : Die → Die) : (l.modDie f).fb = l.fb := rfl
@[simp] theorem Lane.modDie_cv (l : Lane) (f : Die → Die) : (l.modDie f).cv = l.cv := rfl
@[simp] theorem Lane.modDie_cm (l : Lane) (f : Die → Die) : (l.modDie f).cm = l.cm := rfl
@[simp] theorem Lane.modDie_le (l : Lane) (f : Die → Die) : (l.modDie f).le = l.le := rfl
@[simp] theorem Lane.modDie_sf (l : Lane) (f : Die → Die) : (l.modDie f).sf = l.sf := rfl
@[simp] theorem Lane.modDie_port (l : Lane) (f : Die → Die) : (l.modDie f).port = l.port := rfl
@[simp] theorem Lane.modDie_ln (l : Lane) (f : Die → Die) : (l.modDie f).ln = l.ln := rfl
@[simp] theorem Lane.modDie_ig (l : Lane) (f : Die → Die) : (l.modDie f).ig = l.ig := rfl
@[simp] theorem Lane.modDie_ts (l : Lane) (f : Die → Die) : (l.modDie f).ts = l.ts := rfl
@[simp] theorem Lane.modDie_sp (l : Lane) (f : Die → Die) : (l.modDie f).sp = l.sp := rfl
@[simp] theorem Lane.modDie_env (l : Lane) (f : Die → Die) : (l.modDie f).env = l.env := rfl
@[simp] theorem Lane.modDie_hr (l : Lane) (f : Die → Die) : (l.modDie f).hr = l.hr := rfl
@[simp] theorem Lane.modDie_pw (l : Lane) (f : Die → Die) : (l.modDie f).pw = l.pw := rfl
@[simp] theorem Lane.modDie_head (l : Lane) (f : Die → Die) : (l.modDie f).head = l.head := rfl
@[simp] theorem Lane.modDie_die (l : Lane) (f : Die → Die) : (l.modDie f).die = f l.die := rfl

@[simp] theorem Lane.modSwitch_id (l : Lane) (g : Nat) (f : Switch → Switch) : (l.modSwitch g f).id = l.id := rfl
@[simp] theorem Lane.modSwitch_now (l : Lane) (g : Nat) (f : Switch → Switch) : (l.modSwitch g f).now = l.now := rfl
@[simp] theorem Lane.modSwitch_relAt (l : Lane) (g : Nat) (f : Switch → Switch) : (l.modSwitch g f).relAt = l.relAt := rfl
@[simp] theorem Lane.modSwitch_free (l : Lane) (g : Nat) (f : Switch → Switch) : (l.modSwitch g f).free = l.free := rfl
@[simp] theorem Lane.modSwitch_regs (l : Lane) (g : Nat) (f : Switch → Switch) : (l.modSwitch g f).regs = l.regs := rfl
@[simp] theorem Lane.modSwitch_status (l : Lane) (g : Nat) (f : Switch → Switch) : (l.modSwitch g f).status = l.status := rfl
@[simp] theorem Lane.modSwitch_sys (l : Lane) (g : Nat) (f : Switch → Switch) : (l.modSwitch g f).sys = l.sys := rfl
@[simp] theorem Lane.modSwitch_tl (l : Lane) (g : Nat) (f : Switch → Switch) : (l.modSwitch g f).tl = l.tl := rfl
@[simp] theorem Lane.modSwitch_fb (l : Lane) (g : Nat) (f : Switch → Switch) : (l.modSwitch g f).fb = l.fb := rfl
@[simp] theorem Lane.modSwitch_cv (l : Lane) (g : Nat) (f : Switch → Switch) : (l.modSwitch g f).cv = l.cv := rfl
@[simp] theorem Lane.modSwitch_cm (l : Lane) (g : Nat) (f : Switch → Switch) : (l.modSwitch g f).cm = l.cm := rfl
@[simp] theorem Lane.modSwitch_le (l : Lane) (g : Nat) (f : Switch → Switch) : (l.modSwitch g f).le = l.le := rfl
@[simp] theorem Lane.modSwitch_sf (l : Lane) (g : Nat) (f : Switch → Switch) : (l.modSwitch g f).sf = l.sf := rfl
@[simp] theorem Lane.modSwitch_port (l : Lane) (g : Nat) (f : Switch → Switch) : (l.modSwitch g f).port = l.port := rfl
@[simp] theorem Lane.modSwitch_ln (l : Lane) (g : Nat) (f : Switch → Switch) : (l.modSwitch g f).ln = l.ln := rfl
@[simp] theorem Lane.modSwitch_ig (l : Lane) (g : Nat) (f : Switch → Switch) : (l.modSwitch g f).ig = l.ig := rfl
@[simp] theorem Lane.modSwitch_ts (l : Lane) (g : Nat) (f : Switch → Switch) : (l.modSwitch g f).ts = l.ts := rfl
@[simp] theorem Lane.modSwitch_sp (l : Lane) (g : Nat) (f : Switch → Switch) : (l.modSwitch g f).sp = l.sp := rfl
@[simp] theorem Lane.modSwitch_env (l : Lane) (g : Nat) (f : Switch → Switch) : (l.modSwitch g f).env = l.env := rfl
@[simp] theorem Lane.modSwitch_hr (l : Lane) (g : Nat) (f : Switch → Switch) : (l.modSwitch g f).hr = l.hr := rfl
@[simp] theorem Lane.modSwitch_pw (l : Lane) (g : Nat) (f : Switch → Switch) : (l.modSwitch g f).pw = l.pw := rfl
@[simp] theorem Lane.modSwitch_head (l : Lane) (g : Nat) (f : Switch → Switch) : (l.modSwitch g f).head = l.head := rfl
@[simp] theorem Lane.modSwitch_die (l : Lane) (g : Nat) (f : Switch → Switch) : (l.modSwitch g f).die = { l.die with sw := vmod l.die.sw g f } := rfl

@[simp] theorem Lane.modLn_id (l : Lane) (f : LaneCtl → LaneCtl) : (l.modLn f).id = l.id := rfl
@[simp] theorem Lane.modLn_now (l : Lane) (f : LaneCtl → LaneCtl) : (l.modLn f).now = l.now := rfl
@[simp] theorem Lane.modLn_relAt (l : Lane) (f : LaneCtl → LaneCtl) : (l.modLn f).relAt = l.relAt := rfl
@[simp] theorem Lane.modLn_free (l : Lane) (f : LaneCtl → LaneCtl) : (l.modLn f).free = l.free := rfl
@[simp] theorem Lane.modLn_regs (l : Lane) (f : LaneCtl → LaneCtl) : (l.modLn f).regs = l.regs := rfl
@[simp] theorem Lane.modLn_status (l : Lane) (f : LaneCtl → LaneCtl) : (l.modLn f).status = l.status := rfl
@[simp] theorem Lane.modLn_sys (l : Lane) (f : LaneCtl → LaneCtl) : (l.modLn f).sys = l.sys := rfl
@[simp] theorem Lane.modLn_tl (l : Lane) (f : LaneCtl → LaneCtl) : (l.modLn f).tl = l.tl := rfl
@[simp] theorem Lane.modLn_fb (l : Lane) (f : LaneCtl → LaneCtl) : (l.modLn f).fb = l.fb := rfl
@[simp] theorem Lane.modLn_cv (l : Lane) (f : LaneCtl → LaneCtl) : (l.modLn f).cv = l.cv := rfl
@[simp] theorem Lane.modLn_cm (l : Lane) (f : LaneCtl → LaneCtl) : (l.modLn f).cm = l.cm := rfl
@[simp] theorem Lane.modLn_le (l : Lane) (f : LaneCtl → LaneCtl) : (l.modLn f).le = l.le := rfl
@[simp] theorem Lane.modLn_sf (l : Lane) (f : LaneCtl → LaneCtl) : (l.modLn f).sf = l.sf := rfl
@[simp] theorem Lane.modLn_port (l : Lane) (f : LaneCtl → LaneCtl) : (l.modLn f).port = l.port := rfl
@[simp] theorem Lane.modLn_die (l : Lane) (f : LaneCtl → LaneCtl) : (l.modLn f).die = l.die := rfl
@[simp] theorem Lane.modLn_ig (l : Lane) (f : LaneCtl → LaneCtl) : (l.modLn f).ig = l.ig := rfl
@[simp] theorem Lane.modLn_ts (l : Lane) (f : LaneCtl → LaneCtl) : (l.modLn f).ts = l.ts := rfl
@[simp] theorem Lane.modLn_sp (l : Lane) (f : LaneCtl → LaneCtl) : (l.modLn f).sp = l.sp := rfl
@[simp] theorem Lane.modLn_env (l : Lane) (f : LaneCtl → LaneCtl) : (l.modLn f).env = l.env := rfl
@[simp] theorem Lane.modLn_hr (l : Lane) (f : LaneCtl → LaneCtl) : (l.modLn f).hr = l.hr := rfl
@[simp] theorem Lane.modLn_pw (l : Lane) (f : LaneCtl → LaneCtl) : (l.modLn f).pw = l.pw := rfl
@[simp] theorem Lane.modLn_head (l : Lane) (f : LaneCtl → LaneCtl) : (l.modLn f).head = l.head := rfl
@[simp] theorem Lane.modLn_ln (l : Lane) (f : LaneCtl → LaneCtl) : (l.modLn f).ln = f l.ln := rfl

@[simp] theorem Lane.modPeer_id (l : Lane) (k : Nat) (f : Peer → Peer) : (l.modPeer k f).id = l.id := rfl
@[simp] theorem Lane.modPeer_now (l : Lane) (k : Nat) (f : Peer → Peer) : (l.modPeer k f).now = l.now := rfl
@[simp] theorem Lane.modPeer_relAt (l : Lane) (k : Nat) (f : Peer → Peer) : (l.modPeer k f).relAt = l.relAt := rfl
@[simp] theorem Lane.modPeer_free (l : Lane) (k : Nat) (f : Peer → Peer) : (l.modPeer k f).free = l.free := rfl
@[simp] theorem Lane.modPeer_regs (l : Lane) (k : Nat) (f : Peer → Peer) : (l.modPeer k f).regs = l.regs := rfl
@[simp] theorem Lane.modPeer_status (l : Lane) (k : Nat) (f : Peer → Peer) : (l.modPeer k f).status = l.status := rfl
@[simp] theorem Lane.modPeer_sys (l : Lane) (k : Nat) (f : Peer → Peer) : (l.modPeer k f).sys = l.sys := rfl
@[simp] theorem Lane.modPeer_tl (l : Lane) (k : Nat) (f : Peer → Peer) : (l.modPeer k f).tl = l.tl := rfl
@[simp] theorem Lane.modPeer_fb (l : Lane) (k : Nat) (f : Peer → Peer) : (l.modPeer k f).fb = l.fb := rfl
@[simp] theorem Lane.modPeer_cv (l : Lane) (k : Nat) (f : Peer → Peer) : (l.modPeer k f).cv = l.cv := rfl
@[simp] theorem Lane.modPeer_cm (l : Lane) (k : Nat) (f : Peer → Peer) : (l.modPeer k f).cm = l.cm := rfl
@[simp] theorem Lane.modPeer_le (l : Lane) (k : Nat) (f : Peer → Peer) : (l.modPeer k f).le = l.le := rfl
@[simp] theorem Lane.modPeer_sf (l : Lane) (k : Nat) (f : Peer → Peer) : (l.modPeer k f).sf = l.sf := rfl
@[simp] theorem Lane.modPeer_port (l : Lane) (k : Nat) (f : Peer → Peer) : (l.modPeer k f).port = l.port := rfl
@[simp] theorem Lane.modPeer_die (l : Lane) (k : Nat) (f : Peer → Peer) : (l.modPeer k f).die = l.die := rfl
@[simp] theorem Lane.modPeer_ig (l : Lane) (k : Nat) (f : Peer → Peer) : (l.modPeer k f).ig = l.ig := rfl
@[simp] theorem Lane.modPeer_ts (l : Lane) (k : Nat) (f : Peer → Peer) : (l.modPeer k f).ts = l.ts := rfl
@[simp] theorem Lane.modPeer_sp (l : Lane) (k : Nat) (f : Peer → Peer) : (l.modPeer k f).sp = l.sp := rfl
@[simp] theorem Lane.modPeer_env (l : Lane) (k : Nat) (f : Peer → Peer) : (l.modPeer k f).env = l.env := rfl
@[simp] theorem Lane.modPeer_hr (l : Lane) (k : Nat) (f : Peer → Peer) : (l.modPeer k f).hr = l.hr := rfl
@[simp] theorem Lane.modPeer_pw (l : Lane) (k : Nat) (f : Peer → Peer) : (l.modPeer k f).pw = l.pw := rfl
@[simp] theorem Lane.modPeer_head (l : Lane) (k : Nat) (f : Peer → Peer) : (l.modPeer k f).head = l.head := rfl
@[simp] theorem Lane.modPeer_ln (l : Lane) (k : Nat) (f : Peer → Peer) : (l.modPeer k f).ln = { l.ln with peer := vmod l.ln.peer k f } := rfl

@[simp] theorem Lane.setCause_id (l : Lane) (code detail : Nat) : (l.setCause code detail).id = l.id := rfl
@[simp] theorem Lane.setCause_now (l : Lane) (code detail : Nat) : (l.setCause code detail).now = l.now := rfl
@[simp] theorem Lane.setCause_relAt (l : Lane) (code detail : Nat) : (l.setCause code detail).relAt = l.relAt := rfl
@[simp] theorem Lane.setCause_free (l : Lane) (code detail : Nat) : (l.setCause code detail).free = l.free := rfl
@[simp] theorem Lane.setCause_regs (l : Lane) (code detail : Nat) : (l.setCause code detail).regs = l.regs := rfl
@[simp] theorem Lane.setCause_status (l : Lane) (code detail : Nat) : (l.setCause code detail).status = l.status := rfl
@[simp] theorem Lane.setCause_sys (l : Lane) (code detail : Nat) : (l.setCause code detail).sys = l.sys := rfl
@[simp] theorem Lane.setCause_tl (l : Lane) (code detail : Nat) : (l.setCause code detail).tl = l.tl := rfl
@[simp] theorem Lane.setCause_fb (l : Lane) (code detail : Nat) : (l.setCause code detail).fb = l.fb := rfl
@[simp] theorem Lane.setCause_cv (l : Lane) (code detail : Nat) : (l.setCause code detail).cv = l.cv := rfl
@[simp] theorem Lane.setCause_cm (l : Lane) (code detail : Nat) : (l.setCause code detail).cm = l.cm := rfl
@[simp] theorem Lane.setCause_le (l : Lane) (code detail : Nat) : (l.setCause code detail).le = l.le := rfl
@[simp] theorem Lane.setCause_sf (l : Lane) (code detail : Nat) : (l.setCause code detail).sf = l.sf := rfl
@[simp] theorem Lane.setCause_port (l : Lane) (code detail : Nat) : (l.setCause code detail).port = l.port := rfl
@[simp] theorem Lane.setCause_die (l : Lane) (code detail : Nat) : (l.setCause code detail).die = l.die := rfl
@[simp] theorem Lane.setCause_ig (l : Lane) (code detail : Nat) : (l.setCause code detail).ig = l.ig := rfl
@[simp] theorem Lane.setCause_ts (l : Lane) (code detail : Nat) : (l.setCause code detail).ts = l.ts := rfl
@[simp] theorem Lane.setCause_sp (l : Lane) (code detail : Nat) : (l.setCause code detail).sp = l.sp := rfl
@[simp] theorem Lane.setCause_env (l : Lane) (code detail : Nat) : (l.setCause code detail).env = l.env := rfl
@[simp] theorem Lane.setCause_hr (l : Lane) (code detail : Nat) : (l.setCause code detail).hr = l.hr := rfl
@[simp] theorem Lane.setCause_pw (l : Lane) (code detail : Nat) : (l.setCause code detail).pw = l.pw := rfl
@[simp] theorem Lane.setCause_head (l : Lane) (code detail : Nat) : (l.setCause code detail).head = l.head := rfl

@[simp] theorem Lane.modIg_id (l : Lane) (f : Integrity → Integrity) : (l.modIg f).id = l.id := rfl
@[simp] theorem Lane.modIg_now (l : Lane) (f : Integrity → Integrity) : (l.modIg f).now = l.now := rfl
@[simp] theorem Lane.modIg_relAt (l : Lane) (f : Integrity → Integrity) : (l.modIg f).relAt = l.relAt := rfl
@[simp] theorem Lane.modIg_free (l : Lane) (f : Integrity → Integrity) : (l.modIg f).free = l.free := rfl
@[simp] theorem Lane.modIg_regs (l : Lane) (f : Integrity → Integrity) : (l.modIg f).regs = l.regs := rfl
@[simp] theorem Lane.modIg_status (l : Lane) (f : Integrity → Integrity) : (l.modIg f).status = l.status := rfl
@[simp] theorem Lane.modIg_sys (l : Lane) (f : Integrity → Integrity) : (l.modIg f).sys = l.sys := rfl
@[simp] theorem Lane.modIg_tl (l : Lane) (f : Integrity → Integrity) : (l.modIg f).tl = l.tl := rfl
@[simp] theorem Lane.modIg_fb (l : Lane) (f : Integrity → Integrity) : (l.modIg f).fb = l.fb := rfl
@[simp] theorem Lane.modIg_cv (l : Lane) (f : Integrity → Integrity) : (l.modIg f).cv = l.cv := rfl
@[simp] theorem Lane.modIg_cm (l : Lane) (f : Integrity → Integrity) : (l.modIg f).cm = l.cm := rfl
@[simp] theorem Lane.modIg_le (l : Lane) (f : Integrity → Integrity) : (l.modIg f).le = l.le := rfl
@[simp] theorem Lane.modIg_sf (l : Lane) (f : Integrity → Integrity) : (l.modIg f).sf = l.sf := rfl
@[simp] theorem Lane.modIg_port (l : Lane) (f : Integrity → Integrity) : (l.modIg f).port = l.port := rfl
@[simp] theorem Lane.modIg_die (l : Lane) (f : Integrity → Integrity) : (l.modIg f).die = l.die := rfl
@[simp] theorem Lane.modIg_ln (l : Lane) (f : Integrity → Integrity) : (l.modIg f).ln = l.ln := rfl
@[simp] theorem Lane.modIg_ts (l : Lane) (f : Integrity → Integrity) : (l.modIg f).ts = l.ts := rfl
@[simp] theorem Lane.modIg_sp (l : Lane) (f : Integrity → Integrity) : (l.modIg f).sp = l.sp := rfl
@[simp] theorem Lane.modIg_env (l : Lane) (f : Integrity → Integrity) : (l.modIg f).env = l.env := rfl
@[simp] theorem Lane.modIg_hr (l : Lane) (f : Integrity → Integrity) : (l.modIg f).hr = l.hr := rfl
@[simp] theorem Lane.modIg_pw (l : Lane) (f : Integrity → Integrity) : (l.modIg f).pw = l.pw := rfl
@[simp] theorem Lane.modIg_head (l : Lane) (f : Integrity → Integrity) : (l.modIg f).head = l.head := rfl
@[simp] theorem Lane.modIg_ig (l : Lane) (f : Integrity → Integrity) : (l.modIg f).ig = f l.ig := rfl

@[simp] theorem Lane.modTs_id (l : Lane) (f : Temper → Temper) : (l.modTs f).id = l.id := rfl
@[simp] theorem Lane.modTs_now (l : Lane) (f : Temper → Temper) : (l.modTs f).now = l.now := rfl
@[simp] theorem Lane.modTs_relAt (l : Lane) (f : Temper → Temper) : (l.modTs f).relAt = l.relAt := rfl
@[simp] theorem Lane.modTs_free (l : Lane) (f : Temper → Temper) : (l.modTs f).free = l.free := rfl
@[simp] theorem Lane.modTs_regs (l : Lane) (f : Temper → Temper) : (l.modTs f).regs = l.regs := rfl
@[simp] theorem Lane.modTs_status (l : Lane) (f : Temper → Temper) : (l.modTs f).status = l.status := rfl
@[simp] theorem Lane.modTs_sys (l : Lane) (f : Temper → Temper) : (l.modTs f).sys = l.sys := rfl
@[simp] theorem Lane.modTs_tl (l : Lane) (f : Temper → Temper) : (l.modTs f).tl = l.tl := rfl
@[simp] theorem Lane.modTs_fb (l : Lane) (f : Temper → Temper) : (l.modTs f).fb = l.fb := rfl
@[simp] theorem Lane.modTs_cv (l : Lane) (f : Temper → Temper) : (l.modTs f).cv = l.cv := rfl
@[simp] theorem Lane.modTs_cm (l : Lane) (f : Temper → Temper) : (l.modTs f).cm = l.cm := rfl
@[simp] theorem Lane.modTs_le (l : Lane) (f : Temper → Temper) : (l.modTs f).le = l.le := rfl
@[simp] theorem Lane.modTs_sf (l : Lane) (f : Temper → Temper) : (l.modTs f).sf = l.sf := rfl
@[simp] theorem Lane.modTs_port (l : Lane) (f : Temper → Temper) : (l.modTs f).port = l.port := rfl
@[simp] theorem Lane.modTs_die (l : Lane) (f : Temper → Temper) : (l.modTs f).die = l.die := rfl
@[simp] theorem Lane.modTs_ln (l : Lane) (f : Temper → Temper) : (l.modTs f).ln = l.ln := rfl
@[simp] theorem Lane.modTs_ig (l : Lane) (f : Temper → Temper) : (l.modTs f).ig = l.ig := rfl
@[simp] theorem Lane.modTs_sp (l : Lane) (f : Temper → Temper) : (l.modTs f).sp = l.sp := rfl
@[simp] theorem Lane.modTs_env (l : Lane) (f : Temper → Temper) : (l.modTs f).env = l.env := rfl
@[simp] theorem Lane.modTs_hr (l : Lane) (f : Temper → Temper) : (l.modTs f).hr = l.hr := rfl
@[simp] theorem Lane.modTs_pw (l : Lane) (f : Temper → Temper) : (l.modTs f).pw = l.pw := rfl
@[simp] theorem Lane.modTs_head (l : Lane) (f : Temper → Temper) : (l.modTs f).head = l.head := rfl
@[simp] theorem Lane.modTs_ts (l : Lane) (f : Temper → Temper) : (l.modTs f).ts = f l.ts := rfl

@[simp] theorem Lane.modBus_id (l : Lane) (b : Nat) (f : SprueBus → SprueBus) : (l.modBus b f).id = l.id := rfl
@[simp] theorem Lane.modBus_now (l : Lane) (b : Nat) (f : SprueBus → SprueBus) : (l.modBus b f).now = l.now := rfl
@[simp] theorem Lane.modBus_relAt (l : Lane) (b : Nat) (f : SprueBus → SprueBus) : (l.modBus b f).relAt = l.relAt := rfl
@[simp] theorem Lane.modBus_free (l : Lane) (b : Nat) (f : SprueBus → SprueBus) : (l.modBus b f).free = l.free := rfl
@[simp] theorem Lane.modBus_regs (l : Lane) (b : Nat) (f : SprueBus → SprueBus) : (l.modBus b f).regs = l.regs := rfl
@[simp] theorem Lane.modBus_status (l : Lane) (b : Nat) (f : SprueBus → SprueBus) : (l.modBus b f).status = l.status := rfl
@[simp] theorem Lane.modBus_sys (l : Lane) (b : Nat) (f : SprueBus → SprueBus) : (l.modBus b f).sys = l.sys := rfl
@[simp] theorem Lane.modBus_tl (l : Lane) (b : Nat) (f : SprueBus → SprueBus) : (l.modBus b f).tl = l.tl := rfl
@[simp] theorem Lane.modBus_fb (l : Lane) (b : Nat) (f : SprueBus → SprueBus) : (l.modBus b f).fb = l.fb := rfl
@[simp] theorem Lane.modBus_cv (l : Lane) (b : Nat) (f : SprueBus → SprueBus) : (l.modBus b f).cv = l.cv := rfl
@[simp] theorem Lane.modBus_cm (l : Lane) (b : Nat) (f : SprueBus → SprueBus) : (l.modBus b f).cm = l.cm := rfl
@[simp] theorem Lane.modBus_le (l : Lane) (b : Nat) (f : SprueBus → SprueBus) : (l.modBus b f).le = l.le := rfl
@[simp] theorem Lane.modBus_sf (l : Lane) (b : Nat) (f : SprueBus → SprueBus) : (l.modBus b f).sf = l.sf := rfl
@[simp] theorem Lane.modBus_port (l : Lane) (b : Nat) (f : SprueBus → SprueBus) : (l.modBus b f).port = l.port := rfl
@[simp] theorem Lane.modBus_die (l : Lane) (b : Nat) (f : SprueBus → SprueBus) : (l.modBus b f).die = l.die := rfl
@[simp] theorem Lane.modBus_ln (l : Lane) (b : Nat) (f : SprueBus → SprueBus) : (l.modBus b f).ln = l.ln := rfl
@[simp] theorem Lane.modBus_ig (l : Lane) (b : Nat) (f : SprueBus → SprueBus) : (l.modBus b f).ig = l.ig := rfl
@[simp] theorem Lane.modBus_ts (l : Lane) (b : Nat) (f : SprueBus → SprueBus) : (l.modBus b f).ts = l.ts := rfl
@[simp] theorem Lane.modBus_env (l : Lane) (b : Nat) (f : SprueBus → SprueBus) : (l.modBus b f).env = l.env := rfl
@[simp] theorem Lane.modBus_hr (l : Lane) (b : Nat) (f : SprueBus → SprueBus) : (l.modBus b f).hr = l.hr := rfl
@[simp] theorem Lane.modBus_pw (l : Lane) (b : Nat) (f : SprueBus → SprueBus) : (l.modBus b f).pw = l.pw := rfl
@[simp] theorem Lane.modBus_head (l : Lane) (b : Nat) (f : SprueBus → SprueBus) : (l.modBus b f).head = l.head := rfl
@[simp] theorem Lane.modBus_sp (l : Lane) (b : Nat) (f : SprueBus → SprueBus) : (l.modBus b f).sp = { l.sp with bus := vmod l.sp.bus b f } := rfl

@[simp] theorem Lane.modConn_id (l : Lane) (k : Nat) (f : Conn → Conn) : (l.modConn k f).id = l.id := rfl
@[simp] theorem Lane.modConn_now (l : Lane) (k : Nat) (f : Conn → Conn) : (l.modConn k f).now = l.now := rfl
@[simp] theorem Lane.modConn_relAt (l : Lane) (k : Nat) (f : Conn → Conn) : (l.modConn k f).relAt = l.relAt := rfl
@[simp] theorem Lane.modConn_free (l : Lane) (k : Nat) (f : Conn → Conn) : (l.modConn k f).free = l.free := rfl
@[simp] theorem Lane.modConn_regs (l : Lane) (k : Nat) (f : Conn → Conn) : (l.modConn k f).regs = l.regs := rfl
@[simp] theorem Lane.modConn_status (l : Lane) (k : Nat) (f : Conn → Conn) : (l.modConn k f).status = l.status := rfl
@[simp] theorem Lane.modConn_sys (l : Lane) (k : Nat) (f : Conn → Conn) : (l.modConn k f).sys = l.sys := rfl
@[simp] theorem Lane.modConn_tl (l : Lane) (k : Nat) (f : Conn → Conn) : (l.modConn k f).tl = l.tl := rfl
@[simp] theorem Lane.modConn_fb (l : Lane) (k : Nat) (f : Conn → Conn) : (l.modConn k f).fb = l.fb := rfl
@[simp] theorem Lane.modConn_cv (l : Lane) (k : Nat) (f : Conn → Conn) : (l.modConn k f).cv = l.cv := rfl
@[simp] theorem Lane.modConn_cm (l : Lane) (k : Nat) (f : Conn → Conn) : (l.modConn k f).cm = l.cm := rfl
@[simp] theorem Lane.modConn_le (l : Lane) (k : Nat) (f : Conn → Conn) : (l.modConn k f).le = l.le := rfl
@[simp] theorem Lane.modConn_sf (l : Lane) (k : Nat) (f : Conn → Conn) : (l.modConn k f).sf = l.sf := rfl
@[simp] theorem Lane.modConn_port (l : Lane) (k : Nat) (f : Conn → Conn) : (l.modConn k f).port = l.port := rfl
@[simp] theorem Lane.modConn_die (l : Lane) (k : Nat) (f : Conn → Conn) : (l.modConn k f).die = l.die := rfl
@[simp] theorem Lane.modConn_ln (l : Lane) (k : Nat) (f : Conn → Conn) : (l.modConn k f).ln = l.ln := rfl
@[simp] theorem Lane.modConn_ig (l : Lane) (k : Nat) (f : Conn → Conn) : (l.modConn k f).ig = l.ig := rfl
@[simp] theorem Lane.modConn_ts (l : Lane) (k : Nat) (f : Conn → Conn) : (l.modConn k f).ts = l.ts := rfl
@[simp] theorem Lane.modConn_sp (l : Lane) (k : Nat) (f : Conn → Conn) : (l.modConn k f).sp = l.sp := rfl
@[simp] theorem Lane.modConn_hr (l : Lane) (k : Nat) (f : Conn → Conn) : (l.modConn k f).hr = l.hr := rfl
@[simp] theorem Lane.modConn_pw (l : Lane) (k : Nat) (f : Conn → Conn) : (l.modConn k f).pw = l.pw := rfl
@[simp] theorem Lane.modConn_head (l : Lane) (k : Nat) (f : Conn → Conn) : (l.modConn k f).head = l.head := rfl
@[simp] theorem Lane.modConn_env (l : Lane) (k : Nat) (f : Conn → Conn) : (l.modConn k f).env = { l.env with conn := vmod l.env.conn k f } := rfl

@[simp] theorem Lane.modEnv_id (l : Lane) (f : Envelopes → Envelopes) : (l.modEnv f).id = l.id := rfl
@[simp] theorem Lane.modEnv_now (l : Lane) (f : Envelopes → Envelopes) : (l.modEnv f).now = l.now := rfl
@[simp] theorem Lane.modEnv_relAt (l : Lane) (f : Envelopes → Envelopes) : (l.modEnv f).relAt = l.relAt := rfl
@[simp] theorem Lane.modEnv_free (l : Lane) (f : Envelopes → Envelopes) : (l.modEnv f).free = l.free := rfl
@[simp] theorem Lane.modEnv_regs (l : Lane) (f : Envelopes → Envelopes) : (l.modEnv f).regs = l.regs := rfl
@[simp] theorem Lane.modEnv_status (l : Lane) (f : Envelopes → Envelopes) : (l.modEnv f).status = l.status := rfl
@[simp] theorem Lane.modEnv_sys (l : Lane) (f : Envelopes → Envelopes) : (l.modEnv f).sys = l.sys := rfl
@[simp] theorem Lane.modEnv_tl (l : Lane) (f : Envelopes → Envelopes) : (l.modEnv f).tl = l.tl := rfl
@[simp] theorem Lane.modEnv_fb (l : Lane) (f : Envelopes → Envelopes) : (l.modEnv f).fb = l.fb := rfl
@[simp] theorem Lane.modEnv_cv (l : Lane) (f : Envelopes → Envelopes) : (l.modEnv f).cv = l.cv := rfl
@[simp] theorem Lane.modEnv_cm (l : Lane) (f : Envelopes → Envelopes) : (l.modEnv f).cm = l.cm := rfl
@[simp] theorem Lane.modEnv_le (l : Lane) (f : Envelopes → Envelopes) : (l.modEnv f).le = l.le := rfl
@[simp] theorem Lane.modEnv_sf (l : Lane) (f : Envelopes → Envelopes) : (l.modEnv f).sf = l.sf := rfl
@[simp] theorem Lane.modEnv_port (l : Lane) (f : Envelopes → Envelopes) : (l.modEnv f).port = l.port := rfl
@[simp] theorem Lane.modEnv_die (l : Lane) (f : Envelopes → Envelopes) : (l.modEnv f).die = l.die := rfl
@[simp] theorem Lane.modEnv_ln (l : Lane) (f : Envelopes → Envelopes) : (l.modEnv f).ln = l.ln := rfl
@[simp] theorem Lane.modEnv_ig (l : Lane) (f : Envelopes → Envelopes) : (l.modEnv f).ig = l.ig := rfl
@[simp] theorem Lane.modEnv_ts (l : Lane) (f : Envelopes → Envelopes) : (l.modEnv f).ts = l.ts := rfl
@[simp] theorem Lane.modEnv_sp (l : Lane) (f : Envelopes → Envelopes) : (l.modEnv f).sp = l.sp := rfl
@[simp] theorem Lane.modEnv_hr (l : Lane) (f : Envelopes → Envelopes) : (l.modEnv f).hr = l.hr := rfl
@[simp] theorem Lane.modEnv_pw (l : Lane) (f : Envelopes → Envelopes) : (l.modEnv f).pw = l.pw := rfl
@[simp] theorem Lane.modEnv_head (l : Lane) (f : Envelopes → Envelopes) : (l.modEnv f).head = l.head := rfl
@[simp] theorem Lane.modEnv_env (l : Lane) (f : Envelopes → Envelopes) : (l.modEnv f).env = f l.env := rfl

@[simp] theorem Lane.modHr_id (l : Lane) (f : Rings → Rings) : (l.modHr f).id = l.id := rfl
@[simp] theorem Lane.modHr_now (l : Lane) (f : Rings → Rings) : (l.modHr f).now = l.now := rfl
@[simp] theorem Lane.modHr_relAt (l : Lane) (f : Rings → Rings) : (l.modHr f).relAt = l.relAt := rfl
@[simp] theorem Lane.modHr_free (l : Lane) (f : Rings → Rings) : (l.modHr f).free = l.free := rfl
@[simp] theorem Lane.modHr_regs (l : Lane) (f : Rings → Rings) : (l.modHr f).regs = l.regs := rfl
@[simp] theorem Lane.modHr_status (l : Lane) (f : Rings → Rings) : (l.modHr f).status = l.status := rfl
@[simp] theorem Lane.modHr_sys (l : Lane) (f : Rings → Rings) : (l.modHr f).sys = l.sys := rfl
@[simp] theorem Lane.modHr_tl (l : Lane) (f : Rings → Rings) : (l.modHr f).tl = l.tl := rfl
@[simp] theorem Lane.modHr_fb (l : Lane) (f : Rings → Rings) : (l.modHr f).fb = l.fb := rfl
@[simp] theorem Lane.modHr_cv (l : Lane) (f : Rings → Rings) : (l.modHr f).cv = l.cv := rfl
@[simp] theorem Lane.modHr_cm (l : Lane) (f : Rings → Rings) : (l.modHr f).cm = l.cm := rfl
@[simp] theorem Lane.modHr_le (l : Lane) (f : Rings → Rings) : (l.modHr f).le = l.le := rfl
@[simp] theorem Lane.modHr_sf (l : Lane) (f : Rings → Rings) : (l.modHr f).sf = l.sf := rfl
@[simp] theorem Lane.modHr_port (l : Lane) (f : Rings → Rings) : (l.modHr f).port = l.port := rfl
@[simp] theorem Lane.modHr_die (l : Lane) (f : Rings → Rings) : (l.modHr f).die = l.die := rfl
@[simp] theorem Lane.modHr_ln (l : Lane) (f : Rings → Rings) : (l.modHr f).ln = l.ln := rfl
@[simp] theorem Lane.modHr_ig (l : Lane) (f : Rings → Rings) : (l.modHr f).ig = l.ig := rfl
@[simp] theorem Lane.modHr_ts (l : Lane) (f : Rings → Rings) : (l.modHr f).ts = l.ts := rfl
@[simp] theorem Lane.modHr_sp (l : Lane) (f : Rings → Rings) : (l.modHr f).sp = l.sp := rfl
@[simp] theorem Lane.modHr_env (l : Lane) (f : Rings → Rings) : (l.modHr f).env = l.env := rfl
@[simp] theorem Lane.modHr_pw (l : Lane) (f : Rings → Rings) : (l.modHr f).pw = l.pw := rfl
@[simp] theorem Lane.modHr_head (l : Lane) (f : Rings → Rings) : (l.modHr f).head = l.head := rfl
@[simp] theorem Lane.modHr_hr (l : Lane) (f : Rings → Rings) : (l.modHr f).hr = f l.hr := rfl

@[simp] theorem Lane.modRing_id (l : Lane) (k : Nat) (f : Ring → Ring) : (l.modRing k f).id = l.id := rfl
@[simp] theorem Lane.modRing_now (l : Lane) (k : Nat) (f : Ring → Ring) : (l.modRing k f).now = l.now := rfl
@[simp] theorem Lane.modRing_relAt (l : Lane) (k : Nat) (f : Ring → Ring) : (l.modRing k f).relAt = l.relAt := rfl
@[simp] theorem Lane.modRing_free (l : Lane) (k : Nat) (f : Ring → Ring) : (l.modRing k f).free = l.free := rfl
@[simp] theorem Lane.modRing_regs (l : Lane) (k : Nat) (f : Ring → Ring) : (l.modRing k f).regs = l.regs := rfl
@[simp] theorem Lane.modRing_status (l : Lane) (k : Nat) (f : Ring → Ring) : (l.modRing k f).status = l.status := rfl
@[simp] theorem Lane.modRing_sys (l : Lane) (k : Nat) (f : Ring → Ring) : (l.modRing k f).sys = l.sys := rfl
@[simp] theorem Lane.modRing_tl (l : Lane) (k : Nat) (f : Ring → Ring) : (l.modRing k f).tl = l.tl := rfl
@[simp] theorem Lane.modRing_fb (l : Lane) (k : Nat) (f : Ring → Ring) : (l.modRing k f).fb = l.fb := rfl
@[simp] theorem Lane.modRing_cv (l : Lane) (k : Nat) (f : Ring → Ring) : (l.modRing k f).cv = l.cv := rfl
@[simp] theorem Lane.modRing_cm (l : Lane) (k : Nat) (f : Ring → Ring) : (l.modRing k f).cm = l.cm := rfl
@[simp] theorem Lane.modRing_le (l : Lane) (k : Nat) (f : Ring → Ring) : (l.modRing k f).le = l.le := rfl
@[simp] theorem Lane.modRing_sf (l : Lane) (k : Nat) (f : Ring → Ring) : (l.modRing k f).sf = l.sf := rfl
@[simp] theorem Lane.modRing_port (l : Lane) (k : Nat) (f : Ring → Ring) : (l.modRing k f).port = l.port := rfl
@[simp] theorem Lane.modRing_die (l : Lane) (k : Nat) (f : Ring → Ring) : (l.modRing k f).die = l.die := rfl
@[simp] theorem Lane.modRing_ln (l : Lane) (k : Nat) (f : Ring → Ring) : (l.modRing k f).ln = l.ln := rfl
@[simp] theorem Lane.modRing_ig (l : Lane) (k : Nat) (f : Ring → Ring) : (l.modRing k f).ig = l.ig := rfl
@[simp] theorem Lane.modRing_ts (l : Lane) (k : Nat) (f : Ring → Ring) : (l.modRing k f).ts = l.ts := rfl
@[simp] theorem Lane.modRing_sp (l : Lane) (k : Nat) (f : Ring → Ring) : (l.modRing k f).sp = l.sp := rfl
@[simp] theorem Lane.modRing_env (l : Lane) (k : Nat) (f : Ring → Ring) : (l.modRing k f).env = l.env := rfl
@[simp] theorem Lane.modRing_pw (l : Lane) (k : Nat) (f : Ring → Ring) : (l.modRing k f).pw = l.pw := rfl
@[simp] theorem Lane.modRing_head (l : Lane) (k : Nat) (f : Ring → Ring) : (l.modRing k f).head = l.head := rfl
@[simp] theorem Lane.modRing_hr (l : Lane) (k : Nat) (f : Ring → Ring) : (l.modRing k f).hr = { l.hr with ring := vmod l.hr.ring k f } := rfl

@[simp] theorem Lane.hostSend_id (l : Lane) (t : HostTx) : (l.hostSend t).id = l.id := rfl
@[simp] theorem Lane.hostSend_now (l : Lane) (t : HostTx) : (l.hostSend t).now = l.now := rfl
@[simp] theorem Lane.hostSend_relAt (l : Lane) (t : HostTx) : (l.hostSend t).relAt = l.relAt := rfl
@[simp] theorem Lane.hostSend_free (l : Lane) (t : HostTx) : (l.hostSend t).free = l.free := rfl
@[simp] theorem Lane.hostSend_regs (l : Lane) (t : HostTx) : (l.hostSend t).regs = l.regs := rfl
@[simp] theorem Lane.hostSend_status (l : Lane) (t : HostTx) : (l.hostSend t).status = l.status := rfl
@[simp] theorem Lane.hostSend_sys (l : Lane) (t : HostTx) : (l.hostSend t).sys = l.sys := rfl
@[simp] theorem Lane.hostSend_tl (l : Lane) (t : HostTx) : (l.hostSend t).tl = l.tl := rfl
@[simp] theorem Lane.hostSend_fb (l : Lane) (t : HostTx) : (l.hostSend t).fb = l.fb := rfl
@[simp] theorem Lane.hostSend_cv (l : Lane) (t : HostTx) : (l.hostSend t).cv = l.cv := rfl
@[simp] theorem Lane.hostSend_cm (l : Lane) (t : HostTx) : (l.hostSend t).cm = l.cm := rfl
@[simp] theorem Lane.hostSend_le (l : Lane) (t : HostTx) : (l.hostSend t).le = l.le := rfl
@[simp] theorem Lane.hostSend_sf (l : Lane) (t : HostTx) : (l.hostSend t).sf = l.sf := rfl
@[simp] theorem Lane.hostSend_port (l : Lane) (t : HostTx) : (l.hostSend t).port = l.port := rfl
@[simp] theorem Lane.hostSend_die (l : Lane) (t : HostTx) : (l.hostSend t).die = l.die := rfl
@[simp] theorem Lane.hostSend_ln (l : Lane) (t : HostTx) : (l.hostSend t).ln = l.ln := rfl
@[simp] theorem Lane.hostSend_ig (l : Lane) (t : HostTx) : (l.hostSend t).ig = l.ig := rfl
@[simp] theorem Lane.hostSend_ts (l : Lane) (t : HostTx) : (l.hostSend t).ts = l.ts := rfl
@[simp] theorem Lane.hostSend_sp (l : Lane) (t : HostTx) : (l.hostSend t).sp = l.sp := rfl
@[simp] theorem Lane.hostSend_env (l : Lane) (t : HostTx) : (l.hostSend t).env = l.env := rfl
@[simp] theorem Lane.hostSend_pw (l : Lane) (t : HostTx) : (l.hostSend t).pw = l.pw := rfl
@[simp] theorem Lane.hostSend_head (l : Lane) (t : HostTx) : (l.hostSend t).head = l.head := rfl
@[simp] theorem Lane.hostSend_hr (l : Lane) (t : HostTx) : (l.hostSend t).hr = { l.hr with sent := l.hr.sent ++ [t] } := rfl

@[simp] theorem Lane.modPw_id (l : Lane) (f : Power → Power) : (l.modPw f).id = l.id := rfl
@[simp] theorem Lane.modPw_now (l : Lane) (f : Power → Power) : (l.modPw f).now = l.now := rfl
@[simp] theorem Lane.modPw_relAt (l : Lane) (f : Power → Power) : (l.modPw f).relAt = l.relAt := rfl
@[simp] theorem Lane.modPw_free (l : Lane) (f : Power → Power) : (l.modPw f).free = l.free := rfl
@[simp] theorem Lane.modPw_regs (l : Lane) (f : Power → Power) : (l.modPw f).regs = l.regs := rfl
@[simp] theorem Lane.modPw_status (l : Lane) (f : Power → Power) : (l.modPw f).status = l.status := rfl
@[simp] theorem Lane.modPw_sys (l : Lane) (f : Power → Power) : (l.modPw f).sys = l.sys := rfl
@[simp] theorem Lane.modPw_tl (l : Lane) (f : Power → Power) : (l.modPw f).tl = l.tl := rfl
@[simp] theorem Lane.modPw_fb (l : Lane) (f : Power → Power) : (l.modPw f).fb = l.fb := rfl
@[simp] theorem Lane.modPw_cv (l : Lane) (f : Power → Power) : (l.modPw f).cv = l.cv := rfl
@[simp] theorem Lane.modPw_cm (l : Lane) (f : Power → Power) : (l.modPw f).cm = l.cm := rfl
@[simp] theorem Lane.modPw_le (l : Lane) (f : Power → Power) : (l.modPw f).le = l.le := rfl
@[simp] theorem Lane.modPw_sf (l : Lane) (f : Power → Power) : (l.modPw f).sf = l.sf := rfl
@[simp] theorem Lane.modPw_port (l : Lane) (f : Power → Power) : (l.modPw f).port = l.port := rfl
@[simp] theorem Lane.modPw_die (l : Lane) (f : Power → Power) : (l.modPw f).die = l.die := rfl
@[simp] theorem Lane.modPw_ln (l : Lane) (f : Power → Power) : (l.modPw f).ln = l.ln := rfl
@[simp] theorem Lane.modPw_ig (l : Lane) (f : Power → Power) : (l.modPw f).ig = l.ig := rfl
@[simp] theorem Lane.modPw_ts (l : Lane) (f : Power → Power) : (l.modPw f).ts = l.ts := rfl
@[simp] theorem Lane.modPw_sp (l : Lane) (f : Power → Power) : (l.modPw f).sp = l.sp := rfl
@[simp] theorem Lane.modPw_env (l : Lane) (f : Power → Power) : (l.modPw f).env = l.env := rfl
@[simp] theorem Lane.modPw_hr (l : Lane) (f : Power → Power) : (l.modPw f).hr = l.hr := rfl
@[simp] theorem Lane.modPw_pw (l : Lane) (f : Power → Power) : (l.modPw f).pw = f l.pw := rfl
@[simp] theorem Lane.modPw_head (l : Lane) (f : Power → Power) : (l.modPw f).head = l.head := rfl

@[simp] theorem Lane.took_id (l : Lane) : (l.took).id = l.id := rfl
@[simp] theorem Lane.took_now (l : Lane) : (l.took).now = l.now := rfl
@[simp] theorem Lane.took_relAt (l : Lane) : (l.took).relAt = l.relAt := rfl
@[simp] theorem Lane.took_regs (l : Lane) : (l.took).regs = l.regs := rfl
@[simp] theorem Lane.took_status (l : Lane) : (l.took).status = l.status := rfl
@[simp] theorem Lane.took_sys (l : Lane) : (l.took).sys = l.sys := rfl
@[simp] theorem Lane.took_tl (l : Lane) : (l.took).tl = l.tl := rfl
@[simp] theorem Lane.took_fb (l : Lane) : (l.took).fb = l.fb := rfl
@[simp] theorem Lane.took_cv (l : Lane) : (l.took).cv = l.cv := rfl
@[simp] theorem Lane.took_cm (l : Lane) : (l.took).cm = l.cm := rfl
@[simp] theorem Lane.took_le (l : Lane) : (l.took).le = l.le := rfl
@[simp] theorem Lane.took_sf (l : Lane) : (l.took).sf = l.sf := rfl
@[simp] theorem Lane.took_port (l : Lane) : (l.took).port = l.port := rfl
@[simp] theorem Lane.took_die (l : Lane) : (l.took).die = l.die := rfl
@[simp] theorem Lane.took_ln (l : Lane) : (l.took).ln = l.ln := rfl
@[simp] theorem Lane.took_ig (l : Lane) : (l.took).ig = l.ig := rfl
@[simp] theorem Lane.took_ts (l : Lane) : (l.took).ts = l.ts := rfl
@[simp] theorem Lane.took_sp (l : Lane) : (l.took).sp = l.sp := rfl
@[simp] theorem Lane.took_env (l : Lane) : (l.took).env = l.env := rfl
@[simp] theorem Lane.took_hr (l : Lane) : (l.took).hr = l.hr := rfl
@[simp] theorem Lane.took_pw (l : Lane) : (l.took).pw = l.pw := rfl
@[simp] theorem Lane.took_head (l : Lane) : (l.took).head = l.head := rfl
@[simp] theorem Lane.took_free (l : Lane) : (l.took).free = l.free + 1 := rfl

end Sys2Proof.Machine
end

