-- ==== Sys2Proof/Laws/Events.lean ====
section
/-! SUPPORT. What a flag, a vector, an EVT record and a replacement request leave as it was. -/

namespace Sys2Proof.Machine

@[simp] theorem Lane.msixSend_id (l : Lane) (v : Nat) : (l.msixSend v).id = l.id := rfl
@[simp] theorem Lane.msixSend_now (l : Lane) (v : Nat) : (l.msixSend v).now = l.now := rfl
@[simp] theorem Lane.msixSend_relAt (l : Lane) (v : Nat) : (l.msixSend v).relAt = l.relAt := rfl
@[simp] theorem Lane.msixSend_free (l : Lane) (v : Nat) : (l.msixSend v).free = l.free := rfl
@[simp] theorem Lane.msixSend_regs (l : Lane) (v : Nat) : (l.msixSend v).regs = l.regs := rfl
@[simp] theorem Lane.msixSend_status (l : Lane) (v : Nat) : (l.msixSend v).status = l.status := rfl
@[simp] theorem Lane.msixSend_sys (l : Lane) (v : Nat) : (l.msixSend v).sys = l.sys := rfl
@[simp] theorem Lane.msixSend_tl (l : Lane) (v : Nat) : (l.msixSend v).tl = l.tl := rfl
@[simp] theorem Lane.msixSend_fb (l : Lane) (v : Nat) : (l.msixSend v).fb = l.fb := rfl
@[simp] theorem Lane.msixSend_cv (l : Lane) (v : Nat) : (l.msixSend v).cv = l.cv := rfl
@[simp] theorem Lane.msixSend_cm (l : Lane) (v : Nat) : (l.msixSend v).cm = l.cm := rfl
@[simp] theorem Lane.msixSend_le (l : Lane) (v : Nat) : (l.msixSend v).le = l.le := rfl
@[simp] theorem Lane.msixSend_sf (l : Lane) (v : Nat) : (l.msixSend v).sf = l.sf := rfl
@[simp] theorem Lane.msixSend_port (l : Lane) (v : Nat) : (l.msixSend v).port = l.port := rfl
@[simp] theorem Lane.msixSend_die (l : Lane) (v : Nat) : (l.msixSend v).die = l.die := rfl
@[simp] theorem Lane.msixSend_ln (l : Lane) (v : Nat) : (l.msixSend v).ln = l.ln := rfl
@[simp] theorem Lane.msixSend_ig (l : Lane) (v : Nat) : (l.msixSend v).ig = l.ig := rfl
@[simp] theorem Lane.msixSend_ts (l : Lane) (v : Nat) : (l.msixSend v).ts = l.ts := rfl
@[simp] theorem Lane.msixSend_sp (l : Lane) (v : Nat) : (l.msixSend v).sp = l.sp := rfl
@[simp] theorem Lane.msixSend_env (l : Lane) (v : Nat) : (l.msixSend v).env = l.env := rfl
@[simp] theorem Lane.msixSend_pw (l : Lane) (v : Nat) : (l.msixSend v).pw = l.pw := rfl
@[simp] theorem Lane.msixSend_head (l : Lane) (v : Nat) : (l.msixSend v).head = l.head := rfl

@[simp] theorem Lane.msix_id (l : Lane) (v : Nat) : (l.msix v).id = l.id := by unfold Lane.msix; split <;> first | rfl | (split <;> first | rfl | (split <;> rfl))
@[simp] theorem Lane.msix_now (l : Lane) (v : Nat) : (l.msix v).now = l.now := by unfold Lane.msix; split <;> first | rfl | (split <;> first | rfl | (split <;> rfl))
@[simp] theorem Lane.msix_relAt (l : Lane) (v : Nat) : (l.msix v).relAt = l.relAt := by unfold Lane.msix; split <;> first | rfl | (split <;> first | rfl | (split <;> rfl))
@[simp] theorem Lane.msix_free (l : Lane) (v : Nat) : (l.msix v).free = l.free := by unfold Lane.msix; split <;> first | rfl | (split <;> first | rfl | (split <;> rfl))
@[simp] theorem Lane.msix_regs (l : Lane) (v : Nat) : (l.msix v).regs = l.regs := by unfold Lane.msix; split <;> first | rfl | (split <;> first | rfl | (split <;> rfl))
@[simp] theorem Lane.msix_status (l : Lane) (v : Nat) : (l.msix v).status = l.status := by unfold Lane.msix; split <;> first | rfl | (split <;> first | rfl | (split <;> rfl))
@[simp] theorem Lane.msix_sys (l : Lane) (v : Nat) : (l.msix v).sys = l.sys := by unfold Lane.msix; split <;> first | rfl | (split <;> first | rfl | (split <;> rfl))
@[simp] theorem Lane.msix_tl (l : Lane) (v : Nat) : (l.msix v).tl = l.tl := by unfold Lane.msix; split <;> first | rfl | (split <;> first | rfl | (split <;> rfl))
@[simp] theorem Lane.msix_fb (l : Lane) (v : Nat) : (l.msix v).fb = l.fb := by unfold Lane.msix; split <;> first | rfl | (split <;> first | rfl | (split <;> rfl))
@[simp] theorem Lane.msix_cv (l : Lane) (v : Nat) : (l.msix v).cv = l.cv := by unfold Lane.msix; split <;> first | rfl | (split <;> first | rfl | (split <;> rfl))
@[simp] theorem Lane.msix_cm (l : Lane) (v : Nat) : (l.msix v).cm = l.cm := by unfold Lane.msix; split <;> first | rfl | (split <;> first | rfl | (split <;> rfl))
@[simp] theorem Lane.msix_le (l : Lane) (v : Nat) : (l.msix v).le = l.le := by unfold Lane.msix; split <;> first | rfl | (split <;> first | rfl | (split <;> rfl))
@[simp] theorem Lane.msix_sf (l : Lane) (v : Nat) : (l.msix v).sf = l.sf := by unfold Lane.msix; split <;> first | rfl | (split <;> first | rfl | (split <;> rfl))
@[simp] theorem Lane.msix_port (l : Lane) (v : Nat) : (l.msix v).port = l.port := by unfold Lane.msix; split <;> first | rfl | (split <;> first | rfl | (split <;> rfl))
@[simp] theorem Lane.msix_die (l : Lane) (v : Nat) : (l.msix v).die = l.die := by unfold Lane.msix; split <;> first | rfl | (split <;> first | rfl | (split <;> rfl))
@[simp] theorem Lane.msix_ln (l : Lane) (v : Nat) : (l.msix v).ln = l.ln := by unfold Lane.msix; split <;> first | rfl | (split <;> first | rfl | (split <;> rfl))
@[simp] theorem Lane.msix_ig (l : Lane) (v : Nat) : (l.msix v).ig = l.ig := by unfold Lane.msix; split <;> first | rfl | (split <;> first | rfl | (split <;> rfl))
@[simp] theorem Lane.msix_ts (l : Lane) (v : Nat) : (l.msix v).ts = l.ts := by unfold Lane.msix; split <;> first | rfl | (split <;> first | rfl | (split <;> rfl))
@[simp] theorem Lane.msix_sp (l : Lane) (v : Nat) : (l.msix v).sp = l.sp := by unfold Lane.msix; split <;> first | rfl | (split <;> first | rfl | (split <;> rfl))
@[simp] theorem Lane.msix_env (l : Lane) (v : Nat) : (l.msix v).env = l.env := by unfold Lane.msix; split <;> first | rfl | (split <;> first | rfl | (split <;> rfl))
@[simp] theorem Lane.msix_pw (l : Lane) (v : Nat) : (l.msix v).pw = l.pw := by unfold Lane.msix; split <;> first | rfl | (split <;> first | rfl | (split <;> rfl))
@[simp] theorem Lane.msix_head (l : Lane) (v : Nat) : (l.msix v).head = l.head := by unfold Lane.msix; split <;> first | rfl | (split <;> first | rfl | (split <;> rfl))

theorem Lane.fireFold_keeps {α : Type} (p : Lane → α) (hp : ∀ l v, p (Lane.msix l v) = p l) (mask : Nat) :
    ∀ (vs : List (Nat × Nat)) (l : Lane), p (vs.foldl (fun l vm => if vm.2 &&& mask ≠ 0 then l.msix vm.1 else l) l) = p l
  | [], _ => rfl
  | vm :: vs, l => by
    rw [List.foldl_cons, Lane.fireFold_keeps p hp mask vs]
    split <;> simp [hp]

@[simp] theorem Lane.fireVectors_id (l : Lane) (off mask : Nat) : (l.fireVectors off mask).id = l.id := Lane.fireFold_keeps (·.id) (fun l v => Lane.msix_id l v) mask _ l
@[simp] theorem Lane.fireVectors_now (l : Lane) (off mask : Nat) : (l.fireVectors off mask).now = l.now := Lane.fireFold_keeps (·.now) (fun l v => Lane.msix_now l v) mask _ l
@[simp] theorem Lane.fireVectors_relAt (l : Lane) (off mask : Nat) : (l.fireVectors off mask).relAt = l.relAt := Lane.fireFold_keeps (·.relAt) (fun l v => Lane.msix_relAt l v) mask _ l
@[simp] theorem Lane.fireVectors_free (l : Lane) (off mask : Nat) : (l.fireVectors off mask).free = l.free := Lane.fireFold_keeps (·.free) (fun l v => Lane.msix_free l v) mask _ l
@[simp] theorem Lane.fireVectors_regs (l : Lane) (off mask : Nat) : (l.fireVectors off mask).regs = l.regs := Lane.fireFold_keeps (·.regs) (fun l v => Lane.msix_regs l v) mask _ l
@[simp] theorem Lane.fireVectors_status (l : Lane) (off mask : Nat) : (l.fireVectors off mask).status = l.status := Lane.fireFold_keeps (·.status) (fun l v => Lane.msix_status l v) mask _ l
@[simp] theorem Lane.fireVectors_sys (l : Lane) (off mask : Nat) : (l.fireVectors off mask).sys = l.sys := Lane.fireFold_keeps (·.sys) (fun l v => Lane.msix_sys l v) mask _ l
@[simp] theorem Lane.fireVectors_tl (l : Lane) (off mask : Nat) : (l.fireVectors off mask).tl = l.tl := Lane.fireFold_keeps (·.tl) (fun l v => Lane.msix_tl l v) mask _ l
@[simp] theorem Lane.fireVectors_fb (l : Lane) (off mask : Nat) : (l.fireVectors off mask).fb = l.fb := Lane.fireFold_keeps (·.fb) (fun l v => Lane.msix_fb l v) mask _ l
@[simp] theorem Lane.fireVectors_cv (l : Lane) (off mask : Nat) : (l.fireVectors off mask).cv = l.cv := Lane.fireFold_keeps (·.cv) (fun l v => Lane.msix_cv l v) mask _ l
@[simp] theorem Lane.fireVectors_cm (l : Lane) (off mask : Nat) : (l.fireVectors off mask).cm = l.cm := Lane.fireFold_keeps (·.cm) (fun l v => Lane.msix_cm l v) mask _ l
@[simp] theorem Lane.fireVectors_le (l : Lane) (off mask : Nat) : (l.fireVectors off mask).le = l.le := Lane.fireFold_keeps (·.le) (fun l v => Lane.msix_le l v) mask _ l
@[simp] theorem Lane.fireVectors_sf (l : Lane) (off mask : Nat) : (l.fireVectors off mask).sf = l.sf := Lane.fireFold_keeps (·.sf) (fun l v => Lane.msix_sf l v) mask _ l
@[simp] theorem Lane.fireVectors_port (l : Lane) (off mask : Nat) : (l.fireVectors off mask).port = l.port := Lane.fireFold_keeps (·.port) (fun l v => Lane.msix_port l v) mask _ l
@[simp] theorem Lane.fireVectors_die (l : Lane) (off mask : Nat) : (l.fireVectors off mask).die = l.die := Lane.fireFold_keeps (·.die) (fun l v => Lane.msix_die l v) mask _ l
@[simp] theorem Lane.fireVectors_ln (l : Lane) (off mask : Nat) : (l.fireVectors off mask).ln = l.ln := Lane.fireFold_keeps (·.ln) (fun l v => Lane.msix_ln l v) mask _ l
@[simp] theorem Lane.fireVectors_ig (l : Lane) (off mask : Nat) : (l.fireVectors off mask).ig = l.ig := Lane.fireFold_keeps (·.ig) (fun l v => Lane.msix_ig l v) mask _ l
@[simp] theorem Lane.fireVectors_ts (l : Lane) (off mask : Nat) : (l.fireVectors off mask).ts = l.ts := Lane.fireFold_keeps (·.ts) (fun l v => Lane.msix_ts l v) mask _ l
@[simp] theorem Lane.fireVectors_sp (l : Lane) (off mask : Nat) : (l.fireVectors off mask).sp = l.sp := Lane.fireFold_keeps (·.sp) (fun l v => Lane.msix_sp l v) mask _ l
@[simp] theorem Lane.fireVectors_env (l : Lane) (off mask : Nat) : (l.fireVectors off mask).env = l.env := Lane.fireFold_keeps (·.env) (fun l v => Lane.msix_env l v) mask _ l
@[simp] theorem Lane.fireVectors_pw (l : Lane) (off mask : Nat) : (l.fireVectors off mask).pw = l.pw := Lane.fireFold_keeps (·.pw) (fun l v => Lane.msix_pw l v) mask _ l
@[simp] theorem Lane.fireVectors_head (l : Lane) (off mask : Nat) : (l.fireVectors off mask).head = l.head := Lane.fireFold_keeps (·.head) (fun l v => Lane.msix_head l v) mask _ l

@[simp] theorem Lane.eventAt_id (l : Lane) (off mask : Nat) : (l.eventAt off mask).id = l.id := rfl
@[simp] theorem Lane.eventAt_now (l : Lane) (off mask : Nat) : (l.eventAt off mask).now = l.now := rfl
@[simp] theorem Lane.eventAt_relAt (l : Lane) (off mask : Nat) : (l.eventAt off mask).relAt = l.relAt := rfl
@[simp] theorem Lane.eventAt_free (l : Lane) (off mask : Nat) : (l.eventAt off mask).free = l.free := rfl
@[simp] theorem Lane.eventAt_regs (l : Lane) (off mask : Nat) : (l.eventAt off mask).regs = l.regs := rfl
@[simp] theorem Lane.eventAt_sys (l : Lane) (off mask : Nat) : (l.eventAt off mask).sys = l.sys := rfl
@[simp] theorem Lane.eventAt_tl (l : Lane) (off mask : Nat) : (l.eventAt off mask).tl = l.tl := rfl
@[simp] theorem Lane.eventAt_fb (l : Lane) (off mask : Nat) : (l.eventAt off mask).fb = l.fb := rfl
@[simp] theorem Lane.eventAt_cv (l : Lane) (off mask : Nat) : (l.eventAt off mask).cv = l.cv := rfl
@[simp] theorem Lane.eventAt_cm (l : Lane) (off mask : Nat) : (l.eventAt off mask).cm = l.cm := rfl
@[simp] theorem Lane.eventAt_le (l : Lane) (off mask : Nat) : (l.eventAt off mask).le = l.le := rfl
@[simp] theorem Lane.eventAt_sf (l : Lane) (off mask : Nat) : (l.eventAt off mask).sf = l.sf := rfl
@[simp] theorem Lane.eventAt_port (l : Lane) (off mask : Nat) : (l.eventAt off mask).port = l.port := rfl
@[simp] theorem Lane.eventAt_die (l : Lane) (off mask : Nat) : (l.eventAt off mask).die = l.die := rfl
@[simp] theorem Lane.eventAt_ln (l : Lane) (off mask : Nat) : (l.eventAt off mask).ln = l.ln := rfl
@[simp] theorem Lane.eventAt_ig (l : Lane) (off mask : Nat) : (l.eventAt off mask).ig = l.ig := rfl
@[simp] theorem Lane.eventAt_ts (l : Lane) (off mask : Nat) : (l.eventAt off mask).ts = l.ts := rfl
@[simp] theorem Lane.eventAt_sp (l : Lane) (off mask : Nat) : (l.eventAt off mask).sp = l.sp := rfl
@[simp] theorem Lane.eventAt_env (l : Lane) (off mask : Nat) : (l.eventAt off mask).env = l.env := rfl
@[simp] theorem Lane.eventAt_hr (l : Lane) (off mask : Nat) : (l.eventAt off mask).hr = l.hr := rfl
@[simp] theorem Lane.eventAt_pw (l : Lane) (off mask : Nat) : (l.eventAt off mask).pw = l.pw := rfl
@[simp] theorem Lane.eventAt_head (l : Lane) (off mask : Nat) : (l.eventAt off mask).head = l.head := rfl

@[simp] theorem Lane.event_id (l : Lane) (off mask : Nat) : (l.event off mask).id = l.id := by unfold Lane.event; cases groupOf off <;> simp
@[simp] theorem Lane.event_now (l : Lane) (off mask : Nat) : (l.event off mask).now = l.now := by unfold Lane.event; cases groupOf off <;> simp
@[simp] theorem Lane.event_relAt (l : Lane) (off mask : Nat) : (l.event off mask).relAt = l.relAt := by unfold Lane.event; cases groupOf off <;> simp
@[simp] theorem Lane.event_free (l : Lane) (off mask : Nat) : (l.event off mask).free = l.free := by unfold Lane.event; cases groupOf off <;> simp
@[simp] theorem Lane.event_regs (l : Lane) (off mask : Nat) : (l.event off mask).regs = l.regs := by unfold Lane.event; cases groupOf off <;> simp
@[simp] theorem Lane.event_sys (l : Lane) (off mask : Nat) : (l.event off mask).sys = l.sys := by unfold Lane.event; cases groupOf off <;> simp
@[simp] theorem Lane.event_tl (l : Lane) (off mask : Nat) : (l.event off mask).tl = l.tl := by unfold Lane.event; cases groupOf off <;> simp
@[simp] theorem Lane.event_fb (l : Lane) (off mask : Nat) : (l.event off mask).fb = l.fb := by unfold Lane.event; cases groupOf off <;> simp
@[simp] theorem Lane.event_cv (l : Lane) (off mask : Nat) : (l.event off mask).cv = l.cv := by unfold Lane.event; cases groupOf off <;> simp
@[simp] theorem Lane.event_cm (l : Lane) (off mask : Nat) : (l.event off mask).cm = l.cm := by unfold Lane.event; cases groupOf off <;> simp
@[simp] theorem Lane.event_le (l : Lane) (off mask : Nat) : (l.event off mask).le = l.le := by unfold Lane.event; cases groupOf off <;> simp
@[simp] theorem Lane.event_sf (l : Lane) (off mask : Nat) : (l.event off mask).sf = l.sf := by unfold Lane.event; cases groupOf off <;> simp
@[simp] theorem Lane.event_port (l : Lane) (off mask : Nat) : (l.event off mask).port = l.port := by unfold Lane.event; cases groupOf off <;> simp
@[simp] theorem Lane.event_die (l : Lane) (off mask : Nat) : (l.event off mask).die = l.die := by unfold Lane.event; cases groupOf off <;> simp
@[simp] theorem Lane.event_ln (l : Lane) (off mask : Nat) : (l.event off mask).ln = l.ln := by unfold Lane.event; cases groupOf off <;> simp
@[simp] theorem Lane.event_ig (l : Lane) (off mask : Nat) : (l.event off mask).ig = l.ig := by unfold Lane.event; cases groupOf off <;> simp
@[simp] theorem Lane.event_ts (l : Lane) (off mask : Nat) : (l.event off mask).ts = l.ts := by unfold Lane.event; cases groupOf off <;> simp
@[simp] theorem Lane.event_sp (l : Lane) (off mask : Nat) : (l.event off mask).sp = l.sp := by unfold Lane.event; cases groupOf off <;> simp
@[simp] theorem Lane.event_env (l : Lane) (off mask : Nat) : (l.event off mask).env = l.env := by unfold Lane.event; cases groupOf off <;> simp
@[simp] theorem Lane.event_pw (l : Lane) (off mask : Nat) : (l.event off mask).pw = l.pw := by unfold Lane.event; cases groupOf off <;> simp
@[simp] theorem Lane.event_head (l : Lane) (off mask : Nat) : (l.event off mask).head = l.head := by unfold Lane.event; cases groupOf off <;> simp

@[simp] theorem Lane.flag_id (l : Lane) (off b : Nat) : (l.flag off b).id = l.id := by simp [Lane.flag]
@[simp] theorem Lane.flag_now (l : Lane) (off b : Nat) : (l.flag off b).now = l.now := by simp [Lane.flag]
@[simp] theorem Lane.flag_relAt (l : Lane) (off b : Nat) : (l.flag off b).relAt = l.relAt := by simp [Lane.flag]
@[simp] theorem Lane.flag_free (l : Lane) (off b : Nat) : (l.flag off b).free = l.free := by simp [Lane.flag]
@[simp] theorem Lane.flag_regs (l : Lane) (off b : Nat) : (l.flag off b).regs = l.regs := by simp [Lane.flag]
@[simp] theorem Lane.flag_sys (l : Lane) (off b : Nat) : (l.flag off b).sys = l.sys := by simp [Lane.flag]
@[simp] theorem Lane.flag_tl (l : Lane) (off b : Nat) : (l.flag off b).tl = l.tl := by simp [Lane.flag]
@[simp] theorem Lane.flag_fb (l : Lane) (off b : Nat) : (l.flag off b).fb = l.fb := by simp [Lane.flag]
@[simp] theorem Lane.flag_cv (l : Lane) (off b : Nat) : (l.flag off b).cv = l.cv := by simp [Lane.flag]
@[simp] theorem Lane.flag_cm (l : Lane) (off b : Nat) : (l.flag off b).cm = l.cm := by simp [Lane.flag]
@[simp] theorem Lane.flag_le (l : Lane) (off b : Nat) : (l.flag off b).le = l.le := by simp [Lane.flag]
@[simp] theorem Lane.flag_sf (l : Lane) (off b : Nat) : (l.flag off b).sf = l.sf := by simp [Lane.flag]
@[simp] theorem Lane.flag_port (l : Lane) (off b : Nat) : (l.flag off b).port = l.port := by simp [Lane.flag]
@[simp] theorem Lane.flag_die (l : Lane) (off b : Nat) : (l.flag off b).die = l.die := by simp [Lane.flag]
@[simp] theorem Lane.flag_ln (l : Lane) (off b : Nat) : (l.flag off b).ln = l.ln := by simp [Lane.flag]
@[simp] theorem Lane.flag_ig (l : Lane) (off b : Nat) : (l.flag off b).ig = l.ig := by simp [Lane.flag]
@[simp] theorem Lane.flag_ts (l : Lane) (off b : Nat) : (l.flag off b).ts = l.ts := by simp [Lane.flag]
@[simp] theorem Lane.flag_sp (l : Lane) (off b : Nat) : (l.flag off b).sp = l.sp := by simp [Lane.flag]
@[simp] theorem Lane.flag_env (l : Lane) (off b : Nat) : (l.flag off b).env = l.env := by simp [Lane.flag]
@[simp] theorem Lane.flag_pw (l : Lane) (off b : Nat) : (l.flag off b).pw = l.pw := by simp [Lane.flag]
@[simp] theorem Lane.flag_head (l : Lane) (off b : Nat) : (l.flag off b).head = l.head := by simp [Lane.flag]

@[simp] theorem Lane.flagIf_id (l : Lane) (c : Bool) (off b : Nat) : (l.flagIf c off b).id = l.id := by cases c <;> simp [Lane.flagIf]
@[simp] theorem Lane.flagIf_now (l : Lane) (c : Bool) (off b : Nat) : (l.flagIf c off b).now = l.now := by cases c <;> simp [Lane.flagIf]
@[simp] theorem Lane.flagIf_relAt (l : Lane) (c : Bool) (off b : Nat) : (l.flagIf c off b).relAt = l.relAt := by cases c <;> simp [Lane.flagIf]
@[simp] theorem Lane.flagIf_free (l : Lane) (c : Bool) (off b : Nat) : (l.flagIf c off b).free = l.free := by cases c <;> simp [Lane.flagIf]
@[simp] theorem Lane.flagIf_regs (l : Lane) (c : Bool) (off b : Nat) : (l.flagIf c off b).regs = l.regs := by cases c <;> simp [Lane.flagIf]
@[simp] theorem Lane.flagIf_sys (l : Lane) (c : Bool) (off b : Nat) : (l.flagIf c off b).sys = l.sys := by cases c <;> simp [Lane.flagIf]
@[simp] theorem Lane.flagIf_tl (l : Lane) (c : Bool) (off b : Nat) : (l.flagIf c off b).tl = l.tl := by cases c <;> simp [Lane.flagIf]
@[simp] theorem Lane.flagIf_fb (l : Lane) (c : Bool) (off b : Nat) : (l.flagIf c off b).fb = l.fb := by cases c <;> simp [Lane.flagIf]
@[simp] theorem Lane.flagIf_cv (l : Lane) (c : Bool) (off b : Nat) : (l.flagIf c off b).cv = l.cv := by cases c <;> simp [Lane.flagIf]
@[simp] theorem Lane.flagIf_cm (l : Lane) (c : Bool) (off b : Nat) : (l.flagIf c off b).cm = l.cm := by cases c <;> simp [Lane.flagIf]
@[simp] theorem Lane.flagIf_le (l : Lane) (c : Bool) (off b : Nat) : (l.flagIf c off b).le = l.le := by cases c <;> simp [Lane.flagIf]
@[simp] theorem Lane.flagIf_sf (l : Lane) (c : Bool) (off b : Nat) : (l.flagIf c off b).sf = l.sf := by cases c <;> simp [Lane.flagIf]
@[simp] theorem Lane.flagIf_port (l : Lane) (c : Bool) (off b : Nat) : (l.flagIf c off b).port = l.port := by cases c <;> simp [Lane.flagIf]
@[simp] theorem Lane.flagIf_die (l : Lane) (c : Bool) (off b : Nat) : (l.flagIf c off b).die = l.die := by cases c <;> simp [Lane.flagIf]
@[simp] theorem Lane.flagIf_ln (l : Lane) (c : Bool) (off b : Nat) : (l.flagIf c off b).ln = l.ln := by cases c <;> simp [Lane.flagIf]
@[simp] theorem Lane.flagIf_ig (l : Lane) (c : Bool) (off b : Nat) : (l.flagIf c off b).ig = l.ig := by cases c <;> simp [Lane.flagIf]
@[simp] theorem Lane.flagIf_ts (l : Lane) (c : Bool) (off b : Nat) : (l.flagIf c off b).ts = l.ts := by cases c <;> simp [Lane.flagIf]
@[simp] theorem Lane.flagIf_sp (l : Lane) (c : Bool) (off b : Nat) : (l.flagIf c off b).sp = l.sp := by cases c <;> simp [Lane.flagIf]
@[simp] theorem Lane.flagIf_env (l : Lane) (c : Bool) (off b : Nat) : (l.flagIf c off b).env = l.env := by cases c <;> simp [Lane.flagIf]
@[simp] theorem Lane.flagIf_pw (l : Lane) (c : Bool) (off b : Nat) : (l.flagIf c off b).pw = l.pw := by cases c <;> simp [Lane.flagIf]
@[simp] theorem Lane.flagIf_head (l : Lane) (c : Bool) (off b : Nat) : (l.flagIf c off b).head = l.head := by cases c <;> simp [Lane.flagIf]

@[simp] theorem Lane.takeSeq_id (l : Lane) (k : Nat) : (l.takeSeq k).id = l.id := rfl
@[simp] theorem Lane.takeSeq_now (l : Lane) (k : Nat) : (l.takeSeq k).now = l.now := rfl
@[simp] theorem Lane.takeSeq_relAt (l : Lane) (k : Nat) : (l.takeSeq k).relAt = l.relAt := rfl
@[simp] theorem Lane.takeSeq_free (l : Lane) (k : Nat) : (l.takeSeq k).free = l.free := rfl
@[simp] theorem Lane.takeSeq_regs (l : Lane) (k : Nat) : (l.takeSeq k).regs = l.regs := rfl
@[simp] theorem Lane.takeSeq_status (l : Lane) (k : Nat) : (l.takeSeq k).status = l.status := rfl
@[simp] theorem Lane.takeSeq_sys (l : Lane) (k : Nat) : (l.takeSeq k).sys = l.sys := rfl
@[simp] theorem Lane.takeSeq_tl (l : Lane) (k : Nat) : (l.takeSeq k).tl = l.tl := rfl
@[simp] theorem Lane.takeSeq_fb (l : Lane) (k : Nat) : (l.takeSeq k).fb = l.fb := rfl
@[simp] theorem Lane.takeSeq_cv (l : Lane) (k : Nat) : (l.takeSeq k).cv = l.cv := rfl
@[simp] theorem Lane.takeSeq_cm (l : Lane) (k : Nat) : (l.takeSeq k).cm = l.cm := rfl
@[simp] theorem Lane.takeSeq_le (l : Lane) (k : Nat) : (l.takeSeq k).le = l.le := rfl
@[simp] theorem Lane.takeSeq_sf (l : Lane) (k : Nat) : (l.takeSeq k).sf = l.sf := rfl
@[simp] theorem Lane.takeSeq_port (l : Lane) (k : Nat) : (l.takeSeq k).port = l.port := rfl
@[simp] theorem Lane.takeSeq_die (l : Lane) (k : Nat) : (l.takeSeq k).die = l.die := rfl
@[simp] theorem Lane.takeSeq_ln (l : Lane) (k : Nat) : (l.takeSeq k).ln = l.ln := rfl
@[simp] theorem Lane.takeSeq_ig (l : Lane) (k : Nat) : (l.takeSeq k).ig = l.ig := rfl
@[simp] theorem Lane.takeSeq_ts (l : Lane) (k : Nat) : (l.takeSeq k).ts = l.ts := rfl
@[simp] theorem Lane.takeSeq_sp (l : Lane) (k : Nat) : (l.takeSeq k).sp = l.sp := rfl
@[simp] theorem Lane.takeSeq_hr (l : Lane) (k : Nat) : (l.takeSeq k).hr = l.hr := rfl
@[simp] theorem Lane.takeSeq_pw (l : Lane) (k : Nat) : (l.takeSeq k).pw = l.pw := rfl
@[simp] theorem Lane.takeSeq_head (l : Lane) (k : Nat) : (l.takeSeq k).head = l.head := rfl

@[simp] theorem Lane.stage_id (l : Lane) (k : Nat) (body : List Byte) : (l.stage k body).id = l.id := rfl
@[simp] theorem Lane.stage_now (l : Lane) (k : Nat) (body : List Byte) : (l.stage k body).now = l.now := rfl
@[simp] theorem Lane.stage_relAt (l : Lane) (k : Nat) (body : List Byte) : (l.stage k body).relAt = l.relAt := rfl
@[simp] theorem Lane.stage_free (l : Lane) (k : Nat) (body : List Byte) : (l.stage k body).free = l.free := rfl
@[simp] theorem Lane.stage_regs (l : Lane) (k : Nat) (body : List Byte) : (l.stage k body).regs = l.regs := rfl
@[simp] theorem Lane.stage_status (l : Lane) (k : Nat) (body : List Byte) : (l.stage k body).status = l.status := rfl
@[simp] theorem Lane.stage_sys (l : Lane) (k : Nat) (body : List Byte) : (l.stage k body).sys = l.sys := rfl
@[simp] theorem Lane.stage_tl (l : Lane) (k : Nat) (body : List Byte) : (l.stage k body).tl = l.tl := rfl
@[simp] theorem Lane.stage_fb (l : Lane) (k : Nat) (body : List Byte) : (l.stage k body).fb = l.fb := rfl
@[simp] theorem Lane.stage_cv (l : Lane) (k : Nat) (body : List Byte) : (l.stage k body).cv = l.cv := rfl
@[simp] theorem Lane.stage_cm (l : Lane) (k : Nat) (body : List Byte) : (l.stage k body).cm = l.cm := rfl
@[simp] theorem Lane.stage_le (l : Lane) (k : Nat) (body : List Byte) : (l.stage k body).le = l.le := rfl
@[simp] theorem Lane.stage_sf (l : Lane) (k : Nat) (body : List Byte) : (l.stage k body).sf = l.sf := rfl
@[simp] theorem Lane.stage_port (l : Lane) (k : Nat) (body : List Byte) : (l.stage k body).port = l.port := rfl
@[simp] theorem Lane.stage_die (l : Lane) (k : Nat) (body : List Byte) : (l.stage k body).die = l.die := rfl
@[simp] theorem Lane.stage_ln (l : Lane) (k : Nat) (body : List Byte) : (l.stage k body).ln = l.ln := rfl
@[simp] theorem Lane.stage_ig (l : Lane) (k : Nat) (body : List Byte) : (l.stage k body).ig = l.ig := rfl
@[simp] theorem Lane.stage_ts (l : Lane) (k : Nat) (body : List Byte) : (l.stage k body).ts = l.ts := rfl
@[simp] theorem Lane.stage_sp (l : Lane) (k : Nat) (body : List Byte) : (l.stage k body).sp = l.sp := rfl
@[simp] theorem Lane.stage_pw (l : Lane) (k : Nat) (body : List Byte) : (l.stage k body).pw = l.pw := rfl
@[simp] theorem Lane.stage_head (l : Lane) (k : Nat) (body : List Byte) : (l.stage k body).head = l.head := rfl

@[simp] theorem Lane.drainEvt_id : ∀ (n : Nat) (l : Lane), (Lane.drainEvt n l).id = l.id
  | 0, _ => rfl
  | n + 1, l => by
    unfold Lane.drainEvt
    split
    · rfl
    · split
      · rw [Lane.drainEvt_id n]; rfl
      · rfl
@[simp] theorem Lane.drainEvt_now : ∀ (n : Nat) (l : Lane), (Lane.drainEvt n l).now = l.now
  | 0, _ => rfl
  | n + 1, l => by
    unfold Lane.drainEvt
    split
    · rfl
    · split
      · rw [Lane.drainEvt_now n]; rfl
      · rfl
@[simp] theorem Lane.drainEvt_relAt : ∀ (n : Nat) (l : Lane), (Lane.drainEvt n l).relAt = l.relAt
  | 0, _ => rfl
  | n + 1, l => by
    unfold Lane.drainEvt
    split
    · rfl
    · split
      · rw [Lane.drainEvt_relAt n]; rfl
      · rfl
@[simp] theorem Lane.drainEvt_free : ∀ (n : Nat) (l : Lane), (Lane.drainEvt n l).free = l.free
  | 0, _ => rfl
  | n + 1, l => by
    unfold Lane.drainEvt
    split
    · rfl
    · split
      · rw [Lane.drainEvt_free n]; rfl
      · rfl
@[simp] theorem Lane.drainEvt_regs : ∀ (n : Nat) (l : Lane), (Lane.drainEvt n l).regs = l.regs
  | 0, _ => rfl
  | n + 1, l => by
    unfold Lane.drainEvt
    split
    · rfl
    · split
      · rw [Lane.drainEvt_regs n]; rfl
      · rfl
@[simp] theorem Lane.drainEvt_status : ∀ (n : Nat) (l : Lane), (Lane.drainEvt n l).status = l.status
  | 0, _ => rfl
  | n + 1, l => by
    unfold Lane.drainEvt
    split
    · rfl
    · split
      · rw [Lane.drainEvt_status n]; rfl
      · rfl
@[simp] theorem Lane.drainEvt_sys : ∀ (n : Nat) (l : Lane), (Lane.drainEvt n l).sys = l.sys
  | 0, _ => rfl
  | n + 1, l => by
    unfold Lane.drainEvt
    split
    · rfl
    · split
      · rw [Lane.drainEvt_sys n]; rfl
      · rfl
@[simp] theorem Lane.drainEvt_tl : ∀ (n : Nat) (l : Lane), (Lane.drainEvt n l).tl = l.tl
  | 0, _ => rfl
  | n + 1, l => by
    unfold Lane.drainEvt
    split
    · rfl
    · split
      · rw [Lane.drainEvt_tl n]; rfl
      · rfl
@[simp] theorem Lane.drainEvt_fb : ∀ (n : Nat) (l : Lane), (Lane.drainEvt n l).fb = l.fb
  | 0, _ => rfl
  | n + 1, l => by
    unfold Lane.drainEvt
    split
    · rfl
    · split
      · rw [Lane.drainEvt_fb n]; rfl
      · rfl
@[simp] theorem Lane.drainEvt_cv : ∀ (n : Nat) (l : Lane), (Lane.drainEvt n l).cv = l.cv
  | 0, _ => rfl
  | n + 1, l => by
    unfold Lane.drainEvt
    split
    · rfl
    · split
      · rw [Lane.drainEvt_cv n]; rfl
      · rfl
@[simp] theorem Lane.drainEvt_cm : ∀ (n : Nat) (l : Lane), (Lane.drainEvt n l).cm = l.cm
  | 0, _ => rfl
  | n + 1, l => by
    unfold Lane.drainEvt
    split
    · rfl
    · split
      · rw [Lane.drainEvt_cm n]; rfl
      · rfl
@[simp] theorem Lane.drainEvt_le : ∀ (n : Nat) (l : Lane), (Lane.drainEvt n l).le = l.le
  | 0, _ => rfl
  | n + 1, l => by
    unfold Lane.drainEvt
    split
    · rfl
    · split
      · rw [Lane.drainEvt_le n]; rfl
      · rfl
@[simp] theorem Lane.drainEvt_sf : ∀ (n : Nat) (l : Lane), (Lane.drainEvt n l).sf = l.sf
  | 0, _ => rfl
  | n + 1, l => by
    unfold Lane.drainEvt
    split
    · rfl
    · split
      · rw [Lane.drainEvt_sf n]; rfl
      · rfl
@[simp] theorem Lane.drainEvt_port : ∀ (n : Nat) (l : Lane), (Lane.drainEvt n l).port = l.port
  | 0, _ => rfl
  | n + 1, l => by
    unfold Lane.drainEvt
    split
    · rfl
    · split
      · rw [Lane.drainEvt_port n]; rfl
      · rfl
@[simp] theorem Lane.drainEvt_die : ∀ (n : Nat) (l : Lane), (Lane.drainEvt n l).die = l.die
  | 0, _ => rfl
  | n + 1, l => by
    unfold Lane.drainEvt
    split
    · rfl
    · split
      · rw [Lane.drainEvt_die n]; rfl
      · rfl
@[simp] theorem Lane.drainEvt_ln : ∀ (n : Nat) (l : Lane), (Lane.drainEvt n l).ln = l.ln
  | 0, _ => rfl
  | n + 1, l => by
    unfold Lane.drainEvt
    split
    · rfl
    · split
      · rw [Lane.drainEvt_ln n]; rfl
      · rfl
@[simp] theorem Lane.drainEvt_ig : ∀ (n : Nat) (l : Lane), (Lane.drainEvt n l).ig = l.ig
  | 0, _ => rfl
  | n + 1, l => by
    unfold Lane.drainEvt
    split
    · rfl
    · split
      · rw [Lane.drainEvt_ig n]; rfl
      · rfl
@[simp] theorem Lane.drainEvt_ts : ∀ (n : Nat) (l : Lane), (Lane.drainEvt n l).ts = l.ts
  | 0, _ => rfl
  | n + 1, l => by
    unfold Lane.drainEvt
    split
    · rfl
    · split
      · rw [Lane.drainEvt_ts n]; rfl
      · rfl
@[simp] theorem Lane.drainEvt_sp : ∀ (n : Nat) (l : Lane), (Lane.drainEvt n l).sp = l.sp
  | 0, _ => rfl
  | n + 1, l => by
    unfold Lane.drainEvt
    split
    · rfl
    · split
      · rw [Lane.drainEvt_sp n]; rfl
      · rfl
@[simp] theorem Lane.drainEvt_pw : ∀ (n : Nat) (l : Lane), (Lane.drainEvt n l).pw = l.pw
  | 0, _ => rfl
  | n + 1, l => by
    unfold Lane.drainEvt
    split
    · rfl
    · split
      · rw [Lane.drainEvt_pw n]; rfl
      · rfl
@[simp] theorem Lane.drainEvt_head : ∀ (n : Nat) (l : Lane), (Lane.drainEvt n l).head = l.head
  | 0, _ => rfl
  | n + 1, l => by
    unfold Lane.drainEvt
    split
    · rfl
    · split
      · rw [Lane.drainEvt_head n]; rfl
      · rfl

@[simp] theorem Lane.evtPut_id (l : Lane) (e : EvtRec) : (l.evtPut e).id = l.id := by unfold Lane.evtPut; split <;> simp
@[simp] theorem Lane.evtPut_now (l : Lane) (e : EvtRec) : (l.evtPut e).now = l.now := by unfold Lane.evtPut; split <;> simp
@[simp] theorem Lane.evtPut_relAt (l : Lane) (e : EvtRec) : (l.evtPut e).relAt = l.relAt := by unfold Lane.evtPut; split <;> simp
@[simp] theorem Lane.evtPut_free (l : Lane) (e : EvtRec) : (l.evtPut e).free = l.free := by unfold Lane.evtPut; split <;> simp
@[simp] theorem Lane.evtPut_regs (l : Lane) (e : EvtRec) : (l.evtPut e).regs = l.regs := by unfold Lane.evtPut; split <;> simp
@[simp] theorem Lane.evtPut_sys (l : Lane) (e : EvtRec) : (l.evtPut e).sys = l.sys := by unfold Lane.evtPut; split <;> simp
@[simp] theorem Lane.evtPut_tl (l : Lane) (e : EvtRec) : (l.evtPut e).tl = l.tl := by unfold Lane.evtPut; split <;> simp
@[simp] theorem Lane.evtPut_fb (l : Lane) (e : EvtRec) : (l.evtPut e).fb = l.fb := by unfold Lane.evtPut; split <;> simp
@[simp] theorem Lane.evtPut_cv (l : Lane) (e : EvtRec) : (l.evtPut e).cv = l.cv := by unfold Lane.evtPut; split <;> simp
@[simp] theorem Lane.evtPut_cm (l : Lane) (e : EvtRec) : (l.evtPut e).cm = l.cm := by unfold Lane.evtPut; split <;> simp
@[simp] theorem Lane.evtPut_le (l : Lane) (e : EvtRec) : (l.evtPut e).le = l.le := by unfold Lane.evtPut; split <;> simp
@[simp] theorem Lane.evtPut_sf (l : Lane) (e : EvtRec) : (l.evtPut e).sf = l.sf := by unfold Lane.evtPut; split <;> simp
@[simp] theorem Lane.evtPut_port (l : Lane) (e : EvtRec) : (l.evtPut e).port = l.port := by unfold Lane.evtPut; split <;> simp
@[simp] theorem Lane.evtPut_die (l : Lane) (e : EvtRec) : (l.evtPut e).die = l.die := by unfold Lane.evtPut; split <;> simp
@[simp] theorem Lane.evtPut_ln (l : Lane) (e : EvtRec) : (l.evtPut e).ln = l.ln := by unfold Lane.evtPut; split <;> simp
@[simp] theorem Lane.evtPut_ig (l : Lane) (e : EvtRec) : (l.evtPut e).ig = l.ig := by unfold Lane.evtPut; split <;> simp
@[simp] theorem Lane.evtPut_ts (l : Lane) (e : EvtRec) : (l.evtPut e).ts = l.ts := by unfold Lane.evtPut; split <;> simp
@[simp] theorem Lane.evtPut_sp (l : Lane) (e : EvtRec) : (l.evtPut e).sp = l.sp := by unfold Lane.evtPut; split <;> simp
@[simp] theorem Lane.evtPut_pw (l : Lane) (e : EvtRec) : (l.evtPut e).pw = l.pw := by unfold Lane.evtPut; split <;> simp
@[simp] theorem Lane.evtPut_head (l : Lane) (e : EvtRec) : (l.evtPut e).head = l.head := by unfold Lane.evtPut; split <;> simp

@[simp] theorem Lane.evtWith_id (l : Lane) (src flag unit : Nat) (data : List Word) : (l.evtWith src flag unit data).id = l.id := by simp [Lane.evtWith]
@[simp] theorem Lane.evtWith_now (l : Lane) (src flag unit : Nat) (data : List Word) : (l.evtWith src flag unit data).now = l.now := by simp [Lane.evtWith]
@[simp] theorem Lane.evtWith_relAt (l : Lane) (src flag unit : Nat) (data : List Word) : (l.evtWith src flag unit data).relAt = l.relAt := by simp [Lane.evtWith]
@[simp] theorem Lane.evtWith_free (l : Lane) (src flag unit : Nat) (data : List Word) : (l.evtWith src flag unit data).free = l.free := by simp [Lane.evtWith]
@[simp] theorem Lane.evtWith_regs (l : Lane) (src flag unit : Nat) (data : List Word) : (l.evtWith src flag unit data).regs = l.regs := by simp [Lane.evtWith]
@[simp] theorem Lane.evtWith_sys (l : Lane) (src flag unit : Nat) (data : List Word) : (l.evtWith src flag unit data).sys = l.sys := by simp [Lane.evtWith]
@[simp] theorem Lane.evtWith_tl (l : Lane) (src flag unit : Nat) (data : List Word) : (l.evtWith src flag unit data).tl = l.tl := by simp [Lane.evtWith]
@[simp] theorem Lane.evtWith_fb (l : Lane) (src flag unit : Nat) (data : List Word) : (l.evtWith src flag unit data).fb = l.fb := by simp [Lane.evtWith]
@[simp] theorem Lane.evtWith_cv (l : Lane) (src flag unit : Nat) (data : List Word) : (l.evtWith src flag unit data).cv = l.cv := by simp [Lane.evtWith]
@[simp] theorem Lane.evtWith_cm (l : Lane) (src flag unit : Nat) (data : List Word) : (l.evtWith src flag unit data).cm = l.cm := by simp [Lane.evtWith]
@[simp] theorem Lane.evtWith_le (l : Lane) (src flag unit : Nat) (data : List Word) : (l.evtWith src flag unit data).le = l.le := by simp [Lane.evtWith]
@[simp] theorem Lane.evtWith_sf (l : Lane) (src flag unit : Nat) (data : List Word) : (l.evtWith src flag unit data).sf = l.sf := by simp [Lane.evtWith]
@[simp] theorem Lane.evtWith_port (l : Lane) (src flag unit : Nat) (data : List Word) : (l.evtWith src flag unit data).port = l.port := by simp [Lane.evtWith]
@[simp] theorem Lane.evtWith_die (l : Lane) (src flag unit : Nat) (data : List Word) : (l.evtWith src flag unit data).die = l.die := by simp [Lane.evtWith]
@[simp] theorem Lane.evtWith_ln (l : Lane) (src flag unit : Nat) (data : List Word) : (l.evtWith src flag unit data).ln = l.ln := by simp [Lane.evtWith]
@[simp] theorem Lane.evtWith_ig (l : Lane) (src flag unit : Nat) (data : List Word) : (l.evtWith src flag unit data).ig = l.ig := by simp [Lane.evtWith]
@[simp] theorem Lane.evtWith_ts (l : Lane) (src flag unit : Nat) (data : List Word) : (l.evtWith src flag unit data).ts = l.ts := by simp [Lane.evtWith]
@[simp] theorem Lane.evtWith_sp (l : Lane) (src flag unit : Nat) (data : List Word) : (l.evtWith src flag unit data).sp = l.sp := by simp [Lane.evtWith]
@[simp] theorem Lane.evtWith_pw (l : Lane) (src flag unit : Nat) (data : List Word) : (l.evtWith src flag unit data).pw = l.pw := by simp [Lane.evtWith]
@[simp] theorem Lane.evtWith_head (l : Lane) (src flag unit : Nat) (data : List Word) : (l.evtWith src flag unit data).head = l.head := by simp [Lane.evtWith]

@[simp] theorem Lane.evt_id (l : Lane) (src flag unit : Nat) : (l.evt src flag unit).id = l.id := by simp [Lane.evt]
@[simp] theorem Lane.evt_now (l : Lane) (src flag unit : Nat) : (l.evt src flag unit).now = l.now := by simp [Lane.evt]
@[simp] theorem Lane.evt_relAt (l : Lane) (src flag unit : Nat) : (l.evt src flag unit).relAt = l.relAt := by simp [Lane.evt]
@[simp] theorem Lane.evt_free (l : Lane) (src flag unit : Nat) : (l.evt src flag unit).free = l.free := by simp [Lane.evt]
@[simp] theorem Lane.evt_regs (l : Lane) (src flag unit : Nat) : (l.evt src flag unit).regs = l.regs := by simp [Lane.evt]
@[simp] theorem Lane.evt_sys (l : Lane) (src flag unit : Nat) : (l.evt src flag unit).sys = l.sys := by simp [Lane.evt]
@[simp] theorem Lane.evt_tl (l : Lane) (src flag unit : Nat) : (l.evt src flag unit).tl = l.tl := by simp [Lane.evt]
@[simp] theorem Lane.evt_fb (l : Lane) (src flag unit : Nat) : (l.evt src flag unit).fb = l.fb := by simp [Lane.evt]
@[simp] theorem Lane.evt_cv (l : Lane) (src flag unit : Nat) : (l.evt src flag unit).cv = l.cv := by simp [Lane.evt]
@[simp] theorem Lane.evt_cm (l : Lane) (src flag unit : Nat) : (l.evt src flag unit).cm = l.cm := by simp [Lane.evt]
@[simp] theorem Lane.evt_le (l : Lane) (src flag unit : Nat) : (l.evt src flag unit).le = l.le := by simp [Lane.evt]
@[simp] theorem Lane.evt_sf (l : Lane) (src flag unit : Nat) : (l.evt src flag unit).sf = l.sf := by simp [Lane.evt]
@[simp] theorem Lane.evt_port (l : Lane) (src flag unit : Nat) : (l.evt src flag unit).port = l.port := by simp [Lane.evt]
@[simp] theorem Lane.evt_die (l : Lane) (src flag unit : Nat) : (l.evt src flag unit).die = l.die := by simp [Lane.evt]
@[simp] theorem Lane.evt_ln (l : Lane) (src flag unit : Nat) : (l.evt src flag unit).ln = l.ln := by simp [Lane.evt]
@[simp] theorem Lane.evt_ig (l : Lane) (src flag unit : Nat) : (l.evt src flag unit).ig = l.ig := by simp [Lane.evt]
@[simp] theorem Lane.evt_ts (l : Lane) (src flag unit : Nat) : (l.evt src flag unit).ts = l.ts := by simp [Lane.evt]
@[simp] theorem Lane.evt_sp (l : Lane) (src flag unit : Nat) : (l.evt src flag unit).sp = l.sp := by simp [Lane.evt]
@[simp] theorem Lane.evt_pw (l : Lane) (src flag unit : Nat) : (l.evt src flag unit).pw = l.pw := by simp [Lane.evt]
@[simp] theorem Lane.evt_head (l : Lane) (src flag unit : Nat) : (l.evt src flag unit).head = l.head := by simp [Lane.evt]

@[simp] theorem Lane.flagEvt_id (l : Lane) (off b src unit : Nat) : (l.flagEvt off b src unit).id = l.id := by simp [Lane.flagEvt]
@[simp] theorem Lane.flagEvt_now (l : Lane) (off b src unit : Nat) : (l.flagEvt off b src unit).now = l.now := by simp [Lane.flagEvt]
@[simp] theorem Lane.flagEvt_relAt (l : Lane) (off b src unit : Nat) : (l.flagEvt off b src unit).relAt = l.relAt := by simp [Lane.flagEvt]
@[simp] theorem Lane.flagEvt_free (l : Lane) (off b src unit : Nat) : (l.flagEvt off b src unit).free = l.free := by simp [Lane.flagEvt]
@[simp] theorem Lane.flagEvt_regs (l : Lane) (off b src unit : Nat) : (l.flagEvt off b src unit).regs = l.regs := by simp [Lane.flagEvt]
@[simp] theorem Lane.flagEvt_sys (l : Lane) (off b src unit : Nat) : (l.flagEvt off b src unit).sys = l.sys := by simp [Lane.flagEvt]
@[simp] theorem Lane.flagEvt_tl (l : Lane) (off b src unit : Nat) : (l.flagEvt off b src unit).tl = l.tl := by simp [Lane.flagEvt]
@[simp] theorem Lane.flagEvt_fb (l : Lane) (off b src unit : Nat) : (l.flagEvt off b src unit).fb = l.fb := by simp [Lane.flagEvt]
@[simp] theorem Lane.flagEvt_cv (l : Lane) (off b src unit : Nat) : (l.flagEvt off b src unit).cv = l.cv := by simp [Lane.flagEvt]
@[simp] theorem Lane.flagEvt_cm (l : Lane) (off b src unit : Nat) : (l.flagEvt off b src unit).cm = l.cm := by simp [Lane.flagEvt]
@[simp] theorem Lane.flagEvt_le (l : Lane) (off b src unit : Nat) : (l.flagEvt off b src unit).le = l.le := by simp [Lane.flagEvt]
@[simp] theorem Lane.flagEvt_sf (l : Lane) (off b src unit : Nat) : (l.flagEvt off b src unit).sf = l.sf := by simp [Lane.flagEvt]
@[simp] theorem Lane.flagEvt_port (l : Lane) (off b src unit : Nat) : (l.flagEvt off b src unit).port = l.port := by simp [Lane.flagEvt]
@[simp] theorem Lane.flagEvt_die (l : Lane) (off b src unit : Nat) : (l.flagEvt off b src unit).die = l.die := by simp [Lane.flagEvt]
@[simp] theorem Lane.flagEvt_ln (l : Lane) (off b src unit : Nat) : (l.flagEvt off b src unit).ln = l.ln := by simp [Lane.flagEvt]
@[simp] theorem Lane.flagEvt_ig (l : Lane) (off b src unit : Nat) : (l.flagEvt off b src unit).ig = l.ig := by simp [Lane.flagEvt]
@[simp] theorem Lane.flagEvt_ts (l : Lane) (off b src unit : Nat) : (l.flagEvt off b src unit).ts = l.ts := by simp [Lane.flagEvt]
@[simp] theorem Lane.flagEvt_sp (l : Lane) (off b src unit : Nat) : (l.flagEvt off b src unit).sp = l.sp := by simp [Lane.flagEvt]
@[simp] theorem Lane.flagEvt_pw (l : Lane) (off b src unit : Nat) : (l.flagEvt off b src unit).pw = l.pw := by simp [Lane.flagEvt]
@[simp] theorem Lane.flagEvt_head (l : Lane) (off b src unit : Nat) : (l.flagEvt off b src unit).head = l.head := by simp [Lane.flagEvt]

@[simp] theorem Lane.request_id (l : Lane) (item : Nat) : (l.request item).id = l.id := by unfold Lane.request; dsimp only; split <;> first | rfl | (rw [Lane.flag_id, Lane.event_id])
@[simp] theorem Lane.request_now (l : Lane) (item : Nat) : (l.request item).now = l.now := by unfold Lane.request; dsimp only; split <;> first | rfl | (rw [Lane.flag_now, Lane.event_now])
@[simp] theorem Lane.request_relAt (l : Lane) (item : Nat) : (l.request item).relAt = l.relAt := by unfold Lane.request; dsimp only; split <;> first | rfl | (rw [Lane.flag_relAt, Lane.event_relAt])
@[simp] theorem Lane.request_free (l : Lane) (item : Nat) : (l.request item).free = l.free := by unfold Lane.request; dsimp only; split <;> first | rfl | (rw [Lane.flag_free, Lane.event_free])
@[simp] theorem Lane.request_regs (l : Lane) (item : Nat) : (l.request item).regs = l.regs := by unfold Lane.request; dsimp only; split <;> first | rfl | (rw [Lane.flag_regs, Lane.event_regs])
@[simp] theorem Lane.request_sys (l : Lane) (item : Nat) : (l.request item).sys = l.sys := by unfold Lane.request; dsimp only; split <;> first | rfl | (rw [Lane.flag_sys, Lane.event_sys])
@[simp] theorem Lane.request_tl (l : Lane) (item : Nat) : (l.request item).tl = l.tl := by unfold Lane.request; dsimp only; split <;> first | rfl | (rw [Lane.flag_tl, Lane.event_tl])
@[simp] theorem Lane.request_fb (l : Lane) (item : Nat) : (l.request item).fb = l.fb := by unfold Lane.request; dsimp only; split <;> first | rfl | (rw [Lane.flag_fb, Lane.event_fb])
@[simp] theorem Lane.request_cv (l : Lane) (item : Nat) : (l.request item).cv = l.cv := by unfold Lane.request; dsimp only; split <;> first | rfl | (rw [Lane.flag_cv, Lane.event_cv])
@[simp] theorem Lane.request_cm (l : Lane) (item : Nat) : (l.request item).cm = l.cm := by unfold Lane.request; dsimp only; split <;> first | rfl | (rw [Lane.flag_cm, Lane.event_cm])
@[simp] theorem Lane.request_le (l : Lane) (item : Nat) : (l.request item).le = l.le := by unfold Lane.request; dsimp only; split <;> first | rfl | (rw [Lane.flag_le, Lane.event_le])
@[simp] theorem Lane.request_sf (l : Lane) (item : Nat) : (l.request item).sf = l.sf := by unfold Lane.request; dsimp only; split <;> first | rfl | (rw [Lane.flag_sf, Lane.event_sf])
@[simp] theorem Lane.request_port (l : Lane) (item : Nat) : (l.request item).port = l.port := by unfold Lane.request; dsimp only; split <;> first | rfl | (rw [Lane.flag_port, Lane.event_port])
@[simp] theorem Lane.request_die (l : Lane) (item : Nat) : (l.request item).die = l.die := by unfold Lane.request; dsimp only; split <;> first | rfl | (rw [Lane.flag_die, Lane.event_die])
@[simp] theorem Lane.request_ig (l : Lane) (item : Nat) : (l.request item).ig = l.ig := by unfold Lane.request; dsimp only; split <;> first | rfl | (rw [Lane.flag_ig, Lane.event_ig])
@[simp] theorem Lane.request_ts (l : Lane) (item : Nat) : (l.request item).ts = l.ts := by unfold Lane.request; dsimp only; split <;> first | rfl | (rw [Lane.flag_ts, Lane.event_ts])
@[simp] theorem Lane.request_sp (l : Lane) (item : Nat) : (l.request item).sp = l.sp := by unfold Lane.request; dsimp only; split <;> first | rfl | (rw [Lane.flag_sp, Lane.event_sp])
@[simp] theorem Lane.request_env (l : Lane) (item : Nat) : (l.request item).env = l.env := by unfold Lane.request; dsimp only; split <;> first | rfl | (rw [Lane.flag_env, Lane.event_env])
@[simp] theorem Lane.request_pw (l : Lane) (item : Nat) : (l.request item).pw = l.pw := by unfold Lane.request; dsimp only; split <;> first | rfl | (rw [Lane.flag_pw, Lane.event_pw])
@[simp] theorem Lane.request_head (l : Lane) (item : Nat) : (l.request item).head = l.head := by unfold Lane.request; dsimp only; split <;> first | rfl | (rw [Lane.flag_head, Lane.event_head])

end Sys2Proof.Machine
end

