-- ==== Sys2Proof/Laws/Ops.lean ====
section
/-! SUPPORT. What the shared operations of Machine/Ops.lean leave as it was: words for the Runner port, the token, triggers and deferred
causes. -/

namespace Sys2Proof.Machine

@[simp] theorem Lane.viewGiven_id (l : Lane) (k : Nat) : (l.viewGiven k).id = l.id := rfl
@[simp] theorem Lane.viewGiven_now (l : Lane) (k : Nat) : (l.viewGiven k).now = l.now := rfl
@[simp] theorem Lane.viewGiven_relAt (l : Lane) (k : Nat) : (l.viewGiven k).relAt = l.relAt := rfl
@[simp] theorem Lane.viewGiven_free (l : Lane) (k : Nat) : (l.viewGiven k).free = l.free := rfl
@[simp] theorem Lane.viewGiven_regs (l : Lane) (k : Nat) : (l.viewGiven k).regs = l.regs := rfl
@[simp] theorem Lane.viewGiven_status (l : Lane) (k : Nat) : (l.viewGiven k).status = l.status := rfl
@[simp] theorem Lane.viewGiven_sys (l : Lane) (k : Nat) : (l.viewGiven k).sys = l.sys := rfl
@[simp] theorem Lane.viewGiven_tl (l : Lane) (k : Nat) : (l.viewGiven k).tl = l.tl := rfl
@[simp] theorem Lane.viewGiven_fb (l : Lane) (k : Nat) : (l.viewGiven k).fb = l.fb := rfl
@[simp] theorem Lane.viewGiven_cv (l : Lane) (k : Nat) : (l.viewGiven k).cv = l.cv := rfl
@[simp] theorem Lane.viewGiven_cm (l : Lane) (k : Nat) : (l.viewGiven k).cm = l.cm := rfl
@[simp] theorem Lane.viewGiven_le (l : Lane) (k : Nat) : (l.viewGiven k).le = l.le := rfl
@[simp] theorem Lane.viewGiven_sf (l : Lane) (k : Nat) : (l.viewGiven k).sf = l.sf := rfl
@[simp] theorem Lane.viewGiven_port (l : Lane) (k : Nat) : (l.viewGiven k).port = l.port := rfl
@[simp] theorem Lane.viewGiven_die (l : Lane) (k : Nat) : (l.viewGiven k).die = l.die := rfl
@[simp] theorem Lane.viewGiven_ln (l : Lane) (k : Nat) : (l.viewGiven k).ln = l.ln := rfl
@[simp] theorem Lane.viewGiven_ig (l : Lane) (k : Nat) : (l.viewGiven k).ig = l.ig := rfl
@[simp] theorem Lane.viewGiven_ts (l : Lane) (k : Nat) : (l.viewGiven k).ts = l.ts := rfl
@[simp] theorem Lane.viewGiven_sp (l : Lane) (k : Nat) : (l.viewGiven k).sp = l.sp := rfl
@[simp] theorem Lane.viewGiven_env (l : Lane) (k : Nat) : (l.viewGiven k).env = l.env := rfl
@[simp] theorem Lane.viewGiven_pw (l : Lane) (k : Nat) : (l.viewGiven k).pw = l.pw := rfl
@[simp] theorem Lane.viewGiven_head (l : Lane) (k : Nat) : (l.viewGiven k).head = l.head := rfl

@[simp] theorem Lane.complete_id (l : Lane) (c : CmdRef) (st re : Nat) (late sh : Bool) (res : List Nat) : (l.complete c st re late sh res).id = l.id := by unfold Lane.complete; dsimp only; split <;> rfl
@[simp] theorem Lane.complete_now (l : Lane) (c : CmdRef) (st re : Nat) (late sh : Bool) (res : List Nat) : (l.complete c st re late sh res).now = l.now := by unfold Lane.complete; dsimp only; split <;> rfl
@[simp] theorem Lane.complete_relAt (l : Lane) (c : CmdRef) (st re : Nat) (late sh : Bool) (res : List Nat) : (l.complete c st re late sh res).relAt = l.relAt := by unfold Lane.complete; dsimp only; split <;> rfl
@[simp] theorem Lane.complete_free (l : Lane) (c : CmdRef) (st re : Nat) (late sh : Bool) (res : List Nat) : (l.complete c st re late sh res).free = l.free := by unfold Lane.complete; dsimp only; split <;> rfl
@[simp] theorem Lane.complete_regs (l : Lane) (c : CmdRef) (st re : Nat) (late sh : Bool) (res : List Nat) : (l.complete c st re late sh res).regs = l.regs := by unfold Lane.complete; dsimp only; split <;> rfl
@[simp] theorem Lane.complete_status (l : Lane) (c : CmdRef) (st re : Nat) (late sh : Bool) (res : List Nat) : (l.complete c st re late sh res).status = l.status := by unfold Lane.complete; dsimp only; split <;> rfl
@[simp] theorem Lane.complete_sys (l : Lane) (c : CmdRef) (st re : Nat) (late sh : Bool) (res : List Nat) : (l.complete c st re late sh res).sys = l.sys := by unfold Lane.complete; dsimp only; split <;> rfl
@[simp] theorem Lane.complete_tl (l : Lane) (c : CmdRef) (st re : Nat) (late sh : Bool) (res : List Nat) : (l.complete c st re late sh res).tl = l.tl := by unfold Lane.complete; dsimp only; split <;> rfl
@[simp] theorem Lane.complete_fb (l : Lane) (c : CmdRef) (st re : Nat) (late sh : Bool) (res : List Nat) : (l.complete c st re late sh res).fb = l.fb := by unfold Lane.complete; dsimp only; split <;> rfl
@[simp] theorem Lane.complete_cv (l : Lane) (c : CmdRef) (st re : Nat) (late sh : Bool) (res : List Nat) : (l.complete c st re late sh res).cv = l.cv := by unfold Lane.complete; dsimp only; split <;> rfl
@[simp] theorem Lane.complete_cm (l : Lane) (c : CmdRef) (st re : Nat) (late sh : Bool) (res : List Nat) : (l.complete c st re late sh res).cm = l.cm := by unfold Lane.complete; dsimp only; split <;> rfl
@[simp] theorem Lane.complete_le (l : Lane) (c : CmdRef) (st re : Nat) (late sh : Bool) (res : List Nat) : (l.complete c st re late sh res).le = l.le := by unfold Lane.complete; dsimp only; split <;> rfl
@[simp] theorem Lane.complete_sf (l : Lane) (c : CmdRef) (st re : Nat) (late sh : Bool) (res : List Nat) : (l.complete c st re late sh res).sf = l.sf := by unfold Lane.complete; dsimp only; split <;> rfl
@[simp] theorem Lane.complete_port (l : Lane) (c : CmdRef) (st re : Nat) (late sh : Bool) (res : List Nat) : (l.complete c st re late sh res).port = l.port := by unfold Lane.complete; dsimp only; split <;> rfl
@[simp] theorem Lane.complete_die (l : Lane) (c : CmdRef) (st re : Nat) (late sh : Bool) (res : List Nat) : (l.complete c st re late sh res).die = l.die := by unfold Lane.complete; dsimp only; split <;> rfl
@[simp] theorem Lane.complete_ln (l : Lane) (c : CmdRef) (st re : Nat) (late sh : Bool) (res : List Nat) : (l.complete c st re late sh res).ln = l.ln := by unfold Lane.complete; dsimp only; split <;> rfl
@[simp] theorem Lane.complete_ig (l : Lane) (c : CmdRef) (st re : Nat) (late sh : Bool) (res : List Nat) : (l.complete c st re late sh res).ig = l.ig := by unfold Lane.complete; dsimp only; split <;> rfl
@[simp] theorem Lane.complete_ts (l : Lane) (c : CmdRef) (st re : Nat) (late sh : Bool) (res : List Nat) : (l.complete c st re late sh res).ts = l.ts := by unfold Lane.complete; dsimp only; split <;> rfl
@[simp] theorem Lane.complete_sp (l : Lane) (c : CmdRef) (st re : Nat) (late sh : Bool) (res : List Nat) : (l.complete c st re late sh res).sp = l.sp := by unfold Lane.complete; dsimp only; split <;> rfl
@[simp] theorem Lane.complete_pw (l : Lane) (c : CmdRef) (st re : Nat) (late sh : Bool) (res : List Nat) : (l.complete c st re late sh res).pw = l.pw := by unfold Lane.complete; dsimp only; split <;> rfl
@[simp] theorem Lane.complete_head (l : Lane) (c : CmdRef) (st re : Nat) (late sh : Bool) (res : List Nat) : (l.complete c st re late sh res).head = l.head := by unfold Lane.complete; dsimp only; split <;> rfl

@[simp] theorem Lane.endOp_id (l : Lane) (p : PendOp) (st : Nat) (late sh : Bool) : (l.endOp p st late sh).id = l.id := by unfold Lane.endOp; simp
@[simp] theorem Lane.endOp_now (l : Lane) (p : PendOp) (st : Nat) (late sh : Bool) : (l.endOp p st late sh).now = l.now := by unfold Lane.endOp; simp
@[simp] theorem Lane.endOp_relAt (l : Lane) (p : PendOp) (st : Nat) (late sh : Bool) : (l.endOp p st late sh).relAt = l.relAt := by unfold Lane.endOp; simp
@[simp] theorem Lane.endOp_free (l : Lane) (p : PendOp) (st : Nat) (late sh : Bool) : (l.endOp p st late sh).free = l.free := by unfold Lane.endOp; simp
@[simp] theorem Lane.endOp_regs (l : Lane) (p : PendOp) (st : Nat) (late sh : Bool) : (l.endOp p st late sh).regs = l.regs := by unfold Lane.endOp; simp
@[simp] theorem Lane.endOp_status (l : Lane) (p : PendOp) (st : Nat) (late sh : Bool) : (l.endOp p st late sh).status = l.status := by unfold Lane.endOp; simp
@[simp] theorem Lane.endOp_sys (l : Lane) (p : PendOp) (st : Nat) (late sh : Bool) : (l.endOp p st late sh).sys = l.sys := by unfold Lane.endOp; simp
@[simp] theorem Lane.endOp_tl (l : Lane) (p : PendOp) (st : Nat) (late sh : Bool) : (l.endOp p st late sh).tl = l.tl := by unfold Lane.endOp; simp
@[simp] theorem Lane.endOp_fb (l : Lane) (p : PendOp) (st : Nat) (late sh : Bool) : (l.endOp p st late sh).fb = l.fb := by unfold Lane.endOp; simp
@[simp] theorem Lane.endOp_cv (l : Lane) (p : PendOp) (st : Nat) (late sh : Bool) : (l.endOp p st late sh).cv = l.cv := by unfold Lane.endOp; simp
@[simp] theorem Lane.endOp_cm (l : Lane) (p : PendOp) (st : Nat) (late sh : Bool) : (l.endOp p st late sh).cm = l.cm := by unfold Lane.endOp; simp
@[simp] theorem Lane.endOp_le (l : Lane) (p : PendOp) (st : Nat) (late sh : Bool) : (l.endOp p st late sh).le = l.le := by unfold Lane.endOp; simp
@[simp] theorem Lane.endOp_sf (l : Lane) (p : PendOp) (st : Nat) (late sh : Bool) : (l.endOp p st late sh).sf = l.sf := by unfold Lane.endOp; simp
@[simp] theorem Lane.endOp_port (l : Lane) (p : PendOp) (st : Nat) (late sh : Bool) : (l.endOp p st late sh).port = l.port := by unfold Lane.endOp; simp
@[simp] theorem Lane.endOp_die (l : Lane) (p : PendOp) (st : Nat) (late sh : Bool) : (l.endOp p st late sh).die = l.die := by unfold Lane.endOp; simp
@[simp] theorem Lane.endOp_ln (l : Lane) (p : PendOp) (st : Nat) (late sh : Bool) : (l.endOp p st late sh).ln = l.ln := by unfold Lane.endOp; simp
@[simp] theorem Lane.endOp_ig (l : Lane) (p : PendOp) (st : Nat) (late sh : Bool) : (l.endOp p st late sh).ig = l.ig := by unfold Lane.endOp; simp
@[simp] theorem Lane.endOp_ts (l : Lane) (p : PendOp) (st : Nat) (late sh : Bool) : (l.endOp p st late sh).ts = l.ts := by unfold Lane.endOp; simp
@[simp] theorem Lane.endOp_sp (l : Lane) (p : PendOp) (st : Nat) (late sh : Bool) : (l.endOp p st late sh).sp = l.sp := by unfold Lane.endOp; simp
@[simp] theorem Lane.endOp_pw (l : Lane) (p : PendOp) (st : Nat) (late sh : Bool) : (l.endOp p st late sh).pw = l.pw := by unfold Lane.endOp; simp
@[simp] theorem Lane.endOp_head (l : Lane) (p : PendOp) (st : Nat) (late sh : Bool) : (l.endOp p st late sh).head = l.head := by unfold Lane.endOp; simp

@[simp] theorem Lane.startResult_id (l : Lane) (id : Option Nat) (n reason : Nat) : (l.startResult id n reason).id = l.id := by unfold Lane.startResult; dsimp only; first | rfl | (simp; done) | (split <;> first | rfl | (simp; done) | (split <;> first | rfl | (simp; done) | (split <;> first | rfl | (simp; done))))
@[simp] theorem Lane.startResult_now (l : Lane) (id : Option Nat) (n reason : Nat) : (l.startResult id n reason).now = l.now := by unfold Lane.startResult; dsimp only; first | rfl | (simp; done) | (split <;> first | rfl | (simp; done) | (split <;> first | rfl | (simp; done) | (split <;> first | rfl | (simp; done))))
@[simp] theorem Lane.startResult_relAt (l : Lane) (id : Option Nat) (n reason : Nat) : (l.startResult id n reason).relAt = l.relAt := by unfold Lane.startResult; dsimp only; first | rfl | (simp; done) | (split <;> first | rfl | (simp; done) | (split <;> first | rfl | (simp; done) | (split <;> first | rfl | (simp; done))))
@[simp] theorem Lane.startResult_free (l : Lane) (id : Option Nat) (n reason : Nat) : (l.startResult id n reason).free = l.free := by unfold Lane.startResult; dsimp only; first | rfl | (simp; done) | (split <;> first | rfl | (simp; done) | (split <;> first | rfl | (simp; done) | (split <;> first | rfl | (simp; done))))
@[simp] theorem Lane.startResult_regs (l : Lane) (id : Option Nat) (n reason : Nat) : (l.startResult id n reason).regs = l.regs := by unfold Lane.startResult; dsimp only; first | rfl | (simp; done) | (split <;> first | rfl | (simp; done) | (split <;> first | rfl | (simp; done) | (split <;> first | rfl | (simp; done))))
@[simp] theorem Lane.startResult_status (l : Lane) (id : Option Nat) (n reason : Nat) : (l.startResult id n reason).status = l.status := by unfold Lane.startResult; dsimp only; first | rfl | (simp; done) | (split <;> first | rfl | (simp; done) | (split <;> first | rfl | (simp; done) | (split <;> first | rfl | (simp; done))))
@[simp] theorem Lane.startResult_sys (l : Lane) (id : Option Nat) (n reason : Nat) : (l.startResult id n reason).sys = l.sys := by unfold Lane.startResult; dsimp only; first | rfl | (simp; done) | (split <;> first | rfl | (simp; done) | (split <;> first | rfl | (simp; done) | (split <;> first | rfl | (simp; done))))
@[simp] theorem Lane.startResult_tl (l : Lane) (id : Option Nat) (n reason : Nat) : (l.startResult id n reason).tl = l.tl := by unfold Lane.startResult; dsimp only; first | rfl | (simp; done) | (split <;> first | rfl | (simp; done) | (split <;> first | rfl | (simp; done) | (split <;> first | rfl | (simp; done))))
@[simp] theorem Lane.startResult_fb (l : Lane) (id : Option Nat) (n reason : Nat) : (l.startResult id n reason).fb = l.fb := by unfold Lane.startResult; dsimp only; first | rfl | (simp; done) | (split <;> first | rfl | (simp; done) | (split <;> first | rfl | (simp; done) | (split <;> first | rfl | (simp; done))))
@[simp] theorem Lane.startResult_cv (l : Lane) (id : Option Nat) (n reason : Nat) : (l.startResult id n reason).cv = l.cv := by unfold Lane.startResult; dsimp only; first | rfl | (simp; done) | (split <;> first | rfl | (simp; done) | (split <;> first | rfl | (simp; done) | (split <;> first | rfl | (simp; done))))
@[simp] theorem Lane.startResult_cm (l : Lane) (id : Option Nat) (n reason : Nat) : (l.startResult id n reason).cm = l.cm := by unfold Lane.startResult; dsimp only; first | rfl | (simp; done) | (split <;> first | rfl | (simp; done) | (split <;> first | rfl | (simp; done) | (split <;> first | rfl | (simp; done))))
@[simp] theorem Lane.startResult_le (l : Lane) (id : Option Nat) (n reason : Nat) : (l.startResult id n reason).le = l.le := by unfold Lane.startResult; dsimp only; first | rfl | (simp; done) | (split <;> first | rfl | (simp; done) | (split <;> first | rfl | (simp; done) | (split <;> first | rfl | (simp; done))))
@[simp] theorem Lane.startResult_sf (l : Lane) (id : Option Nat) (n reason : Nat) : (l.startResult id n reason).sf = l.sf := by unfold Lane.startResult; dsimp only; first | rfl | (simp; done) | (split <;> first | rfl | (simp; done) | (split <;> first | rfl | (simp; done) | (split <;> first | rfl | (simp; done))))
@[simp] theorem Lane.startResult_port (l : Lane) (id : Option Nat) (n reason : Nat) : (l.startResult id n reason).port = l.port := by unfold Lane.startResult; dsimp only; first | rfl | (simp; done) | (split <;> first | rfl | (simp; done) | (split <;> first | rfl | (simp; done) | (split <;> first | rfl | (simp; done))))
@[simp] theorem Lane.startResult_die (l : Lane) (id : Option Nat) (n reason : Nat) : (l.startResult id n reason).die = l.die := by unfold Lane.startResult; dsimp only; first | rfl | (simp; done) | (split <;> first | rfl | (simp; done) | (split <;> first | rfl | (simp; done) | (split <;> first | rfl | (simp; done))))
@[simp] theorem Lane.startResult_ln (l : Lane) (id : Option Nat) (n reason : Nat) : (l.startResult id n reason).ln = l.ln := by unfold Lane.startResult; dsimp only; first | rfl | (simp; done) | (split <;> first | rfl | (simp; done) | (split <;> first | rfl | (simp; done) | (split <;> first | rfl | (simp; done))))
@[simp] theorem Lane.startResult_ig (l : Lane) (id : Option Nat) (n reason : Nat) : (l.startResult id n reason).ig = l.ig := by unfold Lane.startResult; dsimp only; first | rfl | (simp; done) | (split <;> first | rfl | (simp; done) | (split <;> first | rfl | (simp; done) | (split <;> first | rfl | (simp; done))))
@[simp] theorem Lane.startResult_ts (l : Lane) (id : Option Nat) (n reason : Nat) : (l.startResult id n reason).ts = l.ts := by unfold Lane.startResult; dsimp only; first | rfl | (simp; done) | (split <;> first | rfl | (simp; done) | (split <;> first | rfl | (simp; done) | (split <;> first | rfl | (simp; done))))
@[simp] theorem Lane.startResult_sp (l : Lane) (id : Option Nat) (n reason : Nat) : (l.startResult id n reason).sp = l.sp := by unfold Lane.startResult; dsimp only; first | rfl | (simp; done) | (split <;> first | rfl | (simp; done) | (split <;> first | rfl | (simp; done) | (split <;> first | rfl | (simp; done))))
@[simp] theorem Lane.startResult_pw (l : Lane) (id : Option Nat) (n reason : Nat) : (l.startResult id n reason).pw = l.pw := by unfold Lane.startResult; dsimp only; first | rfl | (simp; done) | (split <;> first | rfl | (simp; done) | (split <;> first | rfl | (simp; done) | (split <;> first | rfl | (simp; done))))
@[simp] theorem Lane.startResult_head (l : Lane) (id : Option Nat) (n reason : Nat) : (l.startResult id n reason).head = l.head := by unfold Lane.startResult; dsimp only; first | rfl | (simp; done) | (split <;> first | rfl | (simp; done) | (split <;> first | rfl | (simp; done) | (split <;> first | rfl | (simp; done))))

@[simp] theorem Lane.holdStarts_id (l : Lane) : (l.holdStarts).id = l.id := Lane.foldl_keeps (·.id) _ (fun l p => Lane.endOp_id l p 1 false true) _ _
@[simp] theorem Lane.holdStarts_now (l : Lane) : (l.holdStarts).now = l.now := Lane.foldl_keeps (·.now) _ (fun l p => Lane.endOp_now l p 1 false true) _ _
@[simp] theorem Lane.holdStarts_relAt (l : Lane) : (l.holdStarts).relAt = l.relAt := Lane.foldl_keeps (·.relAt) _ (fun l p => Lane.endOp_relAt l p 1 false true) _ _
@[simp] theorem Lane.holdStarts_free (l : Lane) : (l.holdStarts).free = l.free := Lane.foldl_keeps (·.free) _ (fun l p => Lane.endOp_free l p 1 false true) _ _
@[simp] theorem Lane.holdStarts_regs (l : Lane) : (l.holdStarts).regs = l.regs := Lane.foldl_keeps (·.regs) _ (fun l p => Lane.endOp_regs l p 1 false true) _ _
@[simp] theorem Lane.holdStarts_status (l : Lane) : (l.holdStarts).status = l.status := Lane.foldl_keeps (·.status) _ (fun l p => Lane.endOp_status l p 1 false true) _ _
@[simp] theorem Lane.holdStarts_sys (l : Lane) : (l.holdStarts).sys = l.sys := Lane.foldl_keeps (·.sys) _ (fun l p => Lane.endOp_sys l p 1 false true) _ _
@[simp] theorem Lane.holdStarts_tl (l : Lane) : (l.holdStarts).tl = l.tl := Lane.foldl_keeps (·.tl) _ (fun l p => Lane.endOp_tl l p 1 false true) _ _
@[simp] theorem Lane.holdStarts_fb (l : Lane) : (l.holdStarts).fb = l.fb := Lane.foldl_keeps (·.fb) _ (fun l p => Lane.endOp_fb l p 1 false true) _ _
@[simp] theorem Lane.holdStarts_cv (l : Lane) : (l.holdStarts).cv = l.cv := Lane.foldl_keeps (·.cv) _ (fun l p => Lane.endOp_cv l p 1 false true) _ _
@[simp] theorem Lane.holdStarts_le (l : Lane) : (l.holdStarts).le = l.le := Lane.foldl_keeps (·.le) _ (fun l p => Lane.endOp_le l p 1 false true) _ _
@[simp] theorem Lane.holdStarts_sf (l : Lane) : (l.holdStarts).sf = l.sf := Lane.foldl_keeps (·.sf) _ (fun l p => Lane.endOp_sf l p 1 false true) _ _
@[simp] theorem Lane.holdStarts_port (l : Lane) : (l.holdStarts).port = l.port := Lane.foldl_keeps (·.port) _ (fun l p => Lane.endOp_port l p 1 false true) _ _
@[simp] theorem Lane.holdStarts_die (l : Lane) : (l.holdStarts).die = l.die := Lane.foldl_keeps (·.die) _ (fun l p => Lane.endOp_die l p 1 false true) _ _
@[simp] theorem Lane.holdStarts_ln (l : Lane) : (l.holdStarts).ln = l.ln := Lane.foldl_keeps (·.ln) _ (fun l p => Lane.endOp_ln l p 1 false true) _ _
@[simp] theorem Lane.holdStarts_ig (l : Lane) : (l.holdStarts).ig = l.ig := Lane.foldl_keeps (·.ig) _ (fun l p => Lane.endOp_ig l p 1 false true) _ _
@[simp] theorem Lane.holdStarts_ts (l : Lane) : (l.holdStarts).ts = l.ts := Lane.foldl_keeps (·.ts) _ (fun l p => Lane.endOp_ts l p 1 false true) _ _
@[simp] theorem Lane.holdStarts_sp (l : Lane) : (l.holdStarts).sp = l.sp := Lane.foldl_keeps (·.sp) _ (fun l p => Lane.endOp_sp l p 1 false true) _ _
@[simp] theorem Lane.holdStarts_pw (l : Lane) : (l.holdStarts).pw = l.pw := Lane.foldl_keeps (·.pw) _ (fun l p => Lane.endOp_pw l p 1 false true) _ _
@[simp] theorem Lane.holdStarts_head (l : Lane) : (l.holdStarts).head = l.head := Lane.foldl_keeps (·.head) _ (fun l p => Lane.endOp_head l p 1 false true) _ _

@[simp] theorem Lane.sendCfg_id (l : Lane) (i : Nat) : (l.sendCfg i).id = l.id := rfl
@[simp] theorem Lane.sendCfg_now (l : Lane) (i : Nat) : (l.sendCfg i).now = l.now := rfl
@[simp] theorem Lane.sendCfg_relAt (l : Lane) (i : Nat) : (l.sendCfg i).relAt = l.relAt := rfl
@[simp] theorem Lane.sendCfg_free (l : Lane) (i : Nat) : (l.sendCfg i).free = l.free := rfl
@[simp] theorem Lane.sendCfg_regs (l : Lane) (i : Nat) : (l.sendCfg i).regs = l.regs := rfl
@[simp] theorem Lane.sendCfg_status (l : Lane) (i : Nat) : (l.sendCfg i).status = l.status := rfl
@[simp] theorem Lane.sendCfg_sys (l : Lane) (i : Nat) : (l.sendCfg i).sys = l.sys := rfl
@[simp] theorem Lane.sendCfg_tl (l : Lane) (i : Nat) : (l.sendCfg i).tl = l.tl := rfl
@[simp] theorem Lane.sendCfg_fb (l : Lane) (i : Nat) : (l.sendCfg i).fb = l.fb := rfl
@[simp] theorem Lane.sendCfg_cv (l : Lane) (i : Nat) : (l.sendCfg i).cv = l.cv := rfl
@[simp] theorem Lane.sendCfg_cm (l : Lane) (i : Nat) : (l.sendCfg i).cm = l.cm := rfl
@[simp] theorem Lane.sendCfg_le (l : Lane) (i : Nat) : (l.sendCfg i).le = l.le := rfl
@[simp] theorem Lane.sendCfg_sf (l : Lane) (i : Nat) : (l.sendCfg i).sf = l.sf := rfl
@[simp] theorem Lane.sendCfg_die (l : Lane) (i : Nat) : (l.sendCfg i).die = l.die := rfl
@[simp] theorem Lane.sendCfg_ln (l : Lane) (i : Nat) : (l.sendCfg i).ln = l.ln := rfl
@[simp] theorem Lane.sendCfg_ig (l : Lane) (i : Nat) : (l.sendCfg i).ig = l.ig := rfl
@[simp] theorem Lane.sendCfg_ts (l : Lane) (i : Nat) : (l.sendCfg i).ts = l.ts := rfl
@[simp] theorem Lane.sendCfg_sp (l : Lane) (i : Nat) : (l.sendCfg i).sp = l.sp := rfl
@[simp] theorem Lane.sendCfg_env (l : Lane) (i : Nat) : (l.sendCfg i).env = l.env := rfl
@[simp] theorem Lane.sendCfg_hr (l : Lane) (i : Nat) : (l.sendCfg i).hr = l.hr := rfl
@[simp] theorem Lane.sendCfg_pw (l : Lane) (i : Nat) : (l.sendCfg i).pw = l.pw := rfl
@[simp] theorem Lane.sendCfg_head (l : Lane) (i : Nat) : (l.sendCfg i).head = l.head := rfl

@[simp] theorem Lane.sendGate_id (l : Lane) (g : Nat) (on : Bool) (t : Nat) : (l.sendGate g on t).id = l.id := by unfold Lane.sendGate; dsimp only; split <;> rfl
@[simp] theorem Lane.sendGate_now (l : Lane) (g : Nat) (on : Bool) (t : Nat) : (l.sendGate g on t).now = l.now := by unfold Lane.sendGate; dsimp only; split <;> rfl
@[simp] theorem Lane.sendGate_relAt (l : Lane) (g : Nat) (on : Bool) (t : Nat) : (l.sendGate g on t).relAt = l.relAt := by unfold Lane.sendGate; dsimp only; split <;> rfl
@[simp] theorem Lane.sendGate_free (l : Lane) (g : Nat) (on : Bool) (t : Nat) : (l.sendGate g on t).free = l.free := by unfold Lane.sendGate; dsimp only; split <;> rfl
@[simp] theorem Lane.sendGate_regs (l : Lane) (g : Nat) (on : Bool) (t : Nat) : (l.sendGate g on t).regs = l.regs := by unfold Lane.sendGate; dsimp only; split <;> rfl
@[simp] theorem Lane.sendGate_status (l : Lane) (g : Nat) (on : Bool) (t : Nat) : (l.sendGate g on t).status = l.status := by unfold Lane.sendGate; dsimp only; split <;> rfl
@[simp] theorem Lane.sendGate_sys (l : Lane) (g : Nat) (on : Bool) (t : Nat) : (l.sendGate g on t).sys = l.sys := by unfold Lane.sendGate; dsimp only; split <;> rfl
@[simp] theorem Lane.sendGate_tl (l : Lane) (g : Nat) (on : Bool) (t : Nat) : (l.sendGate g on t).tl = l.tl := by unfold Lane.sendGate; dsimp only; split <;> rfl
@[simp] theorem Lane.sendGate_fb (l : Lane) (g : Nat) (on : Bool) (t : Nat) : (l.sendGate g on t).fb = l.fb := by unfold Lane.sendGate; dsimp only; split <;> rfl
@[simp] theorem Lane.sendGate_cv (l : Lane) (g : Nat) (on : Bool) (t : Nat) : (l.sendGate g on t).cv = l.cv := by unfold Lane.sendGate; dsimp only; split <;> rfl
@[simp] theorem Lane.sendGate_cm (l : Lane) (g : Nat) (on : Bool) (t : Nat) : (l.sendGate g on t).cm = l.cm := by unfold Lane.sendGate; dsimp only; split <;> rfl
@[simp] theorem Lane.sendGate_le (l : Lane) (g : Nat) (on : Bool) (t : Nat) : (l.sendGate g on t).le = l.le := by unfold Lane.sendGate; dsimp only; split <;> rfl
@[simp] theorem Lane.sendGate_sf (l : Lane) (g : Nat) (on : Bool) (t : Nat) : (l.sendGate g on t).sf = l.sf := by unfold Lane.sendGate; dsimp only; split <;> rfl
@[simp] theorem Lane.sendGate_die (l : Lane) (g : Nat) (on : Bool) (t : Nat) : (l.sendGate g on t).die = l.die := by unfold Lane.sendGate; dsimp only; split <;> rfl
@[simp] theorem Lane.sendGate_ln (l : Lane) (g : Nat) (on : Bool) (t : Nat) : (l.sendGate g on t).ln = l.ln := by unfold Lane.sendGate; dsimp only; split <;> rfl
@[simp] theorem Lane.sendGate_ig (l : Lane) (g : Nat) (on : Bool) (t : Nat) : (l.sendGate g on t).ig = l.ig := by unfold Lane.sendGate; dsimp only; split <;> rfl
@[simp] theorem Lane.sendGate_ts (l : Lane) (g : Nat) (on : Bool) (t : Nat) : (l.sendGate g on t).ts = l.ts := by unfold Lane.sendGate; dsimp only; split <;> rfl
@[simp] theorem Lane.sendGate_sp (l : Lane) (g : Nat) (on : Bool) (t : Nat) : (l.sendGate g on t).sp = l.sp := by unfold Lane.sendGate; dsimp only; split <;> rfl
@[simp] theorem Lane.sendGate_env (l : Lane) (g : Nat) (on : Bool) (t : Nat) : (l.sendGate g on t).env = l.env := by unfold Lane.sendGate; dsimp only; split <;> rfl
@[simp] theorem Lane.sendGate_hr (l : Lane) (g : Nat) (on : Bool) (t : Nat) : (l.sendGate g on t).hr = l.hr := by unfold Lane.sendGate; dsimp only; split <;> rfl
@[simp] theorem Lane.sendGate_pw (l : Lane) (g : Nat) (on : Bool) (t : Nat) : (l.sendGate g on t).pw = l.pw := by unfold Lane.sendGate; dsimp only; split <;> rfl
@[simp] theorem Lane.sendGate_head (l : Lane) (g : Nat) (on : Bool) (t : Nat) : (l.sendGate g on t).head = l.head := by unfold Lane.sendGate; dsimp only; split <;> rfl

@[simp] theorem Lane.sendRaise_id (l : Lane) (t : Nat) : (l.sendRaise t).id = l.id := rfl
@[simp] theorem Lane.sendRaise_now (l : Lane) (t : Nat) : (l.sendRaise t).now = l.now := rfl
@[simp] theorem Lane.sendRaise_relAt (l : Lane) (t : Nat) : (l.sendRaise t).relAt = l.relAt := rfl
@[simp] theorem Lane.sendRaise_free (l : Lane) (t : Nat) : (l.sendRaise t).free = l.free := rfl
@[simp] theorem Lane.sendRaise_regs (l : Lane) (t : Nat) : (l.sendRaise t).regs = l.regs := rfl
@[simp] theorem Lane.sendRaise_status (l : Lane) (t : Nat) : (l.sendRaise t).status = l.status := rfl
@[simp] theorem Lane.sendRaise_sys (l : Lane) (t : Nat) : (l.sendRaise t).sys = l.sys := rfl
@[simp] theorem Lane.sendRaise_tl (l : Lane) (t : Nat) : (l.sendRaise t).tl = l.tl := rfl
@[simp] theorem Lane.sendRaise_fb (l : Lane) (t : Nat) : (l.sendRaise t).fb = l.fb := rfl
@[simp] theorem Lane.sendRaise_cv (l : Lane) (t : Nat) : (l.sendRaise t).cv = l.cv := rfl
@[simp] theorem Lane.sendRaise_cm (l : Lane) (t : Nat) : (l.sendRaise t).cm = l.cm := rfl
@[simp] theorem Lane.sendRaise_le (l : Lane) (t : Nat) : (l.sendRaise t).le = l.le := rfl
@[simp] theorem Lane.sendRaise_sf (l : Lane) (t : Nat) : (l.sendRaise t).sf = l.sf := rfl
@[simp] theorem Lane.sendRaise_die (l : Lane) (t : Nat) : (l.sendRaise t).die = l.die := rfl
@[simp] theorem Lane.sendRaise_ln (l : Lane) (t : Nat) : (l.sendRaise t).ln = l.ln := rfl
@[simp] theorem Lane.sendRaise_ig (l : Lane) (t : Nat) : (l.sendRaise t).ig = l.ig := rfl
@[simp] theorem Lane.sendRaise_ts (l : Lane) (t : Nat) : (l.sendRaise t).ts = l.ts := rfl
@[simp] theorem Lane.sendRaise_sp (l : Lane) (t : Nat) : (l.sendRaise t).sp = l.sp := rfl
@[simp] theorem Lane.sendRaise_env (l : Lane) (t : Nat) : (l.sendRaise t).env = l.env := rfl
@[simp] theorem Lane.sendRaise_hr (l : Lane) (t : Nat) : (l.sendRaise t).hr = l.hr := rfl
@[simp] theorem Lane.sendRaise_pw (l : Lane) (t : Nat) : (l.sendRaise t).pw = l.pw := rfl
@[simp] theorem Lane.sendRaise_head (l : Lane) (t : Nat) : (l.sendRaise t).head = l.head := rfl

@[simp] theorem Lane.sendIsolate_id (l : Lane) (b : Bool) : (l.sendIsolate b).id = l.id := rfl
@[simp] theorem Lane.sendIsolate_now (l : Lane) (b : Bool) : (l.sendIsolate b).now = l.now := rfl
@[simp] theorem Lane.sendIsolate_relAt (l : Lane) (b : Bool) : (l.sendIsolate b).relAt = l.relAt := rfl
@[simp] theorem Lane.sendIsolate_free (l : Lane) (b : Bool) : (l.sendIsolate b).free = l.free := rfl
@[simp] theorem Lane.sendIsolate_regs (l : Lane) (b : Bool) : (l.sendIsolate b).regs = l.regs := rfl
@[simp] theorem Lane.sendIsolate_status (l : Lane) (b : Bool) : (l.sendIsolate b).status = l.status := rfl
@[simp] theorem Lane.sendIsolate_sys (l : Lane) (b : Bool) : (l.sendIsolate b).sys = l.sys := rfl
@[simp] theorem Lane.sendIsolate_tl (l : Lane) (b : Bool) : (l.sendIsolate b).tl = l.tl := rfl
@[simp] theorem Lane.sendIsolate_fb (l : Lane) (b : Bool) : (l.sendIsolate b).fb = l.fb := rfl
@[simp] theorem Lane.sendIsolate_cv (l : Lane) (b : Bool) : (l.sendIsolate b).cv = l.cv := rfl
@[simp] theorem Lane.sendIsolate_cm (l : Lane) (b : Bool) : (l.sendIsolate b).cm = l.cm := rfl
@[simp] theorem Lane.sendIsolate_le (l : Lane) (b : Bool) : (l.sendIsolate b).le = l.le := rfl
@[simp] theorem Lane.sendIsolate_sf (l : Lane) (b : Bool) : (l.sendIsolate b).sf = l.sf := rfl
@[simp] theorem Lane.sendIsolate_die (l : Lane) (b : Bool) : (l.sendIsolate b).die = l.die := rfl
@[simp] theorem Lane.sendIsolate_ln (l : Lane) (b : Bool) : (l.sendIsolate b).ln = l.ln := rfl
@[simp] theorem Lane.sendIsolate_ig (l : Lane) (b : Bool) : (l.sendIsolate b).ig = l.ig := rfl
@[simp] theorem Lane.sendIsolate_ts (l : Lane) (b : Bool) : (l.sendIsolate b).ts = l.ts := rfl
@[simp] theorem Lane.sendIsolate_sp (l : Lane) (b : Bool) : (l.sendIsolate b).sp = l.sp := rfl
@[simp] theorem Lane.sendIsolate_env (l : Lane) (b : Bool) : (l.sendIsolate b).env = l.env := rfl
@[simp] theorem Lane.sendIsolate_hr (l : Lane) (b : Bool) : (l.sendIsolate b).hr = l.hr := rfl
@[simp] theorem Lane.sendIsolate_pw (l : Lane) (b : Bool) : (l.sendIsolate b).pw = l.pw := rfl
@[simp] theorem Lane.sendIsolate_head (l : Lane) (b : Bool) : (l.sendIsolate b).head = l.head := rfl

@[simp] theorem Lane.sendDrop_id (l : Lane) : (l.sendDrop).id = l.id := rfl
@[simp] theorem Lane.sendDrop_now (l : Lane) : (l.sendDrop).now = l.now := rfl
@[simp] theorem Lane.sendDrop_relAt (l : Lane) : (l.sendDrop).relAt = l.relAt := rfl
@[simp] theorem Lane.sendDrop_free (l : Lane) : (l.sendDrop).free = l.free := rfl
@[simp] theorem Lane.sendDrop_regs (l : Lane) : (l.sendDrop).regs = l.regs := rfl
@[simp] theorem Lane.sendDrop_status (l : Lane) : (l.sendDrop).status = l.status := rfl
@[simp] theorem Lane.sendDrop_sys (l : Lane) : (l.sendDrop).sys = l.sys := rfl
@[simp] theorem Lane.sendDrop_tl (l : Lane) : (l.sendDrop).tl = l.tl := rfl
@[simp] theorem Lane.sendDrop_fb (l : Lane) : (l.sendDrop).fb = l.fb := rfl
@[simp] theorem Lane.sendDrop_cv (l : Lane) : (l.sendDrop).cv = l.cv := rfl
@[simp] theorem Lane.sendDrop_cm (l : Lane) : (l.sendDrop).cm = l.cm := rfl
@[simp] theorem Lane.sendDrop_le (l : Lane) : (l.sendDrop).le = l.le := rfl
@[simp] theorem Lane.sendDrop_sf (l : Lane) : (l.sendDrop).sf = l.sf := rfl
@[simp] theorem Lane.sendDrop_die (l : Lane) : (l.sendDrop).die = l.die := rfl
@[simp] theorem Lane.sendDrop_ln (l : Lane) : (l.sendDrop).ln = l.ln := rfl
@[simp] theorem Lane.sendDrop_ig (l : Lane) : (l.sendDrop).ig = l.ig := rfl
@[simp] theorem Lane.sendDrop_ts (l : Lane) : (l.sendDrop).ts = l.ts := rfl
@[simp] theorem Lane.sendDrop_sp (l : Lane) : (l.sendDrop).sp = l.sp := rfl
@[simp] theorem Lane.sendDrop_env (l : Lane) : (l.sendDrop).env = l.env := rfl
@[simp] theorem Lane.sendDrop_hr (l : Lane) : (l.sendDrop).hr = l.hr := rfl
@[simp] theorem Lane.sendDrop_pw (l : Lane) : (l.sendDrop).pw = l.pw := rfl
@[simp] theorem Lane.sendDrop_head (l : Lane) : (l.sendDrop).head = l.head := rfl

@[simp] theorem Lane.sendSafe_id (l : Lane) (a b : Nat) : (l.sendSafe a b).id = l.id := rfl
@[simp] theorem Lane.sendSafe_now (l : Lane) (a b : Nat) : (l.sendSafe a b).now = l.now := rfl
@[simp] theorem Lane.sendSafe_relAt (l : Lane) (a b : Nat) : (l.sendSafe a b).relAt = l.relAt := rfl
@[simp] theorem Lane.sendSafe_free (l : Lane) (a b : Nat) : (l.sendSafe a b).free = l.free := rfl
@[simp] theorem Lane.sendSafe_regs (l : Lane) (a b : Nat) : (l.sendSafe a b).regs = l.regs := rfl
@[simp] theorem Lane.sendSafe_status (l : Lane) (a b : Nat) : (l.sendSafe a b).status = l.status := rfl
@[simp] theorem Lane.sendSafe_sys (l : Lane) (a b : Nat) : (l.sendSafe a b).sys = l.sys := rfl
@[simp] theorem Lane.sendSafe_tl (l : Lane) (a b : Nat) : (l.sendSafe a b).tl = l.tl := rfl
@[simp] theorem Lane.sendSafe_fb (l : Lane) (a b : Nat) : (l.sendSafe a b).fb = l.fb := rfl
@[simp] theorem Lane.sendSafe_cv (l : Lane) (a b : Nat) : (l.sendSafe a b).cv = l.cv := rfl
@[simp] theorem Lane.sendSafe_cm (l : Lane) (a b : Nat) : (l.sendSafe a b).cm = l.cm := rfl
@[simp] theorem Lane.sendSafe_le (l : Lane) (a b : Nat) : (l.sendSafe a b).le = l.le := rfl
@[simp] theorem Lane.sendSafe_sf (l : Lane) (a b : Nat) : (l.sendSafe a b).sf = l.sf := rfl
@[simp] theorem Lane.sendSafe_die (l : Lane) (a b : Nat) : (l.sendSafe a b).die = l.die := rfl
@[simp] theorem Lane.sendSafe_ln (l : Lane) (a b : Nat) : (l.sendSafe a b).ln = l.ln := rfl
@[simp] theorem Lane.sendSafe_ig (l : Lane) (a b : Nat) : (l.sendSafe a b).ig = l.ig := rfl
@[simp] theorem Lane.sendSafe_ts (l : Lane) (a b : Nat) : (l.sendSafe a b).ts = l.ts := rfl
@[simp] theorem Lane.sendSafe_sp (l : Lane) (a b : Nat) : (l.sendSafe a b).sp = l.sp := rfl
@[simp] theorem Lane.sendSafe_env (l : Lane) (a b : Nat) : (l.sendSafe a b).env = l.env := rfl
@[simp] theorem Lane.sendSafe_hr (l : Lane) (a b : Nat) : (l.sendSafe a b).hr = l.hr := rfl
@[simp] theorem Lane.sendSafe_pw (l : Lane) (a b : Nat) : (l.sendSafe a b).pw = l.pw := rfl
@[simp] theorem Lane.sendSafe_head (l : Lane) (a b : Nat) : (l.sendSafe a b).head = l.head := rfl

@[simp] theorem Lane.sendAllCfg_id (l : Lane) : (l.sendAllCfg).id = l.id := Lane.foldl_keeps (·.id) _ (fun l i => Lane.sendCfg_id l i) _ _
@[simp] theorem Lane.sendAllCfg_now (l : Lane) : (l.sendAllCfg).now = l.now := Lane.foldl_keeps (·.now) _ (fun l i => Lane.sendCfg_now l i) _ _
@[simp] theorem Lane.sendAllCfg_relAt (l : Lane) : (l.sendAllCfg).relAt = l.relAt := Lane.foldl_keeps (·.relAt) _ (fun l i => Lane.sendCfg_relAt l i) _ _
@[simp] theorem Lane.sendAllCfg_free (l : Lane) : (l.sendAllCfg).free = l.free := Lane.foldl_keeps (·.free) _ (fun l i => Lane.sendCfg_free l i) _ _
@[simp] theorem Lane.sendAllCfg_regs (l : Lane) : (l.sendAllCfg).regs = l.regs := Lane.foldl_keeps (·.regs) _ (fun l i => Lane.sendCfg_regs l i) _ _
@[simp] theorem Lane.sendAllCfg_status (l : Lane) : (l.sendAllCfg).status = l.status := Lane.foldl_keeps (·.status) _ (fun l i => Lane.sendCfg_status l i) _ _
@[simp] theorem Lane.sendAllCfg_sys (l : Lane) : (l.sendAllCfg).sys = l.sys := Lane.foldl_keeps (·.sys) _ (fun l i => Lane.sendCfg_sys l i) _ _
@[simp] theorem Lane.sendAllCfg_tl (l : Lane) : (l.sendAllCfg).tl = l.tl := Lane.foldl_keeps (·.tl) _ (fun l i => Lane.sendCfg_tl l i) _ _
@[simp] theorem Lane.sendAllCfg_fb (l : Lane) : (l.sendAllCfg).fb = l.fb := Lane.foldl_keeps (·.fb) _ (fun l i => Lane.sendCfg_fb l i) _ _
@[simp] theorem Lane.sendAllCfg_cv (l : Lane) : (l.sendAllCfg).cv = l.cv := Lane.foldl_keeps (·.cv) _ (fun l i => Lane.sendCfg_cv l i) _ _
@[simp] theorem Lane.sendAllCfg_cm (l : Lane) : (l.sendAllCfg).cm = l.cm := Lane.foldl_keeps (·.cm) _ (fun l i => Lane.sendCfg_cm l i) _ _
@[simp] theorem Lane.sendAllCfg_le (l : Lane) : (l.sendAllCfg).le = l.le := Lane.foldl_keeps (·.le) _ (fun l i => Lane.sendCfg_le l i) _ _
@[simp] theorem Lane.sendAllCfg_sf (l : Lane) : (l.sendAllCfg).sf = l.sf := Lane.foldl_keeps (·.sf) _ (fun l i => Lane.sendCfg_sf l i) _ _
@[simp] theorem Lane.sendAllCfg_die (l : Lane) : (l.sendAllCfg).die = l.die := Lane.foldl_keeps (·.die) _ (fun l i => Lane.sendCfg_die l i) _ _
@[simp] theorem Lane.sendAllCfg_ln (l : Lane) : (l.sendAllCfg).ln = l.ln := Lane.foldl_keeps (·.ln) _ (fun l i => Lane.sendCfg_ln l i) _ _
@[simp] theorem Lane.sendAllCfg_ig (l : Lane) : (l.sendAllCfg).ig = l.ig := Lane.foldl_keeps (·.ig) _ (fun l i => Lane.sendCfg_ig l i) _ _
@[simp] theorem Lane.sendAllCfg_ts (l : Lane) : (l.sendAllCfg).ts = l.ts := Lane.foldl_keeps (·.ts) _ (fun l i => Lane.sendCfg_ts l i) _ _
@[simp] theorem Lane.sendAllCfg_sp (l : Lane) : (l.sendAllCfg).sp = l.sp := Lane.foldl_keeps (·.sp) _ (fun l i => Lane.sendCfg_sp l i) _ _
@[simp] theorem Lane.sendAllCfg_env (l : Lane) : (l.sendAllCfg).env = l.env := Lane.foldl_keeps (·.env) _ (fun l i => Lane.sendCfg_env l i) _ _
@[simp] theorem Lane.sendAllCfg_hr (l : Lane) : (l.sendAllCfg).hr = l.hr := Lane.foldl_keeps (·.hr) _ (fun l i => Lane.sendCfg_hr l i) _ _
@[simp] theorem Lane.sendAllCfg_pw (l : Lane) : (l.sendAllCfg).pw = l.pw := Lane.foldl_keeps (·.pw) _ (fun l i => Lane.sendCfg_pw l i) _ _
@[simp] theorem Lane.sendAllCfg_head (l : Lane) : (l.sendAllCfg).head = l.head := Lane.foldl_keeps (·.head) _ (fun l i => Lane.sendCfg_head l i) _ _

@[simp] theorem Lane.dropToken_id (l : Lane) : (l.dropToken).id = l.id := by unfold Lane.dropToken; dsimp only; first | rfl | (simp; done) | (split <;> first | rfl | (simp; done) | (split <;> first | rfl | (simp; done)))
@[simp] theorem Lane.dropToken_now (l : Lane) : (l.dropToken).now = l.now := by unfold Lane.dropToken; dsimp only; first | rfl | (simp; done) | (split <;> first | rfl | (simp; done) | (split <;> first | rfl | (simp; done)))
@[simp] theorem Lane.dropToken_relAt (l : Lane) : (l.dropToken).relAt = l.relAt := by unfold Lane.dropToken; dsimp only; first | rfl | (simp; done) | (split <;> first | rfl | (simp; done) | (split <;> first | rfl | (simp; done)))
@[simp] theorem Lane.dropToken_free (l : Lane) : (l.dropToken).free = l.free := by unfold Lane.dropToken; dsimp only; first | rfl | (simp; done) | (split <;> first | rfl | (simp; done) | (split <;> first | rfl | (simp; done)))
@[simp] theorem Lane.dropToken_regs (l : Lane) : (l.dropToken).regs = l.regs := by unfold Lane.dropToken; dsimp only; first | rfl | (simp; done) | (split <;> first | rfl | (simp; done) | (split <;> first | rfl | (simp; done)))
@[simp] theorem Lane.dropToken_sys (l : Lane) : (l.dropToken).sys = l.sys := by unfold Lane.dropToken; dsimp only; first | rfl | (simp; done) | (split <;> first | rfl | (simp; done) | (split <;> first | rfl | (simp; done)))
@[simp] theorem Lane.dropToken_tl (l : Lane) : (l.dropToken).tl = l.tl := by unfold Lane.dropToken; dsimp only; first | rfl | (simp; done) | (split <;> first | rfl | (simp; done) | (split <;> first | rfl | (simp; done)))
@[simp] theorem Lane.dropToken_fb (l : Lane) : (l.dropToken).fb = l.fb := by unfold Lane.dropToken; dsimp only; first | rfl | (simp; done) | (split <;> first | rfl | (simp; done) | (split <;> first | rfl | (simp; done)))
@[simp] theorem Lane.dropToken_cv (l : Lane) : (l.dropToken).cv = l.cv := by unfold Lane.dropToken; dsimp only; first | rfl | (simp; done) | (split <;> first | rfl | (simp; done) | (split <;> first | rfl | (simp; done)))
@[simp] theorem Lane.dropToken_le (l : Lane) : (l.dropToken).le = l.le := by unfold Lane.dropToken; dsimp only; first | rfl | (simp; done) | (split <;> first | rfl | (simp; done) | (split <;> first | rfl | (simp; done)))
@[simp] theorem Lane.dropToken_sf (l : Lane) : (l.dropToken).sf = l.sf := by unfold Lane.dropToken; dsimp only; first | rfl | (simp; done) | (split <;> first | rfl | (simp; done) | (split <;> first | rfl | (simp; done)))
@[simp] theorem Lane.dropToken_die (l : Lane) : (l.dropToken).die = l.die := by unfold Lane.dropToken; dsimp only; first | rfl | (simp; done) | (split <;> first | rfl | (simp; done) | (split <;> first | rfl | (simp; done)))
@[simp] theorem Lane.dropToken_ig (l : Lane) : (l.dropToken).ig = l.ig := by unfold Lane.dropToken; dsimp only; first | rfl | (simp; done) | (split <;> first | rfl | (simp; done) | (split <;> first | rfl | (simp; done)))
@[simp] theorem Lane.dropToken_ts (l : Lane) : (l.dropToken).ts = l.ts := by unfold Lane.dropToken; dsimp only; first | rfl | (simp; done) | (split <;> first | rfl | (simp; done) | (split <;> first | rfl | (simp; done)))
@[simp] theorem Lane.dropToken_sp (l : Lane) : (l.dropToken).sp = l.sp := by unfold Lane.dropToken; dsimp only; first | rfl | (simp; done) | (split <;> first | rfl | (simp; done) | (split <;> first | rfl | (simp; done)))
@[simp] theorem Lane.dropToken_pw (l : Lane) : (l.dropToken).pw = l.pw := by unfold Lane.dropToken; dsimp only; first | rfl | (simp; done) | (split <;> first | rfl | (simp; done) | (split <;> first | rfl | (simp; done)))
@[simp] theorem Lane.dropToken_head (l : Lane) : (l.dropToken).head = l.head := by unfold Lane.dropToken; dsimp only; first | rfl | (simp; done) | (split <;> first | rfl | (simp; done) | (split <;> first | rfl | (simp; done)))

@[simp] theorem Lane.stopShadow_id (l : Lane) : (l.stopShadow).id = l.id := rfl
@[simp] theorem Lane.stopShadow_now (l : Lane) : (l.stopShadow).now = l.now := rfl
@[simp] theorem Lane.stopShadow_relAt (l : Lane) : (l.stopShadow).relAt = l.relAt := rfl
@[simp] theorem Lane.stopShadow_free (l : Lane) : (l.stopShadow).free = l.free := rfl
@[simp] theorem Lane.stopShadow_regs (l : Lane) : (l.stopShadow).regs = l.regs := rfl
@[simp] theorem Lane.stopShadow_status (l : Lane) : (l.stopShadow).status = l.status := rfl
@[simp] theorem Lane.stopShadow_sys (l : Lane) : (l.stopShadow).sys = l.sys := rfl
@[simp] theorem Lane.stopShadow_tl (l : Lane) : (l.stopShadow).tl = l.tl := rfl
@[simp] theorem Lane.stopShadow_fb (l : Lane) : (l.stopShadow).fb = l.fb := rfl
@[simp] theorem Lane.stopShadow_cv (l : Lane) : (l.stopShadow).cv = l.cv := rfl
@[simp] theorem Lane.stopShadow_sf (l : Lane) : (l.stopShadow).sf = l.sf := rfl
@[simp] theorem Lane.stopShadow_port (l : Lane) : (l.stopShadow).port = l.port := rfl
@[simp] theorem Lane.stopShadow_die (l : Lane) : (l.stopShadow).die = l.die := rfl
@[simp] theorem Lane.stopShadow_ln (l : Lane) : (l.stopShadow).ln = l.ln := rfl
@[simp] theorem Lane.stopShadow_ig (l : Lane) : (l.stopShadow).ig = l.ig := rfl
@[simp] theorem Lane.stopShadow_ts (l : Lane) : (l.stopShadow).ts = l.ts := rfl
@[simp] theorem Lane.stopShadow_sp (l : Lane) : (l.stopShadow).sp = l.sp := rfl
@[simp] theorem Lane.stopShadow_env (l : Lane) : (l.stopShadow).env = l.env := rfl
@[simp] theorem Lane.stopShadow_hr (l : Lane) : (l.stopShadow).hr = l.hr := rfl
@[simp] theorem Lane.stopShadow_pw (l : Lane) : (l.stopShadow).pw = l.pw := rfl
@[simp] theorem Lane.stopShadow_head (l : Lane) : (l.stopShadow).head = l.head := rfl

@[simp] theorem Lane.withdraw_id (l : Lane) : (l.withdraw).id = l.id := rfl
@[simp] theorem Lane.withdraw_now (l : Lane) : (l.withdraw).now = l.now := rfl
@[simp] theorem Lane.withdraw_relAt (l : Lane) : (l.withdraw).relAt = l.relAt := rfl
@[simp] theorem Lane.withdraw_free (l : Lane) : (l.withdraw).free = l.free := rfl
@[simp] theorem Lane.withdraw_regs (l : Lane) : (l.withdraw).regs = l.regs := rfl
@[simp] theorem Lane.withdraw_status (l : Lane) : (l.withdraw).status = l.status := rfl
@[simp] theorem Lane.withdraw_sys (l : Lane) : (l.withdraw).sys = l.sys := rfl
@[simp] theorem Lane.withdraw_tl (l : Lane) : (l.withdraw).tl = l.tl := rfl
@[simp] theorem Lane.withdraw_fb (l : Lane) : (l.withdraw).fb = l.fb := rfl
@[simp] theorem Lane.withdraw_cv (l : Lane) : (l.withdraw).cv = l.cv := rfl
@[simp] theorem Lane.withdraw_sf (l : Lane) : (l.withdraw).sf = l.sf := rfl
@[simp] theorem Lane.withdraw_die (l : Lane) : (l.withdraw).die = l.die := rfl
@[simp] theorem Lane.withdraw_ig (l : Lane) : (l.withdraw).ig = l.ig := rfl
@[simp] theorem Lane.withdraw_ts (l : Lane) : (l.withdraw).ts = l.ts := rfl
@[simp] theorem Lane.withdraw_sp (l : Lane) : (l.withdraw).sp = l.sp := rfl
@[simp] theorem Lane.withdraw_env (l : Lane) : (l.withdraw).env = l.env := rfl
@[simp] theorem Lane.withdraw_hr (l : Lane) : (l.withdraw).hr = l.hr := rfl
@[simp] theorem Lane.withdraw_pw (l : Lane) : (l.withdraw).pw = l.pw := rfl
@[simp] theorem Lane.withdraw_head (l : Lane) : (l.withdraw).head = l.head := rfl

@[simp] theorem Lane.trigger_id (l : Lane) (code detail : Nat) : (l.trigger code detail).id = l.id := by simp [Lane.trigger, apply_ite Lane.id]
@[simp] theorem Lane.trigger_now (l : Lane) (code detail : Nat) : (l.trigger code detail).now = l.now := by simp [Lane.trigger, apply_ite Lane.now]
@[simp] theorem Lane.trigger_relAt (l : Lane) (code detail : Nat) : (l.trigger code detail).relAt = l.relAt := by simp [Lane.trigger, apply_ite Lane.relAt]
@[simp] theorem Lane.trigger_free (l : Lane) (code detail : Nat) : (l.trigger code detail).free = l.free := by simp [Lane.trigger, apply_ite Lane.free]
@[simp] theorem Lane.trigger_regs (l : Lane) (code detail : Nat) : (l.trigger code detail).regs = l.regs := by simp [Lane.trigger, apply_ite Lane.regs]
@[simp] theorem Lane.trigger_sys (l : Lane) (code detail : Nat) : (l.trigger code detail).sys = l.sys := by simp [Lane.trigger, apply_ite Lane.sys]
@[simp] theorem Lane.trigger_tl (l : Lane) (code detail : Nat) : (l.trigger code detail).tl = l.tl := by simp [Lane.trigger, apply_ite Lane.tl]
@[simp] theorem Lane.trigger_fb (l : Lane) (code detail : Nat) : (l.trigger code detail).fb = l.fb := by simp [Lane.trigger, apply_ite Lane.fb]
@[simp] theorem Lane.trigger_cv (l : Lane) (code detail : Nat) : (l.trigger code detail).cv = l.cv := by simp [Lane.trigger, apply_ite Lane.cv]
@[simp] theorem Lane.trigger_sf (l : Lane) (code detail : Nat) : (l.trigger code detail).sf = l.sf := by simp [Lane.trigger, apply_ite Lane.sf]
@[simp] theorem Lane.trigger_die (l : Lane) (code detail : Nat) : (l.trigger code detail).die = l.die := by simp [Lane.trigger, apply_ite Lane.die]
@[simp] theorem Lane.trigger_ig (l : Lane) (code detail : Nat) : (l.trigger code detail).ig = l.ig := by simp [Lane.trigger, apply_ite Lane.ig]
@[simp] theorem Lane.trigger_ts (l : Lane) (code detail : Nat) : (l.trigger code detail).ts = l.ts := by simp [Lane.trigger, apply_ite Lane.ts]
@[simp] theorem Lane.trigger_sp (l : Lane) (code detail : Nat) : (l.trigger code detail).sp = l.sp := by simp [Lane.trigger, apply_ite Lane.sp]
@[simp] theorem Lane.trigger_pw (l : Lane) (code detail : Nat) : (l.trigger code detail).pw = l.pw := by simp [Lane.trigger, apply_ite Lane.pw]
@[simp] theorem Lane.trigger_head (l : Lane) (code detail : Nat) : (l.trigger code detail).head = l.head := by simp [Lane.trigger, apply_ite Lane.head]

@[simp] theorem Lane.startHandover_id (l : Lane) (code : Nat) : (l.startHandover code).id = l.id := rfl
@[simp] theorem Lane.startHandover_now (l : Lane) (code : Nat) : (l.startHandover code).now = l.now := rfl
@[simp] theorem Lane.startHandover_relAt (l : Lane) (code : Nat) : (l.startHandover code).relAt = l.relAt := rfl
@[simp] theorem Lane.startHandover_free (l : Lane) (code : Nat) : (l.startHandover code).free = l.free := rfl
@[simp] theorem Lane.startHandover_regs (l : Lane) (code : Nat) : (l.startHandover code).regs = l.regs := rfl
@[simp] theorem Lane.startHandover_status (l : Lane) (code : Nat) : (l.startHandover code).status = l.status := rfl
@[simp] theorem Lane.startHandover_sys (l : Lane) (code : Nat) : (l.startHandover code).sys = l.sys := rfl
@[simp] theorem Lane.startHandover_tl (l : Lane) (code : Nat) : (l.startHandover code).tl = l.tl := rfl
@[simp] theorem Lane.startHandover_fb (l : Lane) (code : Nat) : (l.startHandover code).fb = l.fb := rfl
@[simp] theorem Lane.startHandover_cv (l : Lane) (code : Nat) : (l.startHandover code).cv = l.cv := rfl
@[simp] theorem Lane.startHandover_cm (l : Lane) (code : Nat) : (l.startHandover code).cm = l.cm := rfl
@[simp] theorem Lane.startHandover_le (l : Lane) (code : Nat) : (l.startHandover code).le = l.le := rfl
@[simp] theorem Lane.startHandover_sf (l : Lane) (code : Nat) : (l.startHandover code).sf = l.sf := rfl
@[simp] theorem Lane.startHandover_port (l : Lane) (code : Nat) : (l.startHandover code).port = l.port := rfl
@[simp] theorem Lane.startHandover_die (l : Lane) (code : Nat) : (l.startHandover code).die = l.die := rfl
@[simp] theorem Lane.startHandover_ig (l : Lane) (code : Nat) : (l.startHandover code).ig = l.ig := rfl
@[simp] theorem Lane.startHandover_ts (l : Lane) (code : Nat) : (l.startHandover code).ts = l.ts := rfl
@[simp] theorem Lane.startHandover_sp (l : Lane) (code : Nat) : (l.startHandover code).sp = l.sp := rfl
@[simp] theorem Lane.startHandover_env (l : Lane) (code : Nat) : (l.startHandover code).env = l.env := rfl
@[simp] theorem Lane.startHandover_hr (l : Lane) (code : Nat) : (l.startHandover code).hr = l.hr := rfl
@[simp] theorem Lane.startHandover_pw (l : Lane) (code : Nat) : (l.startHandover code).pw = l.pw := rfl
@[simp] theorem Lane.startHandover_head (l : Lane) (code : Nat) : (l.startHandover code).head = l.head := rfl

@[simp] theorem Lane.impair_id (l : Lane) (code : Nat) : (l.impair code).id = l.id := by simp [Lane.impair, apply_ite Lane.id]
@[simp] theorem Lane.impair_now (l : Lane) (code : Nat) : (l.impair code).now = l.now := by simp [Lane.impair, apply_ite Lane.now]
@[simp] theorem Lane.impair_relAt (l : Lane) (code : Nat) : (l.impair code).relAt = l.relAt := by simp [Lane.impair, apply_ite Lane.relAt]
@[simp] theorem Lane.impair_free (l : Lane) (code : Nat) : (l.impair code).free = l.free := by simp [Lane.impair, apply_ite Lane.free]
@[simp] theorem Lane.impair_regs (l : Lane) (code : Nat) : (l.impair code).regs = l.regs := by simp [Lane.impair, apply_ite Lane.regs]
@[simp] theorem Lane.impair_status (l : Lane) (code : Nat) : (l.impair code).status = l.status := by simp [Lane.impair, apply_ite Lane.status]
@[simp] theorem Lane.impair_sys (l : Lane) (code : Nat) : (l.impair code).sys = l.sys := by simp [Lane.impair, apply_ite Lane.sys]
@[simp] theorem Lane.impair_tl (l : Lane) (code : Nat) : (l.impair code).tl = l.tl := by simp [Lane.impair, apply_ite Lane.tl]
@[simp] theorem Lane.impair_fb (l : Lane) (code : Nat) : (l.impair code).fb = l.fb := by simp [Lane.impair, apply_ite Lane.fb]
@[simp] theorem Lane.impair_cv (l : Lane) (code : Nat) : (l.impair code).cv = l.cv := by simp [Lane.impair, apply_ite Lane.cv]
@[simp] theorem Lane.impair_cm (l : Lane) (code : Nat) : (l.impair code).cm = l.cm := by simp [Lane.impair, apply_ite Lane.cm]
@[simp] theorem Lane.impair_le (l : Lane) (code : Nat) : (l.impair code).le = l.le := by simp [Lane.impair, apply_ite Lane.le]
@[simp] theorem Lane.impair_sf (l : Lane) (code : Nat) : (l.impair code).sf = l.sf := by simp [Lane.impair, apply_ite Lane.sf]
@[simp] theorem Lane.impair_port (l : Lane) (code : Nat) : (l.impair code).port = l.port := by simp [Lane.impair, apply_ite Lane.port]
@[simp] theorem Lane.impair_die (l : Lane) (code : Nat) : (l.impair code).die = l.die := by simp [Lane.impair, apply_ite Lane.die]
@[simp] theorem Lane.impair_ig (l : Lane) (code : Nat) : (l.impair code).ig = l.ig := by simp [Lane.impair, apply_ite Lane.ig]
@[simp] theorem Lane.impair_ts (l : Lane) (code : Nat) : (l.impair code).ts = l.ts := by simp [Lane.impair, apply_ite Lane.ts]
@[simp] theorem Lane.impair_sp (l : Lane) (code : Nat) : (l.impair code).sp = l.sp := by simp [Lane.impair, apply_ite Lane.sp]
@[simp] theorem Lane.impair_env (l : Lane) (code : Nat) : (l.impair code).env = l.env := by simp [Lane.impair, apply_ite Lane.env]
@[simp] theorem Lane.impair_hr (l : Lane) (code : Nat) : (l.impair code).hr = l.hr := by simp [Lane.impair, apply_ite Lane.hr]
@[simp] theorem Lane.impair_pw (l : Lane) (code : Nat) : (l.impair code).pw = l.pw := by simp [Lane.impair, apply_ite Lane.pw]
@[simp] theorem Lane.impair_head (l : Lane) (code : Nat) : (l.impair code).head = l.head := by simp [Lane.impair, apply_ite Lane.head]

@[simp] theorem Lane.settleRole_id (l : Lane) : (l.settleRole).id = l.id := by simp [Lane.settleRole, apply_ite Lane.id]
@[simp] theorem Lane.settleRole_now (l : Lane) : (l.settleRole).now = l.now := by simp [Lane.settleRole, apply_ite Lane.now]
@[simp] theorem Lane.settleRole_relAt (l : Lane) : (l.settleRole).relAt = l.relAt := by simp [Lane.settleRole, apply_ite Lane.relAt]
@[simp] theorem Lane.settleRole_free (l : Lane) : (l.settleRole).free = l.free := by simp [Lane.settleRole, apply_ite Lane.free]
@[simp] theorem Lane.settleRole_regs (l : Lane) : (l.settleRole).regs = l.regs := by simp [Lane.settleRole, apply_ite Lane.regs]
@[simp] theorem Lane.settleRole_sys (l : Lane) : (l.settleRole).sys = l.sys := by simp [Lane.settleRole, apply_ite Lane.sys]
@[simp] theorem Lane.settleRole_tl (l : Lane) : (l.settleRole).tl = l.tl := by simp [Lane.settleRole, apply_ite Lane.tl]
@[simp] theorem Lane.settleRole_fb (l : Lane) : (l.settleRole).fb = l.fb := by simp [Lane.settleRole, apply_ite Lane.fb]
@[simp] theorem Lane.settleRole_cv (l : Lane) : (l.settleRole).cv = l.cv := by simp [Lane.settleRole, apply_ite Lane.cv]
@[simp] theorem Lane.settleRole_sf (l : Lane) : (l.settleRole).sf = l.sf := by simp [Lane.settleRole, apply_ite Lane.sf]
@[simp] theorem Lane.settleRole_die (l : Lane) : (l.settleRole).die = l.die := by simp [Lane.settleRole, apply_ite Lane.die]
@[simp] theorem Lane.settleRole_ig (l : Lane) : (l.settleRole).ig = l.ig := by simp [Lane.settleRole, apply_ite Lane.ig]
@[simp] theorem Lane.settleRole_ts (l : Lane) : (l.settleRole).ts = l.ts := by simp [Lane.settleRole, apply_ite Lane.ts]
@[simp] theorem Lane.settleRole_sp (l : Lane) : (l.settleRole).sp = l.sp := by simp [Lane.settleRole, apply_ite Lane.sp]
@[simp] theorem Lane.settleRole_pw (l : Lane) : (l.settleRole).pw = l.pw := by simp [Lane.settleRole, apply_ite Lane.pw]
@[simp] theorem Lane.settleRole_head (l : Lane) : (l.settleRole).head = l.head := by simp [Lane.settleRole, apply_ite Lane.head]

@[simp] theorem Lane.deferCause_id (l : Lane) (code detail : Nat) : (l.deferCause code detail).id = l.id := by simp [Lane.deferCause, apply_ite Lane.id]
@[simp] theorem Lane.deferCause_now (l : Lane) (code detail : Nat) : (l.deferCause code detail).now = l.now := by simp [Lane.deferCause, apply_ite Lane.now]
@[simp] theorem Lane.deferCause_relAt (l : Lane) (code detail : Nat) : (l.deferCause code detail).relAt = l.relAt := by simp [Lane.deferCause, apply_ite Lane.relAt]
@[simp] theorem Lane.deferCause_free (l : Lane) (code detail : Nat) : (l.deferCause code detail).free = l.free := by simp [Lane.deferCause, apply_ite Lane.free]
@[simp] theorem Lane.deferCause_regs (l : Lane) (code detail : Nat) : (l.deferCause code detail).regs = l.regs := by simp [Lane.deferCause, apply_ite Lane.regs]
@[simp] theorem Lane.deferCause_sys (l : Lane) (code detail : Nat) : (l.deferCause code detail).sys = l.sys := by simp [Lane.deferCause, apply_ite Lane.sys]
@[simp] theorem Lane.deferCause_tl (l : Lane) (code detail : Nat) : (l.deferCause code detail).tl = l.tl := by simp [Lane.deferCause, apply_ite Lane.tl]
@[simp] theorem Lane.deferCause_fb (l : Lane) (code detail : Nat) : (l.deferCause code detail).fb = l.fb := by simp [Lane.deferCause, apply_ite Lane.fb]
@[simp] theorem Lane.deferCause_cv (l : Lane) (code detail : Nat) : (l.deferCause code detail).cv = l.cv := by simp [Lane.deferCause, apply_ite Lane.cv]
@[simp] theorem Lane.deferCause_sf (l : Lane) (code detail : Nat) : (l.deferCause code detail).sf = l.sf := by simp [Lane.deferCause, apply_ite Lane.sf]
@[simp] theorem Lane.deferCause_die (l : Lane) (code detail : Nat) : (l.deferCause code detail).die = l.die := by simp [Lane.deferCause, apply_ite Lane.die]
@[simp] theorem Lane.deferCause_ig (l : Lane) (code detail : Nat) : (l.deferCause code detail).ig = l.ig := by simp [Lane.deferCause, apply_ite Lane.ig]
@[simp] theorem Lane.deferCause_ts (l : Lane) (code detail : Nat) : (l.deferCause code detail).ts = l.ts := by simp [Lane.deferCause, apply_ite Lane.ts]
@[simp] theorem Lane.deferCause_sp (l : Lane) (code detail : Nat) : (l.deferCause code detail).sp = l.sp := by simp [Lane.deferCause, apply_ite Lane.sp]
@[simp] theorem Lane.deferCause_pw (l : Lane) (code detail : Nat) : (l.deferCause code detail).pw = l.pw := by simp [Lane.deferCause, apply_ite Lane.pw]
@[simp] theorem Lane.deferCause_head (l : Lane) (code detail : Nat) : (l.deferCause code detail).head = l.head := by simp [Lane.deferCause, apply_ite Lane.head]

@[simp] theorem Lane.clearCause_id (l : Lane) (code : Nat) : (l.clearCause code).id = l.id := rfl
@[simp] theorem Lane.clearCause_now (l : Lane) (code : Nat) : (l.clearCause code).now = l.now := rfl
@[simp] theorem Lane.clearCause_relAt (l : Lane) (code : Nat) : (l.clearCause code).relAt = l.relAt := rfl
@[simp] theorem Lane.clearCause_free (l : Lane) (code : Nat) : (l.clearCause code).free = l.free := rfl
@[simp] theorem Lane.clearCause_regs (l : Lane) (code : Nat) : (l.clearCause code).regs = l.regs := rfl
@[simp] theorem Lane.clearCause_status (l : Lane) (code : Nat) : (l.clearCause code).status = l.status := rfl
@[simp] theorem Lane.clearCause_sys (l : Lane) (code : Nat) : (l.clearCause code).sys = l.sys := rfl
@[simp] theorem Lane.clearCause_tl (l : Lane) (code : Nat) : (l.clearCause code).tl = l.tl := rfl
@[simp] theorem Lane.clearCause_fb (l : Lane) (code : Nat) : (l.clearCause code).fb = l.fb := rfl
@[simp] theorem Lane.clearCause_cv (l : Lane) (code : Nat) : (l.clearCause code).cv = l.cv := rfl
@[simp] theorem Lane.clearCause_cm (l : Lane) (code : Nat) : (l.clearCause code).cm = l.cm := rfl
@[simp] theorem Lane.clearCause_le (l : Lane) (code : Nat) : (l.clearCause code).le = l.le := rfl
@[simp] theorem Lane.clearCause_sf (l : Lane) (code : Nat) : (l.clearCause code).sf = l.sf := rfl
@[simp] theorem Lane.clearCause_port (l : Lane) (code : Nat) : (l.clearCause code).port = l.port := rfl
@[simp] theorem Lane.clearCause_die (l : Lane) (code : Nat) : (l.clearCause code).die = l.die := rfl
@[simp] theorem Lane.clearCause_ig (l : Lane) (code : Nat) : (l.clearCause code).ig = l.ig := rfl
@[simp] theorem Lane.clearCause_ts (l : Lane) (code : Nat) : (l.clearCause code).ts = l.ts := rfl
@[simp] theorem Lane.clearCause_sp (l : Lane) (code : Nat) : (l.clearCause code).sp = l.sp := rfl
@[simp] theorem Lane.clearCause_env (l : Lane) (code : Nat) : (l.clearCause code).env = l.env := rfl
@[simp] theorem Lane.clearCause_hr (l : Lane) (code : Nat) : (l.clearCause code).hr = l.hr := rfl
@[simp] theorem Lane.clearCause_pw (l : Lane) (code : Nat) : (l.clearCause code).pw = l.pw := rfl
@[simp] theorem Lane.clearCause_head (l : Lane) (code : Nat) : (l.clearCause code).head = l.head := rfl

@[simp] theorem Lane.refuse_id (l : Lane) (host : Bool) (off reason : Nat) : (l.refuse host off reason).id = l.id := by simp [Lane.refuse]
@[simp] theorem Lane.refuse_now (l : Lane) (host : Bool) (off reason : Nat) : (l.refuse host off reason).now = l.now := by simp [Lane.refuse]
@[simp] theorem Lane.refuse_relAt (l : Lane) (host : Bool) (off reason : Nat) : (l.refuse host off reason).relAt = l.relAt := by simp [Lane.refuse]
@[simp] theorem Lane.refuse_free (l : Lane) (host : Bool) (off reason : Nat) : (l.refuse host off reason).free = l.free := by simp [Lane.refuse]
@[simp] theorem Lane.refuse_regs (l : Lane) (host : Bool) (off reason : Nat) : (l.refuse host off reason).regs = l.regs := by simp [Lane.refuse]
@[simp] theorem Lane.refuse_tl (l : Lane) (host : Bool) (off reason : Nat) : (l.refuse host off reason).tl = l.tl := by simp [Lane.refuse]
@[simp] theorem Lane.refuse_fb (l : Lane) (host : Bool) (off reason : Nat) : (l.refuse host off reason).fb = l.fb := by simp [Lane.refuse]
@[simp] theorem Lane.refuse_cv (l : Lane) (host : Bool) (off reason : Nat) : (l.refuse host off reason).cv = l.cv := by simp [Lane.refuse]
@[simp] theorem Lane.refuse_cm (l : Lane) (host : Bool) (off reason : Nat) : (l.refuse host off reason).cm = l.cm := by simp [Lane.refuse]
@[simp] theorem Lane.refuse_le (l : Lane) (host : Bool) (off reason : Nat) : (l.refuse host off reason).le = l.le := by simp [Lane.refuse]
@[simp] theorem Lane.refuse_sf (l : Lane) (host : Bool) (off reason : Nat) : (l.refuse host off reason).sf = l.sf := by simp [Lane.refuse]
@[simp] theorem Lane.refuse_port (l : Lane) (host : Bool) (off reason : Nat) : (l.refuse host off reason).port = l.port := by simp [Lane.refuse]
@[simp] theorem Lane.refuse_die (l : Lane) (host : Bool) (off reason : Nat) : (l.refuse host off reason).die = l.die := by simp [Lane.refuse]
@[simp] theorem Lane.refuse_ln (l : Lane) (host : Bool) (off reason : Nat) : (l.refuse host off reason).ln = l.ln := by simp [Lane.refuse]
@[simp] theorem Lane.refuse_ig (l : Lane) (host : Bool) (off reason : Nat) : (l.refuse host off reason).ig = l.ig := by simp [Lane.refuse]
@[simp] theorem Lane.refuse_ts (l : Lane) (host : Bool) (off reason : Nat) : (l.refuse host off reason).ts = l.ts := by simp [Lane.refuse]
@[simp] theorem Lane.refuse_sp (l : Lane) (host : Bool) (off reason : Nat) : (l.refuse host off reason).sp = l.sp := by simp [Lane.refuse]
@[simp] theorem Lane.refuse_env (l : Lane) (host : Bool) (off reason : Nat) : (l.refuse host off reason).env = l.env := by simp [Lane.refuse]
@[simp] theorem Lane.refuse_pw (l : Lane) (host : Bool) (off reason : Nat) : (l.refuse host off reason).pw = l.pw := by simp [Lane.refuse]
@[simp] theorem Lane.refuse_head (l : Lane) (host : Bool) (off reason : Nat) : (l.refuse host off reason).head = l.head := by simp [Lane.refuse]

end Sys2Proof.Machine
end

