-- ==== Sys2Proof/Laws/Flags.lean ====
section
/-! SUPPORT. What an event sets, and what it keeps, in the status registers. -/

namespace Sys2Proof.Machine

/-- The status table is in canonical form. -/
def Lane.statOk (l : Lane) : Prop := fwf (fun _ => initStatus) l.status = true

theorem Lane.Sound.statOk {k : LaneId} {l : Lane} (h : l.Sound k) : l.statOk := h.2.2.1

theorem Lane.Sound.regsOk {k : LaneId} {l : Lane} (h : l.Sound k) : fwf regReset l.regs = true := h.2.1

theorem stat_setStat_self (l : Lane) (off : Nat) (r : StatusReg) (h : l.statOk) : (l.setStat off r).stat off = r :=
  fget_fset_self _ _ 0 _ _ h

theorem stat_setStat_ne (l : Lane) (off o : Nat) (r : StatusReg) (h : l.statOk) (ho : o ≠ off) :
    (l.setStat off r).stat o = l.stat o := fget_fset_ne _ _ 0 _ _ _ h ho

theorem statOk_setStat (l : Lane) (off : Nat) (r : StatusReg) (h : l.statOk) : (l.setStat off r).statOk := fwf_fset _ _ _ _ h

theorem reg_setReg_self (l : Lane) (off : Nat) (w : Word) (h : fwf regReset l.regs = true) : (l.setReg off w).reg off = w :=
  fget_fset_self _ _ 0 _ _ h

theorem reg_setReg_ne (l : Lane) (off o : Nat) (w : Word) (h : fwf regReset l.regs = true) (ho : o ≠ off) :
    (l.setReg off w).reg o = l.reg o := fget_fset_ne _ _ 0 _ _ _ h ho

theorem statOk_eventAt (l : Lane) (off m : Nat) (h : l.statOk) : (l.eventAt off m).statOk := statOk_setStat l _ _ h

theorem bit_or (a b : Word) (i : Nat) : bit (a ||| b) i = (bit a i || bit b i) := by simp [bit]

theorem bit_pow (b : Nat) (h : b < 32) : bit (BitVec.ofNat 32 (2 ^ b)) b = true := by
  show (BitVec.ofNat 32 (2 ^ b)).getLsbD b = true
  rw [BitVec.getLsbD_ofNat]
  simp only [h, decide_true, Bool.true_and, Nat.testBit_two_pow_self]

/-- An event keeps every flag that was set. -/
theorem flagged_eventAt_mono (l : Lane) (off m o b : Nat) (h : l.statOk) (hf : l.flagged o b = true) :
    (l.eventAt off m).flagged o b = true := by
  unfold Lane.flagged Lane.eventAt at *
  by_cases ho : o = off
  · subst ho
    rw [stat_setStat_self _ _ _ h]
    simp [StatusReg.event, bit_or, hf]
  · rw [stat_setStat_ne _ _ _ _ h ho]
    exact hf

theorem flagged_eventAt_self (l : Lane) (off b : Nat) (h : l.statOk) (hb : b < 32) :
    (l.eventAt off (2 ^ b)).flagged off b = true := by
  unfold Lane.flagged Lane.eventAt
  rw [stat_setStat_self _ _ _ h]
  simp only [StatusReg.event, bit_or, bit_pow b hb, Bool.or_true]

theorem msix_stat (l : Lane) (v o : Nat) : (l.msix v).stat o = l.stat o := by simp [Lane.stat]

theorem fireVectors_stat (l : Lane) (off mask o : Nat) : (l.fireVectors off mask).stat o = l.stat o := by simp [Lane.stat]

theorem statOk_event (l : Lane) (off m : Nat) (h : l.statOk) : (l.event off m).statOk := by
  unfold Lane.event Lane.statOk
  rw [Lane.fireVectors_status]
  cases groupOf off with
  | none => exact statOk_eventAt l _ _ h
  | some g => exact statOk_eventAt _ _ _ (statOk_eventAt l _ _ h)

theorem flagged_event_mono (l : Lane) (off m o b : Nat) (h : l.statOk) (hf : l.flagged o b = true) :
    (l.event off m).flagged o b = true := by
  unfold Lane.event Lane.flagged
  rw [fireVectors_stat]
  cases groupOf off with
  | none => exact flagged_eventAt_mono l _ _ _ _ h hf
  | some g => exact flagged_eventAt_mono _ _ _ _ _ (statOk_eventAt l _ _ h) (flagged_eventAt_mono l _ _ _ _ h hf)

theorem flagged_event_self (l : Lane) (off b : Nat) (h : l.statOk) (hb : b < 32) :
    (l.event off (2 ^ b)).flagged off b = true := by
  unfold Lane.event Lane.flagged
  rw [fireVectors_stat]
  cases groupOf off with
  | none => exact flagged_eventAt_self l _ _ h hb
  | some g => exact flagged_eventAt_mono _ _ _ _ _ (statOk_eventAt l _ _ h) (flagged_eventAt_self l _ _ h hb)

/-- A flag event sets its flag. -/
theorem flagged_flag (l : Lane) (off b : Nat) (h : l.statOk) (hb : b < 32) : (l.flag off b).flagged off b = true :=
  flagged_event_self l off b h hb

theorem flagged_flag_mono (l : Lane) (off b o c : Nat) (h : l.statOk) (hf : l.flagged o c = true) :
    (l.flag off b).flagged o c = true := flagged_event_mono l _ _ _ _ h hf

theorem statOk_flag (l : Lane) (off b : Nat) (h : l.statOk) : (l.flag off b).statOk := statOk_event l _ _ h

theorem statOk_of_eq {l m : Lane} (e : m.status = l.status) (h : l.statOk) : m.statOk := by
  unfold Lane.statOk at *; rwa [e]

theorem flagged_of_eq {l m : Lane} (e : m.status = l.status) (o b : Nat) : m.flagged o b = l.flagged o b := by
  unfold Lane.flagged Lane.stat; rw [e]

theorem Lane.drainEvt_status_eq (n : Nat) (l : Lane) : (Lane.drainEvt n l).status = l.status := Lane.drainEvt_status n l

theorem statOk_evtPut (l : Lane) (e : EvtRec) (h : l.statOk) : (l.evtPut e).statOk := by
  unfold Lane.evtPut
  split
  · exact statOk_of_eq (by simp) h
  · exact statOk_flag _ _ _ (statOk_of_eq (by simp) h)

theorem flagged_evtPut_mono (l : Lane) (e : EvtRec) (o b : Nat) (h : l.statOk) (hf : l.flagged o b = true) :
    (l.evtPut e).flagged o b = true := by
  unfold Lane.evtPut
  split
  · rw [flagged_of_eq (l := l) (by simp)]; exact hf
  · refine flagged_flag_mono _ _ _ _ _ (statOk_of_eq (by simp) h) ?_
    rw [flagged_of_eq (l := l) (by simp)]; exact hf

theorem statOk_evt (l : Lane) (src flag unit : Nat) (h : l.statOk) : (l.evt src flag unit).statOk := statOk_evtPut _ _ h

theorem flagged_evt_mono (l : Lane) (src flag unit o b : Nat) (h : l.statOk) (hf : l.flagged o b = true) :
    (l.evt src flag unit).flagged o b = true := flagged_evtPut_mono _ _ _ _ h hf

/-- A flag event with its EVT record sets its flag. -/
theorem flagged_flagEvt (l : Lane) (off b src unit : Nat) (h : l.statOk) (hb : b < 32) :
    (l.flagEvt off b src unit).flagged off b = true :=
  flagged_evt_mono _ _ _ _ _ _ (statOk_flag _ _ _ h) (flagged_flag _ _ _ h hb)

theorem statOk_flagEvt (l : Lane) (off b src unit : Nat) (h : l.statOk) : (l.flagEvt off b src unit).statOk :=
  statOk_evt _ _ _ _ (statOk_flag _ _ _ h)

theorem flagged_flagEvt_mono (l : Lane) (off b src unit o c : Nat) (h : l.statOk) (hf : l.flagged o c = true) :
    (l.flagEvt off b src unit).flagged o c = true :=
  flagged_evt_mono _ _ _ _ _ _ (statOk_flag _ _ _ h) (flagged_flag_mono _ _ _ _ _ h hf)

theorem statOk_request (l : Lane) (item : Nat) (h : l.statOk) : (l.request item).statOk := by
  unfold Lane.request
  dsimp only
  split
  · exact h
  · exact statOk_flag _ _ _ (statOk_event _ _ _ (statOk_of_eq rfl h))

end Sys2Proof.Machine
end

