-- ==== Sys2Proof/Laws/Landing.lean ====
section
/-! SUPPORT. Laws of register fields and of the landing of a write. -/

namespace Sys2Proof.Machine

/-! Fields -/

theorem testBit_mask (lo width i : Nat) :
    ((2 ^ width - 1) * 2 ^ lo).testBit i = (decide (lo ≤ i) && decide (i - lo < width)) := by
  rw [Nat.mul_comm, Nat.testBit_two_pow_mul, Nat.testBit_two_pow_sub_one]

theorem getLsbD_setField (w : Word) (lo width v i : Nat) (hi : i < 32) :
    (setField w lo width v).getLsbD i =
      if lo ≤ i ∧ i < lo + width then v.testBit (i - lo) else w.getLsbD i := by
  simp only [setField, BitVec.getLsbD_or, BitVec.getLsbD_and, BitVec.getLsbD_not, BitVec.getLsbD_ofNat, hi,
    decide_true, Bool.true_and, Nat.mul_comm _ (2 ^ lo), Nat.testBit_two_pow_mul, Nat.testBit_mod_two_pow]
  by_cases h1 : lo ≤ i <;> by_cases h2 : i - lo < width <;> simp [h1, h2] <;> omega

theorem testBit_field (w : Word) (lo width i : Nat) :
    (field w lo width).testBit i = (decide (i < width) && w.getLsbD (lo + i)) := by
  rw [field, Nat.testBit_mod_two_pow, Nat.testBit_div_two_pow, Nat.add_comm]
  rfl

/-- A field reads back as set. -/
theorem field_setField (w : Word) (lo width v : Nat) (h : lo + width ≤ 32) :
    field (setField w lo width v) lo width = v % 2 ^ width := by
  apply Nat.eq_of_testBit_eq
  intro i
  rw [testBit_field, Nat.testBit_mod_two_pow]
  by_cases hi : i < width
  · rw [getLsbD_setField _ _ _ _ _ (by omega)]
    have h1 : lo ≤ lo + i ∧ lo + i < lo + width := by omega
    simp [hi, h1]
  · simp [hi]

/-- A field apart from the one set stays. -/
theorem field_setField_ne (w : Word) (lo width v lo' width' : Nat) (h : lo' + width' ≤ 32)
    (hd : lo' + width' ≤ lo ∨ lo + width ≤ lo') : field (setField w lo width v) lo' width' = field w lo' width' := by
  apply Nat.eq_of_testBit_eq
  intro i
  rw [testBit_field, testBit_field]
  by_cases hi : i < width'
  · rw [getLsbD_setField _ _ _ _ _ (by omega)]
    have h1 : ¬(lo ≤ lo' + i ∧ lo' + i < lo + width) := by omega
    simp [h1]
  · simp [hi]

theorem field_lt (w : Word) (lo width : Nat) : field w lo width < 2 ^ width := Nat.mod_lt _ (Nat.two_pow_pos width)

/-- A whole word set as a field of 32 bits. -/
theorem setField_full (w v : Word) : setField w 0 32 v.toNat = v := by
  ext i hi
  rw [← BitVec.getLsbD_eq_getElem, getLsbD_setField _ _ _ _ _ hi]
  simp [hi, BitVec.testBit_toNat]

theorem field_full (w : Word) : field w 0 32 = w.toNat := by
  simp [field, Nat.mod_eq_of_lt w.isLt]

/-! Landing -/

/-- A write on a row of the register map lands as that row says. -/
theorem landWrite_row (l : Lane) (off : Nat) (w : Wr) (r : RegRow) (hq : l.reaches w.req = true) (hbe : w.be = 0xF)
    (hk : off ≠ Reg.SYS_KEY) (h4 : off % 4 = 0) (hlt : off < 0x8000) (row : regRow? off = some r) :
    l.landWrite off w =
      if r.status then (l.setKey w.req false).writeBack w.req off w.val
      else match (l.setKey w.req false).landFields (l.keyOf w.req) off r.fields w.val with
        | (0, l) => l
        | (code, l) => l.refuse w.req.isHost off code := by
  simp only [Lane.landWrite, hq, hbe, hk, Lane.landAt, h4, hlt, row]
  first
  | (simp; done)
  | (simp; rfl)

/-- A write that touches one field, permits it, and is refused by no rule, takes effect. -/
theorem landFields_one (l : Lane) (keyed : Bool) (off : Nat) (f : Fld) (v : Word)
    (hw : f.lo + f.width ≤ 32)
    (hkey : f.acc.keyed = true → keyed = true) (hrun : f.acc.runLocked = true → l.inRun = false)
    (hdiff : field v f.lo f.width ≠ if f.acc.writeOnly then 0 else field (l.held off [f]) f.lo f.width)
    (hwo : f.acc.writeOnly = true → field (l.held off [f]) f.lo f.width = 0)
    (hval : l.valueRefused off (setField (l.held off [f]) f.lo f.width (field v f.lo f.width)) = false)
    (hst : l.stateRefused off (l.held off [f]) (setField (l.held off [f]) f.lo f.width (field v f.lo f.width)) = false) :
    l.landFields keyed off [f] v =
      (0, l.accept off [f] (l.held off [f]) (setField (l.held off [f]) f.lo f.width (field v f.lo f.width))) := by
  have hne : setField (l.held off [f]) f.lo f.width (field v f.lo f.width) ≠ l.held off [f] := by
    intro h
    have := field_setField (l.held off [f]) f.lo f.width (field v f.lo f.width) hw
    rw [h, Nat.mod_eq_of_lt (field_lt _ _ _)] at this
    by_cases hb : f.acc.writeOnly = true
    · rw [hwo hb] at this; simp [hb, ← this] at hdiff
    · simp [hb, this] at hdiff
  have hk : ¬(f.acc.keyed = true ∧ (!keyed) = true) := by
    rintro ⟨h1, h2⟩; rw [hkey h1] at h2; simp at h2
  have hr : ¬(f.acc.runLocked = true ∧ l.inRun = true) := by
    rintro ⟨h1, h2⟩; rw [hrun h1] at h2; simp at h2
  simp only [Lane.landFields, Landing.fields, List.foldl, Landing.field, hdiff, false_and, if_false, hk, hr, hval, hst]
  simp [hne]

/-- A write whose fields come out as `new`, with none refused, takes effect. -/
theorem landFields_of (l : Lane) (keyed : Bool) (off : Nat) (fs : List Fld) (v new : Word)
    (hnd : (off == Reg.GD_DT && !l.port.dtLocked && keyed && !l.inRun) = false)
    (hf : (Landing.fields ⟨keyed, l.inRun, windowReg off⟩ fs (l.held off fs) v) = (new, 0)) (hne : new ≠ l.held off fs)
    (hval : l.valueRefused off new = false) (hst : l.stateRefused off (l.held off fs) new = false) :
    l.landFields keyed off fs v = (0, l.accept off fs (l.held off fs) new) := by
  simp only [Lane.landFields, hnd, Bool.or_false, hf, hval, hst]
  simp [hne]

/-- One field set in a word changes it where the value differs from the field. -/
theorem setField_ne (w : Word) (lo width v : Nat) (h : lo + width ≤ 32) (hv : v % 2 ^ width ≠ field w lo width) :
    setField w lo width v ≠ w := by
  intro e
  have := field_setField w lo width v h
  rw [e] at this
  exact hv this.symm

theorem field_held_wo (l : Lane) (off : Nat) (f g : Fld) (hf : f.lo + f.width ≤ 32) (hg : g.lo + g.width ≤ 32)
    (wf : f.acc.writeOnly = true) (wg : g.acc.writeOnly = true) (hd : f.lo + f.width ≤ g.lo ∨ g.lo + g.width ≤ f.lo) :
    field (l.held off [f, g]) f.lo f.width = 0 ∧ field (l.held off [f, g]) g.lo g.width = 0 := by
  simp only [Lane.held, storedWord, List.foldl, wf, wg, if_true]
  rw [field_setField_ne _ _ _ _ _ _ hf (by omega), field_setField _ _ _ _ hf, field_setField _ _ _ _ hg]
  simp

theorem held_writeOnly (l : Lane) (off : Nat) (f : Fld) (hw : f.lo + f.width ≤ 32) (h : f.acc.writeOnly = true) :
    field (l.held off [f]) f.lo f.width = 0 := by
  simp [Lane.held, storedWord, h, field_setField _ _ _ _ hw]

end Sys2Proof.Machine
end

