-- ==== Sys2Proof/Laws/Lanes.lean ====
section
/-! SUPPORT. What the operations of the chapters leave as it was. -/

namespace Sys2Proof.Machine

@[simp] theorem Lane.shakeEnd_id (l : Lane) (r : ShakeReq) (st : Nat) : (l.shakeEnd r st).id = l.id := by unfold Lane.shakeEnd; first | rfl | (simp; done) | (split <;> first | rfl | (simp; done) | (split <;> first | rfl | (simp; done)))
@[simp] theorem Lane.shakeEnd_now (l : Lane) (r : ShakeReq) (st : Nat) : (l.shakeEnd r st).now = l.now := by unfold Lane.shakeEnd; first | rfl | (simp; done) | (split <;> first | rfl | (simp; done) | (split <;> first | rfl | (simp; done)))
@[simp] theorem Lane.shakeEnd_relAt (l : Lane) (r : ShakeReq) (st : Nat) : (l.shakeEnd r st).relAt = l.relAt := by unfold Lane.shakeEnd; first | rfl | (simp; done) | (split <;> first | rfl | (simp; done) | (split <;> first | rfl | (simp; done)))
@[simp] theorem Lane.shakeEnd_free (l : Lane) (r : ShakeReq) (st : Nat) : (l.shakeEnd r st).free = l.free := by unfold Lane.shakeEnd; first | rfl | (simp; done) | (split <;> first | rfl | (simp; done) | (split <;> first | rfl | (simp; done)))
@[simp] theorem Lane.shakeEnd_regs (l : Lane) (r : ShakeReq) (st : Nat) : (l.shakeEnd r st).regs = l.regs := by unfold Lane.shakeEnd; first | rfl | (simp; done) | (split <;> first | rfl | (simp; done) | (split <;> first | rfl | (simp; done)))
@[simp] theorem Lane.shakeEnd_status (l : Lane) (r : ShakeReq) (st : Nat) : (l.shakeEnd r st).status = l.status := by unfold Lane.shakeEnd; first | rfl | (simp; done) | (split <;> first | rfl | (simp; done) | (split <;> first | rfl | (simp; done)))
@[simp] theorem Lane.shakeEnd_sys (l : Lane) (r : ShakeReq) (st : Nat) : (l.shakeEnd r st).sys = l.sys := by unfold Lane.shakeEnd; first | rfl | (simp; done) | (split <;> first | rfl | (simp; done) | (split <;> first | rfl | (simp; done)))
@[simp] theorem Lane.shakeEnd_tl (l : Lane) (r : ShakeReq) (st : Nat) : (l.shakeEnd r st).tl = l.tl := by unfold Lane.shakeEnd; first | rfl | (simp; done) | (split <;> first | rfl | (simp; done) | (split <;> first | rfl | (simp; done)))
@[simp] theorem Lane.shakeEnd_fb (l : Lane) (r : ShakeReq) (st : Nat) : (l.shakeEnd r st).fb = l.fb := by unfold Lane.shakeEnd; first | rfl | (simp; done) | (split <;> first | rfl | (simp; done) | (split <;> first | rfl | (simp; done)))
@[simp] theorem Lane.shakeEnd_cv (l : Lane) (r : ShakeReq) (st : Nat) : (l.shakeEnd r st).cv = l.cv := by unfold Lane.shakeEnd; first | rfl | (simp; done) | (split <;> first | rfl | (simp; done) | (split <;> first | rfl | (simp; done)))
@[simp] theorem Lane.shakeEnd_cm (l : Lane) (r : ShakeReq) (st : Nat) : (l.shakeEnd r st).cm = l.cm := by unfold Lane.shakeEnd; first | rfl | (simp; done) | (split <;> first | rfl | (simp; done) | (split <;> first | rfl | (simp; done)))
@[simp] theorem Lane.shakeEnd_le (l : Lane) (r : ShakeReq) (st : Nat) : (l.shakeEnd r st).le = l.le := by unfold Lane.shakeEnd; first | rfl | (simp; done) | (split <;> first | rfl | (simp; done) | (split <;> first | rfl | (simp; done)))
@[simp] theorem Lane.shakeEnd_sf (l : Lane) (r : ShakeReq) (st : Nat) : (l.shakeEnd r st).sf = l.sf := by unfold Lane.shakeEnd; first | rfl | (simp; done) | (split <;> first | rfl | (simp; done) | (split <;> first | rfl | (simp; done)))
@[simp] theorem Lane.shakeEnd_port (l : Lane) (r : ShakeReq) (st : Nat) : (l.shakeEnd r st).port = l.port := by unfold Lane.shakeEnd; first | rfl | (simp; done) | (split <;> first | rfl | (simp; done) | (split <;> first | rfl | (simp; done)))
@[simp] theorem Lane.shakeEnd_die (l : Lane) (r : ShakeReq) (st : Nat) : (l.shakeEnd r st).die = l.die := by unfold Lane.shakeEnd; first | rfl | (simp; done) | (split <;> first | rfl | (simp; done) | (split <;> first | rfl | (simp; done)))
@[simp] theorem Lane.shakeEnd_ln (l : Lane) (r : ShakeReq) (st : Nat) : (l.shakeEnd r st).ln = l.ln := by unfold Lane.shakeEnd; first | rfl | (simp; done) | (split <;> first | rfl | (simp; done) | (split <;> first | rfl | (simp; done)))
@[simp] theorem Lane.shakeEnd_ig (l : Lane) (r : ShakeReq) (st : Nat) : (l.shakeEnd r st).ig = l.ig := by unfold Lane.shakeEnd; first | rfl | (simp; done) | (split <;> first | rfl | (simp; done) | (split <;> first | rfl | (simp; done)))
@[simp] theorem Lane.shakeEnd_ts (l : Lane) (r : ShakeReq) (st : Nat) : (l.shakeEnd r st).ts = l.ts := by unfold Lane.shakeEnd; first | rfl | (simp; done) | (split <;> first | rfl | (simp; done) | (split <;> first | rfl | (simp; done)))
@[simp] theorem Lane.shakeEnd_sp (l : Lane) (r : ShakeReq) (st : Nat) : (l.shakeEnd r st).sp = l.sp := by unfold Lane.shakeEnd; first | rfl | (simp; done) | (split <;> first | rfl | (simp; done) | (split <;> first | rfl | (simp; done)))
@[simp] theorem Lane.shakeEnd_pw (l : Lane) (r : ShakeReq) (st : Nat) : (l.shakeEnd r st).pw = l.pw := by unfold Lane.shakeEnd; first | rfl | (simp; done) | (split <;> first | rfl | (simp; done) | (split <;> first | rfl | (simp; done)))
@[simp] theorem Lane.shakeEnd_head (l : Lane) (r : ShakeReq) (st : Nat) : (l.shakeEnd r st).head = l.head := by unfold Lane.shakeEnd; first | rfl | (simp; done) | (split <;> first | rfl | (simp; done) | (split <;> first | rfl | (simp; done)))

@[simp] theorem Lane.writeTest_id (l : Lane) (k : Nat) (r : TestRes) : (l.writeTest k r).id = l.id := rfl
@[simp] theorem Lane.writeTest_now (l : Lane) (k : Nat) (r : TestRes) : (l.writeTest k r).now = l.now := rfl
@[simp] theorem Lane.writeTest_relAt (l : Lane) (k : Nat) (r : TestRes) : (l.writeTest k r).relAt = l.relAt := rfl
@[simp] theorem Lane.writeTest_free (l : Lane) (k : Nat) (r : TestRes) : (l.writeTest k r).free = l.free := rfl
@[simp] theorem Lane.writeTest_regs (l : Lane) (k : Nat) (r : TestRes) : (l.writeTest k r).regs = l.regs := rfl
@[simp] theorem Lane.writeTest_status (l : Lane) (k : Nat) (r : TestRes) : (l.writeTest k r).status = l.status := rfl
@[simp] theorem Lane.writeTest_sys (l : Lane) (k : Nat) (r : TestRes) : (l.writeTest k r).sys = l.sys := rfl
@[simp] theorem Lane.writeTest_tl (l : Lane) (k : Nat) (r : TestRes) : (l.writeTest k r).tl = l.tl := rfl
@[simp] theorem Lane.writeTest_fb (l : Lane) (k : Nat) (r : TestRes) : (l.writeTest k r).fb = l.fb := rfl
@[simp] theorem Lane.writeTest_cv (l : Lane) (k : Nat) (r : TestRes) : (l.writeTest k r).cv = l.cv := rfl
@[simp] theorem Lane.writeTest_cm (l : Lane) (k : Nat) (r : TestRes) : (l.writeTest k r).cm = l.cm := rfl
@[simp] theorem Lane.writeTest_le (l : Lane) (k : Nat) (r : TestRes) : (l.writeTest k r).le = l.le := rfl
@[simp] theorem Lane.writeTest_sf (l : Lane) (k : Nat) (r : TestRes) : (l.writeTest k r).sf = l.sf := rfl
@[simp] theorem Lane.writeTest_port (l : Lane) (k : Nat) (r : TestRes) : (l.writeTest k r).port = l.port := rfl
@[simp] theorem Lane.writeTest_die (l : Lane) (k : Nat) (r : TestRes) : (l.writeTest k r).die = l.die := rfl
@[simp] theorem Lane.writeTest_ln (l : Lane) (k : Nat) (r : TestRes) : (l.writeTest k r).ln = l.ln := rfl
@[simp] theorem Lane.writeTest_ig (l : Lane) (k : Nat) (r : TestRes) : (l.writeTest k r).ig = l.ig := rfl
@[simp] theorem Lane.writeTest_sp (l : Lane) (k : Nat) (r : TestRes) : (l.writeTest k r).sp = l.sp := rfl
@[simp] theorem Lane.writeTest_env (l : Lane) (k : Nat) (r : TestRes) : (l.writeTest k r).env = l.env := rfl
@[simp] theorem Lane.writeTest_hr (l : Lane) (k : Nat) (r : TestRes) : (l.writeTest k r).hr = l.hr := rfl
@[simp] theorem Lane.writeTest_pw (l : Lane) (k : Nat) (r : TestRes) : (l.writeTest k r).pw = l.pw := rfl
@[simp] theorem Lane.writeTest_head (l : Lane) (k : Nat) (r : TestRes) : (l.writeTest k r).head = l.head := rfl

@[simp] theorem Lane.abandonHead_id (l : Lane) (st : Nat) : (l.abandonHead st).id = l.id := by unfold Lane.abandonHead; dsimp only; split <;> first | rfl | simp [Lane.each_keeps (·.id) _ (fun l k => Lane.writeTest_id l k _)]
@[simp] theorem Lane.abandonHead_now (l : Lane) (st : Nat) : (l.abandonHead st).now = l.now := by unfold Lane.abandonHead; dsimp only; split <;> first | rfl | simp [Lane.each_keeps (·.now) _ (fun l k => Lane.writeTest_now l k _)]
@[simp] theorem Lane.abandonHead_relAt (l : Lane) (st : Nat) : (l.abandonHead st).relAt = l.relAt := by unfold Lane.abandonHead; dsimp only; split <;> first | rfl | simp [Lane.each_keeps (·.relAt) _ (fun l k => Lane.writeTest_relAt l k _)]
@[simp] theorem Lane.abandonHead_free (l : Lane) (st : Nat) : (l.abandonHead st).free = l.free := by unfold Lane.abandonHead; dsimp only; split <;> first | rfl | simp [Lane.each_keeps (·.free) _ (fun l k => Lane.writeTest_free l k _)]
@[simp] theorem Lane.abandonHead_regs (l : Lane) (st : Nat) : (l.abandonHead st).regs = l.regs := by unfold Lane.abandonHead; dsimp only; split <;> first | rfl | simp [Lane.each_keeps (·.regs) _ (fun l k => Lane.writeTest_regs l k _)]
@[simp] theorem Lane.abandonHead_status (l : Lane) (st : Nat) : (l.abandonHead st).status = l.status := by unfold Lane.abandonHead; dsimp only; split <;> first | rfl | simp [Lane.each_keeps (·.status) _ (fun l k => Lane.writeTest_status l k _)]
@[simp] theorem Lane.abandonHead_sys (l : Lane) (st : Nat) : (l.abandonHead st).sys = l.sys := by unfold Lane.abandonHead; dsimp only; split <;> first | rfl | simp [Lane.each_keeps (·.sys) _ (fun l k => Lane.writeTest_sys l k _)]
@[simp] theorem Lane.abandonHead_tl (l : Lane) (st : Nat) : (l.abandonHead st).tl = l.tl := by unfold Lane.abandonHead; dsimp only; split <;> first | rfl | simp [Lane.each_keeps (·.tl) _ (fun l k => Lane.writeTest_tl l k _)]
@[simp] theorem Lane.abandonHead_fb (l : Lane) (st : Nat) : (l.abandonHead st).fb = l.fb := by unfold Lane.abandonHead; dsimp only; split <;> first | rfl | simp [Lane.each_keeps (·.fb) _ (fun l k => Lane.writeTest_fb l k _)]
@[simp] theorem Lane.abandonHead_cv (l : Lane) (st : Nat) : (l.abandonHead st).cv = l.cv := by unfold Lane.abandonHead; dsimp only; split <;> first | rfl | simp [Lane.each_keeps (·.cv) _ (fun l k => Lane.writeTest_cv l k _)]
@[simp] theorem Lane.abandonHead_cm (l : Lane) (st : Nat) : (l.abandonHead st).cm = l.cm := by unfold Lane.abandonHead; dsimp only; split <;> first | rfl | simp [Lane.each_keeps (·.cm) _ (fun l k => Lane.writeTest_cm l k _)]
@[simp] theorem Lane.abandonHead_le (l : Lane) (st : Nat) : (l.abandonHead st).le = l.le := by unfold Lane.abandonHead; dsimp only; split <;> first | rfl | simp [Lane.each_keeps (·.le) _ (fun l k => Lane.writeTest_le l k _)]
@[simp] theorem Lane.abandonHead_sf (l : Lane) (st : Nat) : (l.abandonHead st).sf = l.sf := by unfold Lane.abandonHead; dsimp only; split <;> first | rfl | simp [Lane.each_keeps (·.sf) _ (fun l k => Lane.writeTest_sf l k _)]
@[simp] theorem Lane.abandonHead_port (l : Lane) (st : Nat) : (l.abandonHead st).port = l.port := by unfold Lane.abandonHead; dsimp only; split <;> first | rfl | simp [Lane.each_keeps (·.port) _ (fun l k => Lane.writeTest_port l k _)]
@[simp] theorem Lane.abandonHead_die (l : Lane) (st : Nat) : (l.abandonHead st).die = l.die := by unfold Lane.abandonHead; dsimp only; split <;> first | rfl | simp [Lane.each_keeps (·.die) _ (fun l k => Lane.writeTest_die l k _)]
@[simp] theorem Lane.abandonHead_ln (l : Lane) (st : Nat) : (l.abandonHead st).ln = l.ln := by unfold Lane.abandonHead; dsimp only; split <;> first | rfl | simp [Lane.each_keeps (·.ln) _ (fun l k => Lane.writeTest_ln l k _)]
@[simp] theorem Lane.abandonHead_ig (l : Lane) (st : Nat) : (l.abandonHead st).ig = l.ig := by unfold Lane.abandonHead; dsimp only; split <;> first | rfl | simp [Lane.each_keeps (·.ig) _ (fun l k => Lane.writeTest_ig l k _)]
@[simp] theorem Lane.abandonHead_sp (l : Lane) (st : Nat) : (l.abandonHead st).sp = l.sp := by unfold Lane.abandonHead; dsimp only; split <;> first | rfl | simp [Lane.each_keeps (·.sp) _ (fun l k => Lane.writeTest_sp l k _)]
@[simp] theorem Lane.abandonHead_pw (l : Lane) (st : Nat) : (l.abandonHead st).pw = l.pw := by unfold Lane.abandonHead; dsimp only; split <;> first | rfl | simp [Lane.each_keeps (·.pw) _ (fun l k => Lane.writeTest_pw l k _)]
@[simp] theorem Lane.abandonHead_head (l : Lane) (st : Nat) : (l.abandonHead st).head = l.head := by unfold Lane.abandonHead; dsimp only; split <;> first | rfl | simp [Lane.each_keeps (·.head) _ (fun l k => Lane.writeTest_head l k _)]

theorem Lane.abandonAll_id : ∀ (n : Nat) (l : Lane), (Lane.abandonAll n l).id = l.id
  | 0, _ => rfl
  | n + 1, l => by
    unfold Lane.abandonAll
    split
    · rfl
    · rw [Lane.abandonAll_id n]; simp
@[simp] theorem Lane.abandonTests_id (l : Lane) : l.abandonTests.id = l.id := Lane.abandonAll_id _ _
theorem Lane.abandonAll_now : ∀ (n : Nat) (l : Lane), (Lane.abandonAll n l).now = l.now
  | 0, _ => rfl
  | n + 1, l => by
    unfold Lane.abandonAll
    split
    · rfl
    · rw [Lane.abandonAll_now n]; simp
@[simp] theorem Lane.abandonTests_now (l : Lane) : l.abandonTests.now = l.now := Lane.abandonAll_now _ _
theorem Lane.abandonAll_relAt : ∀ (n : Nat) (l : Lane), (Lane.abandonAll n l).relAt = l.relAt
  | 0, _ => rfl
  | n + 1, l => by
    unfold Lane.abandonAll
    split
    · rfl
    · rw [Lane.abandonAll_relAt n]; simp
@[simp] theorem Lane.abandonTests_relAt (l : Lane) : l.abandonTests.relAt = l.relAt := Lane.abandonAll_relAt _ _
theorem Lane.abandonAll_free : ∀ (n : Nat) (l : Lane), (Lane.abandonAll n l).free = l.free
  | 0, _ => rfl
  | n + 1, l => by
    unfold Lane.abandonAll
    split
    · rfl
    · rw [Lane.abandonAll_free n]; simp
@[simp] theorem Lane.abandonTests_free (l : Lane) : l.abandonTests.free = l.free := Lane.abandonAll_free _ _
theorem Lane.abandonAll_regs : ∀ (n : Nat) (l : Lane), (Lane.abandonAll n l).regs = l.regs
  | 0, _ => rfl
  | n + 1, l => by
    unfold Lane.abandonAll
    split
    · rfl
    · rw [Lane.abandonAll_regs n]; simp
@[simp] theorem Lane.abandonTests_regs (l : Lane) : l.abandonTests.regs = l.regs := Lane.abandonAll_regs _ _
theorem Lane.abandonAll_status : ∀ (n : Nat) (l : Lane), (Lane.abandonAll n l).status = l.status
  | 0, _ => rfl
  | n + 1, l => by
    unfold Lane.abandonAll
    split
    · rfl
    · rw [Lane.abandonAll_status n]; simp
@[simp] theorem Lane.abandonTests_status (l : Lane) : l.abandonTests.status = l.status := Lane.abandonAll_status _ _
theorem Lane.abandonAll_sys : ∀ (n : Nat) (l : Lane), (Lane.abandonAll n l).sys = l.sys
  | 0, _ => rfl
  | n + 1, l => by
    unfold Lane.abandonAll
    split
    · rfl
    · rw [Lane.abandonAll_sys n]; simp
@[simp] theorem Lane.abandonTests_sys (l : Lane) : l.abandonTests.sys = l.sys := Lane.abandonAll_sys _ _
theorem Lane.abandonAll_tl : ∀ (n : Nat) (l : Lane), (Lane.abandonAll n l).tl = l.tl
  | 0, _ => rfl
  | n + 1, l => by
    unfold Lane.abandonAll
    split
    · rfl
    · rw [Lane.abandonAll_tl n]; simp
@[simp] theorem Lane.abandonTests_tl (l : Lane) : l.abandonTests.tl = l.tl := Lane.abandonAll_tl _ _
theorem Lane.abandonAll_fb : ∀ (n : Nat) (l : Lane), (Lane.abandonAll n l).fb = l.fb
  | 0, _ => rfl
  | n + 1, l => by
    unfold Lane.abandonAll
    split
    · rfl
    · rw [Lane.abandonAll_fb n]; simp
@[simp] theorem Lane.abandonTests_fb (l : Lane) : l.abandonTests.fb = l.fb := Lane.abandonAll_fb _ _
theorem Lane.abandonAll_cv : ∀ (n : Nat) (l : Lane), (Lane.abandonAll n l).cv = l.cv
  | 0, _ => rfl
  | n + 1, l => by
    unfold Lane.abandonAll
    split
    · rfl
    · rw [Lane.abandonAll_cv n]; simp
@[simp] theorem Lane.abandonTests_cv (l : Lane) : l.abandonTests.cv = l.cv := Lane.abandonAll_cv _ _
theorem Lane.abandonAll_cm : ∀ (n : Nat) (l : Lane), (Lane.abandonAll n l).cm = l.cm
  | 0, _ => rfl
  | n + 1, l => by
    unfold Lane.abandonAll
    split
    · rfl
    · rw [Lane.abandonAll_cm n]; simp
@[simp] theorem Lane.abandonTests_cm (l : Lane) : l.abandonTests.cm = l.cm := Lane.abandonAll_cm _ _
theorem Lane.abandonAll_le : ∀ (n : Nat) (l : Lane), (Lane.abandonAll n l).le = l.le
  | 0, _ => rfl
  | n + 1, l => by
    unfold Lane.abandonAll
    split
    · rfl
    · rw [Lane.abandonAll_le n]; simp
@[simp] theorem Lane.abandonTests_le (l : Lane) : l.abandonTests.le = l.le := Lane.abandonAll_le _ _
theorem Lane.abandonAll_sf : ∀ (n : Nat) (l : Lane), (Lane.abandonAll n l).sf = l.sf
  | 0, _ => rfl
  | n + 1, l => by
    unfold Lane.abandonAll
    split
    · rfl
    · rw [Lane.abandonAll_sf n]; simp
@[simp] theorem Lane.abandonTests_sf (l : Lane) : l.abandonTests.sf = l.sf := Lane.abandonAll_sf _ _
theorem Lane.abandonAll_port : ∀ (n : Nat) (l : Lane), (Lane.abandonAll n l).port = l.port
  | 0, _ => rfl
  | n + 1, l => by
    unfold Lane.abandonAll
    split
    · rfl
    · rw [Lane.abandonAll_port n]; simp
@[simp] theorem Lane.abandonTests_port (l : Lane) : l.abandonTests.port = l.port := Lane.abandonAll_port _ _
theorem Lane.abandonAll_die : ∀ (n : Nat) (l : Lane), (Lane.abandonAll n l).die = l.die
  | 0, _ => rfl
  | n + 1, l => by
    unfold Lane.abandonAll
    split
    · rfl
    · rw [Lane.abandonAll_die n]; simp
@[simp] theorem Lane.abandonTests_die (l : Lane) : l.abandonTests.die = l.die := Lane.abandonAll_die _ _
theorem Lane.abandonAll_ln : ∀ (n : Nat) (l : Lane), (Lane.abandonAll n l).ln = l.ln
  | 0, _ => rfl
  | n + 1, l => by
    unfold Lane.abandonAll
    split
    · rfl
    · rw [Lane.abandonAll_ln n]; simp
@[simp] theorem Lane.abandonTests_ln (l : Lane) : l.abandonTests.ln = l.ln := Lane.abandonAll_ln _ _
theorem Lane.abandonAll_ig : ∀ (n : Nat) (l : Lane), (Lane.abandonAll n l).ig = l.ig
  | 0, _ => rfl
  | n + 1, l => by
    unfold Lane.abandonAll
    split
    · rfl
    · rw [Lane.abandonAll_ig n]; simp
@[simp] theorem Lane.abandonTests_ig (l : Lane) : l.abandonTests.ig = l.ig := Lane.abandonAll_ig _ _
theorem Lane.abandonAll_sp : ∀ (n : Nat) (l : Lane), (Lane.abandonAll n l).sp = l.sp
  | 0, _ => rfl
  | n + 1, l => by
    unfold Lane.abandonAll
    split
    · rfl
    · rw [Lane.abandonAll_sp n]; simp
@[simp] theorem Lane.abandonTests_sp (l : Lane) : l.abandonTests.sp = l.sp := Lane.abandonAll_sp _ _
theorem Lane.abandonAll_pw : ∀ (n : Nat) (l : Lane), (Lane.abandonAll n l).pw = l.pw
  | 0, _ => rfl
  | n + 1, l => by
    unfold Lane.abandonAll
    split
    · rfl
    · rw [Lane.abandonAll_pw n]; simp
@[simp] theorem Lane.abandonTests_pw (l : Lane) : l.abandonTests.pw = l.pw := Lane.abandonAll_pw _ _
theorem Lane.abandonAll_head : ∀ (n : Nat) (l : Lane), (Lane.abandonAll n l).head = l.head
  | 0, _ => rfl
  | n + 1, l => by
    unfold Lane.abandonAll
    split
    · rfl
    · rw [Lane.abandonAll_head n]; simp
@[simp] theorem Lane.abandonTests_head (l : Lane) : l.abandonTests.head = l.head := Lane.abandonAll_head _ _

end Sys2Proof.Machine
end

