-- ==== Sys2Proof/Laws/Memory.lean ====
section
/-! SUPPORT. The memory keeps its canonical form under every operation, and a write changes exactly the bytes it stores. -/

namespace Sys2Proof.Machine

theorem cellWfFrom_mono {lo lo' : Nat} {m : List Host.Cell} (h : lo ≤ lo') (hm : cellWfFrom lo' m = true) : cellWfFrom lo m = true := by
  cases m with
  | nil => rfl
  | cons c t =>
    simp only [cellWfFrom, Bool.and_eq_true, decide_eq_true_eq] at hm ⊢
    exact ⟨⟨by omega, hm.1.2⟩, hm.2⟩

theorem cellWfFrom_filter (p : Host.Cell → Bool) {lo : Nat} {m : List Host.Cell} (hm : cellWfFrom lo m = true) :
    cellWfFrom lo (m.filter p) = true := by
  induction m generalizing lo with
  | nil => rfl
  | cons c t ih =>
    simp only [cellWfFrom, Bool.and_eq_true, decide_eq_true_eq] at hm
    rw [List.filter_cons]
    split
    · simp only [cellWfFrom, Bool.and_eq_true, decide_eq_true_eq]
      exact ⟨hm.1, ih hm.2⟩
    · exact cellWfFrom_mono (by omega) (ih hm.2)

theorem cellInsert_wf {lo : Nat} {m : List Host.Cell} (a : Nat) (b : Byte) (hm : cellWfFrom lo m = true) (ha : lo ≤ a)
    (hb : cellIdle a b = false) : cellWfFrom lo (cellInsert m a b) = true := by
  induction m generalizing lo with
  | nil => simp [cellInsert, cellWfFrom, ha, hb]
  | cons c t ih =>
    simp only [cellWfFrom, Bool.and_eq_true, decide_eq_true_eq] at hm
    simp only [cellInsert]
    split
    · next h => simp [cellWfFrom, ha, hb, hm.1.2, hm.2, Nat.succ_le_of_lt h]
    · split
      · next h => subst h; simp [cellWfFrom, ha, hb, hm.2]
      · simp only [cellWfFrom, Bool.and_eq_true, decide_eq_true_eq]
        exact ⟨hm.1, ih hm.2 (by omega)⟩

theorem cellErase_wf {m : List Host.Cell} (a : Nat) (hm : Memory.wf m = true) : Memory.wf (cellErase m a) = true := cellWfFrom_filter _ hm

/-- One byte written keeps the form. -/
theorem cellPut_wf {m : List Host.Cell} (a : Nat) (b : Byte) (hm : Memory.wf m = true) : Memory.wf (cellPut m a b) = true := by
  unfold cellPut
  split
  · exact cellErase_wf a hm
  · next h => exact cellInsert_wf a b hm (Nat.zero_le a) (by simpa using h)

/-- Consecutive bytes written keep the form. -/
theorem cellPuts_wf {m : List Host.Cell} (a : Nat) (bs : List Byte) (hm : Memory.wf m = true) : Memory.wf (cellPuts m a bs) = true := by
  induction bs generalizing m a with
  | nil => exact hm
  | cons b t ih => exact ih (a + 1) (cellPut_wf a b hm)

/-- A region that loses its power keeps the form. -/
theorem cellDrop_wf {m : List Host.Cell} (r : Region) (hm : Memory.wf m = true) : Memory.wf (cellDrop r m) = true := cellWfFrom_filter _ hm

theorem cellGet_insert (m : List Host.Cell) (a x : Nat) (b : Byte) :
    cellGet (cellInsert m a b) x = if x = a then some b else cellGet m x := by
  induction m with
  | nil => simp only [cellInsert, cellGet]; split <;> simp
  | cons c t ih =>
    obtain ⟨k, v⟩ := c
    simp only [cellInsert]
    split
    · simp only [cellGet]
      split
      · rfl
      · split
        · rw [if_neg (by omega), if_pos (by omega)]
        · rfl
    · split
      · next h => subst h; simp only [cellGet]; split <;> rfl
      · simp only [cellGet, ih]
        split
        · rw [if_neg (by omega)]
        · split
          · rw [if_neg (by omega)]
          · rfl

/-- An address below every listed one is not listed. -/
theorem cellGet_below {lo x : Nat} {m : List Host.Cell} (hm : cellWfFrom lo m = true) (hx : x < lo) : cellGet m x = none := by
  cases m with
  | nil => rfl
  | cons c t =>
    simp only [cellWfFrom, Bool.and_eq_true, decide_eq_true_eq] at hm
    simp only [cellGet]
    rw [if_neg (by omega), if_pos (by omega)]

theorem cellGet_filter (p : Nat → Bool) {lo x : Nat} {m : List Host.Cell} (hm : cellWfFrom lo m = true) :
    cellGet (m.filter fun c => p c.1) x = if p x = true then cellGet m x else none := by
  induction m generalizing lo with
  | nil => simp [cellGet]
  | cons c t ih =>
    obtain ⟨k, v⟩ := c
    simp only [cellWfFrom, Bool.and_eq_true, decide_eq_true_eq] at hm
    have ht := ih hm.2
    rw [List.filter_cons]
    split
    · next h =>
      simp only [cellGet, ht]
      split
      · next e => subst e; rw [if_pos h]
      · split <;> split <;> rfl
    · next h =>
      simp only [cellGet]
      rw [ht]
      split
      · next h' =>
        rw [if_neg (by rintro rfl; exact h h')]
        split
        · next e => exact cellGet_below hm.2 (by omega)
        · rfl
      · rfl

/-- What SHM or Chill RAM holds at `x` after one byte is written at `a`. -/
theorem memByte_cellPut {m : List Host.Cell} (a x : Nat) (b : Byte) (hm : Memory.wf m = true)
    (hx : regionOf x = .shm ∨ regionOf x = .chill) : memByte (cellPut m a b) x = if x = a then b else memByte m x := by
  have hget : cellGet (cellPut m a b) x = if x = a then (if cellIdle a b then none else some b) else cellGet m x := by
    unfold cellPut
    split
    · rw [cellErase, cellGet_filter (fun k => k != a) hm]
      by_cases e : x = a <;> simp [e]
    · rw [cellGet_insert]
  unfold memByte
  rw [hget]
  by_cases e : x = a
  · subst e
    simp only [if_true]
    rcases hx with h | h
    · simp [cellIdle, h]
    · by_cases hb : b = 0#8 <;> simp [cellIdle, h, hb]
  · simp only [if_neg e]

/-- No other region changes by a write: ROM reads as its contents, the rest as zero (01 R21). -/
theorem memByte_fixed {m m' : List Host.Cell} (x : Nat) (h1 : regionOf x ≠ .shm) (h2 : regionOf x ≠ .chill) : memByte m' x = memByte m x := by
  unfold memByte
  split <;> simp_all

/-- What SHM or Chill RAM holds at `x` after consecutive bytes are written at `a`: the bytes in their range, and outside it what it
held. -/
theorem memByte_cellPuts {m : List Host.Cell} (a x : Nat) (bs : List Byte) (hm : Memory.wf m = true)
    (hx : regionOf x = .shm ∨ regionOf x = .chill) :
    memByte (cellPuts m a bs) x = if a ≤ x ∧ x < a + bs.length then bs.getD (x - a) 0 else memByte m x := by
  induction bs generalizing m a with
  | nil => rw [if_neg (by simp only [List.length_nil]; omega)]; rfl
  | cons b t ih =>
    rw [cellPuts, ih (a + 1) (cellPut_wf a b hm), memByte_cellPut a x b hm hx]
    simp only [List.length_cons]
    by_cases e : x = a
    · subst e; rw [if_neg (by omega), if_pos rfl, if_pos (by omega)]; simp
    · by_cases h : a + 1 ≤ x ∧ x < a + 1 + t.length
      · rw [if_pos h, if_pos (by omega), show x - a = (x - (a + 1)) + 1 by omega]; simp
      · rw [if_neg h, if_neg e, if_neg (by omega)]

/-! The operations over State -/

/-- A line stored by a command leaves the memory in its form (10 R242). -/
theorem Lane.storeLine_wf (l : Lane) (src line : Nat) (bs : List Byte) (e : LineErr) (hm : Memory.wf l.ig.mem = true) :
    Memory.wf (l.storeLine src line bs e).ig.mem = true := by
  unfold Lane.storeLine
  dsimp only [Lane.modIg_ig]
  split
  · exact hm
  · exact cellPuts_wf _ _ hm

theorem Integrity.putLine_wf (g : Integrity) (line : Nat) (bs : List Byte) (hm : Memory.wf g.mem = true) :
    Memory.wf (g.putLine line bs).mem = true := cellPuts_wf _ _ hm

theorem Integrity.putWord_wf (g : Integrity) (b : WriteBack) (hm : Memory.wf g.mem = true) : Memory.wf (g.putWord b).mem = true :=
  cellPuts_wf _ _ hm

/-- The bytes of an image laid in the staging region leave the memory in its form (14 R344). -/
theorem Integrity.stageImage_wf (g : Integrity) (bs : List Byte) (hm : Memory.wf g.mem = true) : Memory.wf (g.stageImage bs).mem = true := by
  unfold Integrity.stageImage
  generalize List.range _ = ks
  induction ks generalizing g with
  | nil => exact hm
  | cons k t ih => exact ih _ (Integrity.putLine_wf _ _ _ hm)

/-- The memory of each lane at reset has the form: nothing is listed. -/
theorem State.reset_wf (k : LaneId) : Memory.wf (State.reset.lane k).ig.mem = true := by cases k <;> rfl

end Sys2Proof.Machine
end

