-- ==== Sys2Proof/Machine/Balls.lean ====
section
/-! DEFINITION. The balls of the module: which ball stands where (17 R392 to R394, 01 R39 to R41), and the states that a lane's
outputs take in its power states (17 R397). -/

namespace Sys2Proof.Machine

/-- A ball of one lane by its name (17 Table 17.2); `p` is a phase (0 U, 1 V, 2 W), `n` an axis or unit. -/
inductive Ball where
  | gh (p n : Nat)
  | gl (p n : Nat)
  | sw (p n : Nat)
  | bs (p n : Nat)
  | brkg
  | brl (n : Nat)
  | csp (n : Nat)
  | csn (n : Nat)
  | pv (p n : Nat)
  | vdcs
  | chsp
  | chsn
  | th (k : Nat)
  | qa (n : Nat)
  | qb (n : Nat)
  | qz (n : Nat)
  | hall (p n : Nat)
  | sent (n : Nat)
  | tw (n : Nat)
  | spTx (b : Nat)
  | spRx (b : Nat)
  | pps
  | wake
  | lsmode
  | rstN
  | vstrap
  | tck
  | tms
  | tdi
  | tdo
  | trstN
  | xin
  | xout
  | petP
  | petN
  | perP
  | perN
  | refclkP
  | refclkN
  | perstN
  | vin
  | vdrv
  | pgnd
  | agnd
  | gnd
  | dnc
  deriving DecidableEq, Repr

/-- The first of the two columns of a pair, or the second (17 R393). -/
def pairOf (col : Nat) (a b : Ball) : Ball := if col % 2 = 1 then a else b

/-- Rows A–H of lane A, columns 1–13 (17 Table 17.3). Rows count from 0 (A) in the order A–H, J–N, P, T–Y, AA–AH, AJ–AN, AP, AT–AY. -/
def powerBall (row col : Nat) : Ball :=
  let n := (col - 1) / 2
  if col = 13 then (if row = 0 then .brkg else if row = 1 then .pgnd else .brl (row - 2))
  else if row < 6 then
    (if row % 2 = 0 then pairOf col (.gh (row / 2) n) (.gl (row / 2) n) else pairOf col (.sw (row / 2) n) (.bs (row / 2) n))
  else .pgnd

/-- Rows J–AM of lane A, columns 1–12 (17 Table 17.3). -/
def sensorBall (row col : Nat) : Ball :=
  let n := (col - 1) / 2
  match row with
  | 8 => pairOf col (.csp n) (.csn n)
  | 9 => pairOf col (.pv 0 n) (.pv 1 n)
  | 10 => pairOf col (.pv 2 n) .agnd
  | 11 | 12 => .agnd
  | 13 | 14 => .vin
  | 15 => if col ≤ 8 then .vdrv else if col = 9 then .vdcs else if col = 10 then .chsp else if col = 11 then .chsn else .agnd
  | 16 => pairOf col (.qa n) (.qb n)
  | 17 => pairOf col (.qz n) (.sent n)
  | 18 => pairOf col (.hall 0 n) (.hall 1 n)
  | 19 => pairOf col (.hall 2 n) .gnd
  | 20 => if col ≤ 2 then .tw (5 + col) else if col ≤ 6 then .th (col - 3) else .agnd
  | _ => .gnd

/-- Rows AN–AY of lane A, columns 1–6 (17 Table 17.3). -/
def linkBall (row col : Nat) : Ball :=
  let at_ := fun (xs : List Ball) => xs.getD (col - 1) .gnd
  match row with
  | 32 => at_ [.spTx 0, .spRx 0, .spTx 1, .spRx 1, .pps, .wake]
  | 33 => at_ [.lsmode, .rstN, .tck, .tms, .tdi, .tdo]
  | 34 => at_ [.trstN, .vstrap, .dnc, .dnc, .dnc, .gnd]
  | 35 => at_ [.xin, .xout, .gnd, .perstN]
  | 36 => at_ [.gnd, .petP, .petN]
  | 38 => at_ [.gnd, .perP, .perN]
  | 39 => at_ [.gnd, .refclkP, .refclkN]
  | _ => .gnd

/-- The ball of lane A at a row and a column of 1–13; none under the barrier, column 13 of rows J–AM (17 R393, 01 R39). -/
def laneBall (row col : Nat) : Option Ball :=
  if row < 8 then some (powerBall row col)
  else if row < 32 then (if col ≤ 12 then some (sensorBall row col) else none)
  else if col ≤ 6 then some (linkBall row col)
  else some .gnd

/-- The ball of lane C at a row and a column of 27–40 outside the shared corner (17 R394). -/
def laneCBall (row col : Nat) : Ball :=
  if col ≤ 38 ∧ row < 32 then (laneBall row (col - 26)).getD .gnd
  else if col = 39 ∧ row < 8 then powerBall row 13
  else if 32 ≤ row then linkBall row (col - 26)
  else .gnd

/-- What stands at a position of the grid, rows 0–39, columns 1–40: a ball of a lane, a LID ball (01 R41), or nothing where the
position is depopulated (01 R39, 17 R394). -/
inductive Position where
  | lane (id : LaneId) (b : Ball)
  | lid
  | empty
  deriving DecidableEq, Repr

/-- The grid of the module (01 Table 1.13, 17 R393, R394). -/
def positionAt (row col : Nat) : Position :=
  let place := fun (id : LaneId) (b : Option Ball) => match b with
    | some b => Position.lane id b
    | none => .empty
  if col ≤ 13 then place .a (laneBall row col)
  else if col ≤ 26 then place .b (laneBall row (col - 13))
  else if 32 ≤ row ∧ 33 ≤ col then .lid
  else .lane .c (laneCBall row col)

/-- How an output or a rail of a lane stands (17 Table 17.4). -/
inductive Drive where
  /-- Held low by its passive pull-down. -/
  | pulledLow
  /-- A gate or BRL output that its stage drives, high or low. -/
  | level (high : Bool)
  /-- A rail that is on, or in its soft-start. -/
  | on
  /-- A rail that is off. -/
  | off
  /-- A Sprue transmit output at rest. -/
  | recessive
  /-- An output that its block drives. -/
  | driven
  /-- High impedance. -/
  | highZ
  deriving DecidableEq, Repr

/-- The lane has its VIO_x and the rails that follow it: neither parked, off nor without supply (15 Table 15.1). -/
def Lane.railsOn (l : Lane) : Bool :=
  match l.pw.state with
  | .setup | .run | .doze | .reset => true
  | .unpowered | .park | .off => false

/-- A Sprue transmit output: recessive outside RUN, latched so in PARK and until the pads are released (17 Table 17.4, 15 R370). -/
def Lane.sprueDrive (l : Lane) : Drive :=
  match l.pw.state with
  | .run => if l.pw.padLatch then .recessive else .driven
  | .setup | .doze | .reset | .park => .recessive
  | .unpowered | .off => .highZ

/-- The state of an output ball of a lane (17 Table 17.4); none for an input. -/
def Lane.ball (l : Lane) (b : Ball) : Option Drive :=
  let stage := fun (high : Bool) => if l.railsOn then some (.level high) else some Drive.pulledLow
  match b with
  | .gh p n => stage (vget l.die.sw (6 * n + 2 * p) initSwitch).out
  | .gl p n => stage (vget l.die.sw (6 * n + 2 * p + 1) initSwitch).out
  | .brkg => stage l.die.chopOut
  | .brl n => stage (vget l.die.brlOut n false)
  | .vdrv => some (if l.pw.vdrvOn then .on else .off)
  | .vstrap => some (if l.railsOn then .on else .off)
  | .spTx _ => some l.sprueDrive
  | .tdo => some (if l.alive && !l.pw.padLatch then .driven else .highZ)
  | .sw _ _ | .bs _ _ | .csp _ | .csn _ | .pv _ _ | .vdcs | .chsp | .chsn | .th _ | .qa _ | .qb _ | .qz _ | .hall _ _ | .sent _ | .tw _
  | .spRx _ | .pps | .wake | .lsmode | .rstN | .tck | .tms | .tdi | .trstN | .xin | .xout | .petP | .petN | .perP | .perN | .refclkP
  | .refclkN | .perstN | .vin | .pgnd | .agnd | .gnd | .dnc => none

end Sys2Proof.Machine
end

