-- ==== Sys2Proof/Tests/Slice0.lean ====
section
/-! SUPPORT. Tests: ill-formed commands are told apart, worked examples of the spec come out as it prints them, and a state that meets
the hypotheses of each statement. -/

namespace Sys2Proof.Tests

open Machine

set_option maxRecDepth 20000

unseal State.arrive

/-! Helpers -/

/-- The block after reset with one lane changed. -/
def world (k : LaneId) (f : Lane → Lane) : State := State.reset.setLane k (f (State.reset.lane k)) (f (State.reset.lane k))

/-- The lane of such a block as a command without delay finds it. -/
def found (k : LaneId) (f : Lane → Lane) : Lane := (world k f).arrive ⟨k, 0⟩

/-- The lane that a command of that block finds is sound and has the property `p`. -/
def meets (k : LaneId) (f : Lane → Lane) (p : Lane → Bool) : Bool :=
  let l := found k f
  l.id == k && fwf regReset l.regs && fwf (fun _ => initStatus) l.status && Memory.wf l.ig.mem && decide (l.sys.badKeys ≤ 0xFF) &&
    decide (l.sys.refused ≤ 0xFFFF) && decide (l.sys.stale ≤ 0xFFFF) && p l

/-- What `meets` says: the premises that the statements share, and `p`. -/
theorem meets_found (k : LaneId) (f : Lane → Lane) (p : Lane → Bool) (hm : meets k f p = true) :
    found k f = (world k f).arrive ⟨k, 0⟩ ∧ (found k f).Sound k ∧ p (found k f) = true := by
  simp only [meets, Bool.and_eq_true, decide_eq_true_eq, beq_iff_eq] at hm
  obtain ⟨⟨⟨⟨⟨⟨⟨h1, h2⟩, h3⟩, h4⟩, h5⟩, h6⟩, h7⟩, h8⟩ := hm
  exact ⟨rfl, ⟨h1, h2, h3, h4, h5, h6, h7⟩, h8⟩

/-- A lane 4 ms after reset release, with the host link up. -/
def linked (l : Lane) : Lane := { l with now := 1000000, hr := { l.hr with dlActive := true, mse := true } }

/-- The same with both keys armed. -/
def keyed (l : Lane) : Lane := { linked l with sys := { l.sys with keyHost := true, keyInt := true } }

/-- A lane in RUN since cycle 0, with the host link up and both keys armed. -/
def running (l : Lane) : Lane :=
  { keyed l with pw := { l.pw with state := .run, runAt := some 0, bootAt := none }, ts := { l.ts with done := true } }

/-- A power state. -/
def inState (p : PwState) (l : Lane) : Lane := { l with pw := { l.pw with state := p } }

/-- A register value. -/
def set (off v : Nat) (l : Lane) : Lane := l.setReg off (BitVec.ofNat 32 v)

/-- The lane control changed. -/
def ctl (f : LaneCtl → LaneCtl) (l : Lane) : Lane := { l with ln := f l.ln }

/-- The power block changed. -/
def power (f : Power → Power) (l : Lane) : Lane := { l with pw := f l.pw }

/-- A peer heard now, of this role and health. -/
def hears (k role health : Nat) (l : Lane) : Lane := l.modPeer k fun p => { p with lastAt := some l.now, role := role, health := health }

/-! Well-formedness -/

/-- `isBus` turns down the first number past its range. -/
theorem wf_refuses_Bus (h : Hdr) (v : Nat) (bs : List Byte) (w : Wr) (x : Bool) :
    (Instr.wakeSprue h 2).wf = false ∧ (Instr.slotStart h 2).wf = false ∧ (Instr.slotEnd h 2).wf = false ∧
    (Instr.spruePollReceive h 2 v bs).wf = false ∧ (Instr.sprueResponseReceive h 2 v bs).wf = false ∧
    (Instr.foreignFrame h 2).wf = false ∧ (Instr.txEcho h 2 bs v).wf = false ∧
    (Instr.responseWithdraw h 2).wf = false ∧ (Instr.pollError h 2).wf = false ∧ (Instr.idleWaitExpiry h 2).wf = false ∧
    (Instr.busOff h 2).wf = false ∧ (Instr.errPassive h 2 v v).wf = false ∧ (Instr.busOffRecovery h 2).wf = false ∧
    (Instr.spPendWrite h 2 w).wf = false ∧ (Instr.spTableWrite h 2 w).wf = false ∧ (Instr.sprueSof h 2 x x).wf = false := by
  repeat' constructor

/-- `isOffset` turns down the first number past its range. -/
theorem wf_refuses_Offset (h : Hdr) (w : Wr) (e : Option Nat) :
    (Instr.registerWrite h 0x8000 w).wf = false ∧ (Instr.parityError h 0x8000 0 e).wf = false := by
  repeat' constructor

/-- `isStatusOffset` turns down the first number past its range. -/
theorem wf_refuses_StatusOffset (h : Hdr) (q : Requester) (w : Wr) :
    (Instr.statusRead h q 0x1000).wf = false ∧ (Instr.statusWriteBack h 0x1000 w).wf = false := by
  repeat' constructor

/-- `isPeer` turns down the first number past its range. -/
theorem wf_refuses_Peer (h : Hdr) (q : Requester) (line : Machine.Line) (d : Word) (v : Nat) (x : Bool) (r : Machine.AxisRec)
    (g : Machine.LaneRec) :
    (Instr.lnPeerRead h q 2).wf = false ∧ (Instr.tokenLineChange h 2 line).wf = false ∧
    (Instr.heartbeatReceive h 2 d d d d d).wf = false ∧ (Instr.peerSilent h 2).wf = false ∧
    (Instr.riserLinkRestored h 2).wf = false ∧ (Instr.handoverFrame h 2 v).wf = false ∧
    (Instr.axisRecordReceive h 2 v x 0 x r).wf = false ∧
    (Instr.laneRecordReceive h 2 v x x g).wf = false ∧
    (Instr.envRecordReceive h 2 v x d v v).wf = false ∧ (Instr.conditionRecount h 2).wf = false := by
  repeat' constructor

/-- `isHallUnit` turns down the first number past its range. -/
theorem wf_refuses_HallUnit (h : Hdr) (q : Requester) (f : Machine.SentFrame) :
    (Instr.fbSentsRead h q 6).wf = false ∧ (Instr.hallChange h 6 0).wf = false ∧ (Instr.hallInvalidTimeout h 6).wf = false ∧
    (Instr.sentFrame h 6 f).wf = false ∧ (Instr.sentTimeout h 6).wf = false := by
  repeat' constructor

/-- `isUnit` turns down the first number past its range. -/
theorem wf_refuses_Unit (h : Hdr) (w : Wr) (x : Bool) (q : Requester) :
    (Instr.tlPtOffsetWrite h 8 w).wf = false ∧ (Instr.quadCount h 8 x x x x).wf = false ∧
    (Instr.doubleEdge h 8).wf = false ∧ (Instr.indexEvent h 8 x x x).wf = false ∧ (Instr.fbArm h q 8).wf = false ∧
    (Instr.fbDisarm h q 8).wf = false ∧ (Instr.aoffWrite h 8 w).wf = false ∧ (Instr.tooth h 8 x x).wf = false ∧
    (Instr.threshLoad h 8).wf = false ∧ (Instr.speedDecay h 8).wf = false ∧ (Instr.standstillTimeout h 8).wf = false ∧
    (Instr.speedWindowEnd h 8).wf = false ∧ (Instr.fbFclrCounter h q 8).wf = false ∧ (Instr.fbFclrHall h q 8).wf = false ∧
    (Instr.fbFclrSent h q 8).wf = false := by
  repeat' constructor

/-- `isEntry` turns down the first number past its range. -/
theorem wf_refuses_Entry (h : Hdr) :
    (Instr.entryBaseInstant h 256).wf = false ∧ (Instr.rePrediction h 256).wf = false ∧ (Instr.edgePeriodCommit h 256).wf = false ∧
    (Instr.edgeSectorCommit h 256).wf = false ∧ (Instr.edgeGateCommit h 256).wf = false := by
  repeat' constructor

/-- `isSeq` turns down the first number past its range. -/
theorem wf_refuses_Seq (h : Hdr) (w : Wr) :
    (Instr.nominalInstant h 16).wf = false ∧ (Instr.cvSeqWrite h 16 w).wf = false := by
  repeat' constructor

/-- `isConv` turns down the first number past its range. -/
theorem wf_refuses_Conv (h : Hdr) (t : Machine.TurnMeas) :
    (Instr.conversionComplete h 4 0 0).wf = false ∧ (Instr.turnEnd h 4 t).wf = false ∧
    (Instr.sliceSwap h 4).wf = false := by
  repeat' constructor

/-- `isAxis` turns down the first number past its range. -/
theorem wf_refuses_Axis (h : Hdr) (q : Requester) (w : Wr) (v : Nat) (x : Bool) (r : Machine.AxisRec) :
    (Instr.passStart h 6).wf = false ∧ (Instr.dutyArrival h 6).wf = false ∧ (Instr.cutOff h 6).wf = false ∧
    (Instr.bemfEvaluate h 6).wf = false ∧ (Instr.zcMiss h 6).wf = false ∧ (Instr.cmStart h q 6).wf = false ∧
    (Instr.cmStop h q 6).wf = false ∧ (Instr.stopPeriodStart h 6).wf = false ∧ (Instr.leZero h q 6).wf = false ∧
    (Instr.leBankWrite h 6 w).wf = false ∧ (Instr.ocTrip h 6).wf = false ∧
    (Instr.axisRecordReceive h 0 v x 6 x r).wf = false ∧
    (Instr.sfeEvaluation h 6 x).wf = false ∧ (Instr.sfeDeadline h 6).wf = false ∧
    (Instr.sfeEvalRateTimeout h 6).wf = false ∧ (Instr.brakeRelease h 6).wf = false ∧ (Instr.brakeApplyStart h 6).wf = false ∧
    (Instr.brakeRampPeriod h 6).wf = false := by
  repeat' constructor

/-- `isGdOffset` turns down the first number past its range. -/
theorem wf_refuses_GdOffset (h : Hdr) (w : Wr) :
    (Instr.gdRegisterWrite h 0x3FFC w).wf = false := by
  repeat' constructor

/-- `isGate` turns down the first number past its range. -/
theorem wf_refuses_Gate (h : Hdr) :
    (Instr.bootUv h 36).wf = false ∧ (Instr.bootPersist h 36).wf = false ∧ (Instr.desatTrip h 36).wf = false ∧
    (Instr.pfDecay h 36).wf = false := by
  repeat' constructor

/-- `isPath` turns down the first number past its range. -/
theorem wf_refuses_Path (h : Hdr) :
    (Instr.pathConfirm h 3).wf = false := by
  repeat' constructor

/-- `isConn` turns down the first number past its range. -/
theorem wf_refuses_Conn (h : Hdr) :
    (Instr.envWatchdog h 15).wf = false := by
  repeat' constructor

/-- Offsets that are no multiple of 4, no gate-drive register or past that block are turned down. -/
theorem wf_refuses_bad_offsets (h : Hdr) (w : Wr) :
    (Instr.registerWrite h 0x12 w).wf = false ∧ (Instr.gdRegisterWrite h 0x4800 w).wf = false ∧
    (Instr.gdRegisterWrite h 0x4002 w).wf = false := by
  repeat' constructor

/-- Operands outside their own ranges are turned down. -/
theorem wf_refuses_numbers (h : Hdr) (v : Nat) :
    (Instr.restoreSaveList h 4).wf = false ∧ (Instr.hallChange h 0 8).wf = false ∧ (Instr.conversionComplete h 0 5 0).wf = false ∧
    (Instr.conversionComplete h 0 0 16384).wf = false ∧ (Instr.selfDiagnosisTrigger h 0 v).wf = false ∧
    (Instr.selfDiagnosisTrigger h 0x0C v).wf = false ∧ (Instr.deferredCause h 0x0F v).wf = false ∧
    (Instr.deferredCause h 0x18 v).wf = false ∧ (Instr.lockstepMismatch h 11).wf = false ∧
    (Instr.parityError h 0 32 none).wf = false ∧ (Instr.parityError h 0 0 (some 256)).wf = false ∧ (Instr.parityError h 0 192 (some 0)).wf = false ∧
    (Instr.tapOpenInstruction h .dbgAccess).wf = false ∧ (Instr.tapAttach h .bypass 0).wf = false ∧
    (Instr.shakeoutTestComplete h [] 3 [] []).wf = false ∧ (Instr.pcieConfigWrite h true true true true 6).wf = false ∧
    (Instr.msixModerationExpiry h 16).wf = false ∧ (Instr.endpointReset h 4).wf = false := by
  repeat' constructor

/-- Lists of the wrong length are refused: 48 slacks, 64 descriptor bytes. -/
theorem wf_refuses_lengths (h : Hdr) (x : Bool) :
    (Instr.temperInterval h [0] x).wf = false ∧ (Instr.nop h [0]).wf = false ∧ (Instr.setpoint h [0]).wf = false ∧
    (Instr.mode h [0]).wf = false ∧ (Instr.arm h [0]).wf = false ∧ (Instr.shakeout h [0]).wf = false ∧ (Instr.time h [0]).wf = false ∧
    (Instr.abort h [0]).wf = false ∧ (Instr.lane h [0]).wf = false ∧ (Instr.badDesc h [0]).wf = false := by
  repeat' constructor

/-! Witnesses: a state and operands that meet the hypotheses of each statement, clause by clause -/

theorem witness_KeysArmAndDisarm :
    meets .a linked (fun l => l.reaches .host && l.reaches .internal) ∧ (0 : Word) ≠ 0xC1E7 ∧
    (Instr.registerWrite ⟨.a, 0⟩ 0x20 ⟨.host, 5, 0xF⟩).regWrite? = some (⟨.a, 0⟩, 0x20, ⟨.host, 5, 0xF⟩) ∧
    (Instr.registerWrite ⟨.a, 0⟩ 0x20 ⟨.host, 5, 0xF⟩).wf = true ∧ 0x20 ≠ Reg.SYS_KEY ∧
    isStatusReg Reg.SYS_LSTATUS = true := by decide

theorem witness_PartialWritesAreRefused :
    meets .a linked (fun l => l.reaches .host) ∧
    (Instr.gdDtWrite ⟨.a, 0⟩ ⟨.host, 1, 7⟩).regWrite? = some (⟨.a, 0⟩, Reg.GD_DT, ⟨.host, 1, 7⟩) ∧
    (Instr.gdDtWrite ⟨.a, 0⟩ ⟨.host, 1, 7⟩).wf = true ∧ (7 : BitVec 4) ≠ 0xF := by decide

theorem witness_EventsSetFlagsAndCountSeq :
    meets .a linked (fun l => isStatusReg Reg.LN_STATUS && decide (2 ^ 24 - 1 < 2 ^ 24) &&
      decide ((l.stat Reg.LN_STATUS).cyc ≠ some l.now)) ∧
    meets .a (fun l => (linked l).event Reg.LN_STATUS 1) (fun l => (l.stat Reg.LN_STATUS).cyc = some l.now) ∧
    meets .a (inState .reset) (fun l => l.pw.state = .reset && !l.pw.vinLow) := by decide

/-- LN_STATUS with flag 0 just set, as a host that had read SEQ 0 found it. -/
def lateFlag (l : Lane) : Lane :=
  (linked l).setStat Reg.LN_STATUS { initStatus with seq := 1, flags := 1, cyc := some (linked l).now, fresh := 1, hostWas := some 0 }

theorem witness_StatusReadsAndWriteBacks :
    meets .a linked (fun l => l.reaches .host && isStatusReg Reg.LN_REPLACE &&
      decide ((l.stat Reg.LN_REPLACE).tok .host ≠ some (BitVec.ofNat 8 (field (0 : Word) 24 8))) &&
      decide ((l.stat Reg.LN_REPLACE).cyc ≠ some l.now)) ∧
    meets .a (fun l => (linked l).setStat Reg.LN_REPLACE { initStatus with hostTok := some 0 }) (fun l =>
      (l.stat Reg.LN_REPLACE).tok .host = some (BitVec.ofNat 8 (field (0 : Word) 24 8))) ∧
    meets .a (fun l => (linked l).setStat Reg.LN_STATUS { initStatus with hostTok := some 0 }) (fun l =>
      (l.stat Reg.LN_STATUS).tok .host = some (BitVec.ofNat 8 (field (0 : Word) 24 8)) && decide (Reg.LN_STATUS ≠ Reg.LN_REPLACE)) ∧
    (let st := State.reset.setLane .a (linked State.reset.a) (lateFlag State.reset.a)
     let l := st.arrive ⟨.a, 0⟩
     l.reaches .host ∧ (l.stat Reg.LN_STATUS).cyc = some l.now ∧ (l.stat Reg.LN_STATUS).seq ≠ ((st.start ⟨.a, 0⟩).stat Reg.LN_STATUS).seq) ∧
    meets .a lateFlag (fun l => l.reaches .host && decide ((l.stat Reg.LN_STATUS).tok .host = none) &&
      decide ((l.stat Reg.LN_STATUS).cyc = some l.now) &&
      decide ((l.stat Reg.LN_STATUS).tokWas .host l.now = some (BitVec.ofNat 8 (field (1 : Word) 24 8)))) := by decide

theorem witness_ReadsThatClearOrLatch :
    meets .a linked (fun l => l.reaches .host && [0x1034, 0x2010, 0x500C, 0x4820, 0x70A4, 0x24, 0x1200].all fun o =>
      decide (l.reg o = 0) && decide (l.stat o = initStatus)) ∧
    meets .a id (fun l => !l.reaches .host) := by decide

theorem witness_FieldsObeyTheirAccessCodes :
    (let c : Landing := { keyed := false, run := true, always := false }
     let fs : List Fld := [⟨0, 16, .rw⟩, ⟨16, 8, .rwl⟩, ⟨24, 8, .rwk⟩]
     c.always = false ∧ (∀ f ∈ fs, f.lo + f.width ≤ 32 ∧ f.acc.writeOnly = false) ∧
       fs.Pairwise (fun f g => f.lo + f.width ≤ g.lo ∨ g.lo + g.width ≤ f.lo)) ∧
    meets .a running (fun l => l.reaches .host && [Reg.SYS_SCRATCH, Reg.LN_CFG, Reg.LN_PATHS, Reg.HR_IMOD, Reg.PW_MODE, Reg.PW_WAKE,
      Reg.PW_VCFG].all fun o => (regRow? o).isSome) := by decide

theorem witness_RefusalsAreCaptured :
    meets .a linked (fun l => l.reaches .host && decide (((l.setKey .host false).landFields (l.keyOf .host) Reg.LN_AXCFG
      (((regRow? Reg.LN_AXCFG).map RegRow.fields).getD []) 1).1 ≠ 0) && decide ((regRow? Reg.LN_AXCFG).any fun r => !r.status)) ∧
    Reg.LN_AXCFG ≠ Reg.SYS_KEY ∧ Reg.LN_AXCFG < 0x8000 ∧ Reg.LN_AXCFG % 4 = 0 := by decide

theorem witness_RowWritesAreRegisterWrites :
    (Instr.tsCmdRun ⟨.c, 0⟩ ⟨.internal, 1, 3⟩).regWrite? = some (⟨.c, 0⟩, Reg.TS_CMD, ⟨.internal, 1, 3⟩) ∧
    (Instr.tsCmdRun ⟨.c, 0⟩ ⟨.internal, 1, 3⟩).wf = true := by decide

/-- A save record of an empty configuration. -/
def emptySave : SaveRec := { imageId := 0, stepping := 0, regs := [], entries := [], banks := [], empty := 0xFFF, sched := [] }

theorem witness_SuppliesRiseAndFall :
    meets .a (inState .unpowered) (fun l => l.pw.state = .unpowered) ∧
    meets .a linked (fun l => l.pw.state ≠ .unpowered && l.alive) ∧
    meets .a (inState .park) (fun l => l.pw.state = .park) ∧
    meets .a (power fun p => { p with state := .reset, start := 1 }) (fun l => l.pw.state = .reset && l.pw.start = 1) := by decide

theorem witness_LanesStartAndBoot :
    meets .a linked (fun l => l.pw.state ≠ .unpowered && l.pw.state ≠ .off && l.alive) ∧
    meets .a (inState .reset) (fun l => l.pw.state = .reset && !l.pw.vinLow && l.pw.start ≠ 5 &&
      !(l.pw.start = 3 && l.pw.clockLoss)) ∧
    meets .a (fun l => { power (fun p => { p with bootAt := some 0 }) l with now := 75000 }) (fun l =>
      l.pw.bootAt = some 0 && 0 + 75000 ≤ l.now && l.alive) ∧
    meets .a (fun l => { power (fun p => { p with start := 5, saved := some emptySave }) l with ts := { l.ts with done := true } })
      (fun l => l.pw.state = .setup && l.pw.start = 5 && l.ts.done && !l.pw.restored && l.pw.saved = some emptySave &&
        l.ig.parkFault = none && l.ts.fails = []) := by decide

theorem witness_LowPowerEntryAndWake :
    meets .a (fun l => set Reg.PW_MODE 1 (running l)) (fun l => l.reaches .host && l.keyOf .host && l.pw.state = .run &&
      l.pw.entry = none && l.fld Reg.PW_MODE 0 2 ≠ 0 && !l.waitRefused (l.fld Reg.PW_MODE 0 2) && l.ts.burns = []) ∧
    meets .a (fun l => ctl (fun n => { n with role := .active }) (set Reg.PW_MODE 1 (running l))) (fun l => l.reaches .host &&
      l.keyOf .host && l.pw.state = .run && l.pw.entry = none && l.fld Reg.PW_MODE 0 2 ≠ 0 && l.waitRefused (l.fld Reg.PW_MODE 0 2)) ∧
    meets .a (fun l => { running l with
        pw := { (running l).pw with entry := some { mode := 1, beats := 0, isolated := false, held := false } },
        port := { l.port with levels := 0x04000000, levelsSeen := true } })
      (fun l => l.alive && l.pw.entry = some { mode := 1, beats := 0, isolated := false, held := false } && l.port.levelsSeen &&
        bit l.port.levels 26) ∧
    meets .a (fun l => set Reg.PW_WAKE 0xF0000001 (inState .doze (keyed l))) (fun l => l.pw.entry = none && l.rbit Reg.PW_WAKE 31 &&
      l.rbit Reg.PW_WAKE 29 && l.rbit Reg.PW_WAKE 28 && l.fld Reg.PW_WAKE 0 16 ≠ 0 && l.pw.state = .doze && !l.pw.waking &&
      l.reaches .host && l.keyOf .host) ∧
    meets .a (fun l => set Reg.PW_WAKE 0xF0000001 (inState .park l)) (fun l => l.pw.entry = none && l.rbit Reg.PW_WAKE 31 &&
      l.rbit Reg.PW_WAKE 29 && l.rbit Reg.PW_WAKE 28 && l.fld Reg.PW_WAKE 0 16 ≠ 0 && l.pw.state = .park && !l.pw.vinLow) ∧
    meets .a (power fun p => { p with state := .doze, waking := true }) (fun l => l.pw.state = .doze && l.pw.waking &&
      !l.ln.failed) ∧
    meets .a (fun l => ctl (fun n => { n with failed := true }) (power (fun p => { p with state := .doze, waking := true }) l))
      (fun l => l.pw.state = .doze && l.pw.waking && l.ln.failed) ∧
    meets .a (fun l => power (fun p => { p with padLatch := true }) (running l)) (fun l => l.reaches .host && l.keyOf .host &&
      l.ts.done && l.pw.padLatch) ∧
    meets .a (fun l => set Reg.PW_VCFG 0 (hears 1 1 3 (running l))) (fun l => l.alive && l.ln.role = .offline && l.partakes && !l.ln.agreed &&
      l.restingHeard && !l.wordHeard && l.runFor l.solo && l.ln.line = .idle && l.eligible && !l.claimMet) ∧
    meets .a (fun l => set Reg.PW_VCFG 0 ((hears 1 1 3 (running l)).modPeer 1 fun p => { p with line := .hold })) (fun l =>
      l.alive && l.ln.role = .offline && l.partakes && !l.ln.agreed && l.restingHeard && !l.wordHeard && l.runFor l.solo &&
      l.ln.line = .idle && l.claimMet) := by decide

/-- The view of a peer's line. -/
def sees (k : Nat) (line : Line) (l : Lane) : Lane := l.modPeer k fun p => { p with line := line }

/-- A STANDBY in RUN that has given up its claim against no one. -/
def standby (l : Lane) : Lane := ctl (fun n => { n with role := .standby, agreed := true }) (running l)

/-- The holder of the token, ACTIVE in RUN. -/
def holder (l : Lane) : Lane :=
  ctl (fun n => { n with role := .active, line := .hold, held := true, holder := l.id.num, tr := some 0, agreed := true }) (running l)

theorem witness_ClaimsFollowTheLines :
    meets .a (fun l => ctl (fun n => { n with holder := 2 }) (sees 1 .hold (running l))) (fun l => l.alive && l.riserPorts = 3 &&
      (l.peerOf 1).line ≠ .idle && l.ln.line = .idle && l.ln.holder = l.peerNo 1) ∧
    meets .a (fun l => sees 1 .idle (running l)) (fun l => l.alive && l.riserPorts = 3 && (l.peerOf 1).line ≠ .hold && (l.peerOf 1).line ≠ .silent &&
      l.ln.line = .idle) ∧
    meets .a (fun l => sees 1 .idle (holder l)) (fun l => l.alive && l.riserPorts = 3 && (l.peerOf 1).line ≠ .hold && l.ln.line = .hold &&
      l.ln.splitAt = none) ∧
    meets .c (fun l => ctl (fun n => { n with line := .claim }) (running l)) (fun l => l.alive && l.riserPorts = 3 && (l.peerOf 1).line ≠ .claim &&
      l.ln.line = .claim && l.outranked 1 && !l.ln.forHandover) ∧
    meets .a (fun l => sees 1 .idle (running l)) (fun l => l.alive && l.riserPorts = 3 && (l.peerOf 1).line ≠ .silent) ∧
    meets .a standby (fun l => l.alive && l.ln.line = .idle && l.eligible && !l.claimMet) ∧
    meets .c (fun l => sees 1 .claim (standby l)) (fun l => l.alive && l.ln.line = .idle && l.eligible && l.claimMet) ∧
    meets .a holder (fun l => l.alive && l.riserPorts = 3 && (l.ln.line ≠ .idle || !l.eligible)) ∧
    meets .a (fun l => ctl (fun n => { n with line := .claim, claimAt := 999984 }) (standby l)) (fun l => l.alive && l.riserPorts = 3 &&
      l.ln.line = .claim && !l.ln.forHandover && l.ln.claimAt + 16 ≤ l.now) ∧
    meets .a (fun l => sees 1 .hold (ctl (fun n => { n with holder := 2 }) (standby l))) (fun l => l.alive && l.riserPorts = 3 && l.partakes &&
      l.ln.role = .standby && l.health = 0 && !(l.peerOf 1).silent && l.ln.line = .idle && l.ln.holder = l.peerNo 1 && (l.peerOf 1).line = .hold &&
      l.now + 710 ≤ l.cycleAt 8000000) ∧
    meets .a (fun l => ctl (fun n => { n with line := .claim, forHandover := true, tr := some 1000016 }) (standby l)) (fun l =>
      l.alive && l.riserPorts = 3 && l.ln.tr = some 1000016 && l.ln.line = .claim && l.ln.forHandover && 1000016 ≤ l.now + 16) ∧
    meets .a (fun l => sees 1 .hold (ctl (fun n => { n with splitAt := some 999488 }) (holder l))) (fun l => l.alive && l.riserPorts = 3 &&
      l.ln.splitAt = some 999488 && l.splitPeer = some 1 && l.ln.line = .hold && 999488 + 512 ≤ l.now && !l.outranked 1) ∧
    meets .c (fun l => sees 1 .hold (ctl (fun n => { n with splitAt := some 999488 }) (holder l))) (fun l => l.alive && l.riserPorts = 3 &&
      l.ln.splitAt = some 999488 && l.splitPeer = some 1 && l.ln.line = .hold && 999488 + 512 ≤ l.now && l.outranked 1) := by decide

theorem witness_HeartbeatsAndHealth :
    meets .a running (fun l => l.alive && l.riserPorts = 3 && l.ln.hbAt = none) ∧
    meets .a (fun l => { running l with ts := { l.ts with unusable := 8 } }) (fun l => l.alive && !l.riserPorts.testBit 0) ∧
    meets .a (fun l => ctl (fun n => { n with hbAt := some 999744 }) (running l)) (fun l => l.alive && l.riserPorts = 3 && l.ln.hbAt = some 999744 &&
      999744 + 256 ≤ l.now) ∧
    meets .a (fun l => ctl (fun n => { n with hbAt := some 999745 }) (running l)) (fun l => l.alive && l.riserPorts = 3 && l.ln.hbAt = some 999745 &&
      l.now < 999745 + 256) ∧
    meets .a running (fun l => l.alive && l.riserPorts = 3 && field (0 : Word) 30 2 ≠ l.peerNo 1) ∧
    (let w0 : Word := 0x80000000
     let c := (crc16 [w0, 0, 0, 0]).toNat
     meets .a running (fun l => l.alive && l.riserPorts = 3 && (crc16 [w0, 0, 0, 0]).toNat = field (BitVec.ofNat 32 (c * 65536)) 16 16 &&
       field w0 30 2 = l.peerNo 1)) ∧
    meets .a (fun l => (hears 1 1 0 (running l)).modPeer 1 fun p => { p with axcfg := 1 }) (fun l => l.alive && l.riserPorts = 3 && l.inRun &&
      l.runFor l.hbto && l.wordHeard && !l.ln.agreed && !l.ln.impaired.getLsbD 7) ∧
    meets .a (fun l => (hears 0 1 0 (running l)).modPeer 1 fun p => { p with lastAt := some 0, health := 3 }) (fun l => l.alive && l.riserPorts = 3 &&
      (l.peerOf 1).lastAt.isSome && !l.heardPeer 1 && !(l.peerOf 1).silent && (l.peerOf 1).health = 3) ∧
    meets .a (fun l => ((hears 0 1 0 (running l)).modPeer 0 fun p => { p with heard := 4 }).modPeer 1 fun p =>
      { p with lastAt := some 0, health := 0 }) (fun l => l.alive && l.riserPorts = 3 && (l.peerOf 1).lastAt.isSome && !l.heardPeer 1 &&
      !(l.peerOf 1).silent && (l.peerOf 1).health = 0 && l.thirdHears 1) ∧
    meets .a (fun l => (hears 1 1 0 (running l)).modPeer 1 fun p => { p with backSince := some 750000 }) (fun l => l.alive && l.riserPorts = 3 &&
      (l.peerOf 1).backSince = some 750000 && l.heardPeer 1 && 750000 + 250000 ≤ l.now && !(l.peerOf 0).lost) ∧
    meets .a (fun l => ((hears 1 1 0 (running l)).modPeer 1 fun p => { p with backSince := some 750000 }).modPeer 0 fun p =>
      { p with lost := true }) (fun l => l.alive && l.riserPorts = 3 && (l.peerOf 1).backSince = some 750000 && l.heardPeer 1 &&
      750000 + 250000 ≤ l.now && (l.peerOf 0).lost) ∧
    meets .a (fun l => (hears 1 2 0 (ctl (fun n => { n with cond := 1 }) (holder l))).modPeer 1 fun p =>
      { p with readySince := some 750000 }) (fun l => l.alive && l.riserPorts = 3 && (l.peerOf 1).readySince = some 750000 && l.holds &&
      l.ln.cond ≠ 3 && l.hearsStandby && l.heardPeer 1 && 750000 + 250000 ≤ l.now) := by decide

/-- A period of axis 0 fixed ahead. -/
def ahead (t : Nat) (l : Lane) : Lane :=
  l.modAxis 0 fun a => { a with periods := [{ start := t, formed := false, duty := 0, rev := false, dmin := 0, ds := none, cut := false, shunt := none, judged := false }] }

theorem witness_TriggersAndDeferredCauses :
    meets .a running (fun l => l.alive && decide (1 ≤ 0x0B) && l.ln.trigAt = none) ∧
    meets .a (ctl (fun n => { n with trigAt := some 1000000, code := 2 }) ∘ running) (fun l => l.alive && l.ln.trigAt = some l.now &&
      decide (l.ln.code ≤ 3)) ∧
    meets .a standby (fun l => l.alive && l.riserPorts = 3 && impairs 0x17 && withdraws 0x10 && l.ln.line = .idle && !l.ln.failed &&
      l.ln.role = .standby) ∧
    meets .a holder (fun l => l.alive && l.riserPorts = 3 && impairs 0x12 && l.ln.line = .hold && l.ln.handover = none && l.standbyPeer = none) ∧
    meets .a (fun l => ahead 1001024 (hears 1 2 0 (holder l))) (fun l => l.alive && l.riserPorts = 3 && withdraws 0x11 && l.ln.line = .hold &&
      l.ln.handover = none && l.standbyPeer = some 1 && l.periodStart l.taxis (l.now + 1024) = some 1001024) := by decide

theorem witness_HandoversAndViews :
    meets .a (fun l => ctl (fun n => { n with handover := some { code := 0x16, th := 1000700, claimed := false } }) (holder l))
      (fun l => l.alive && l.ln.handover = some { code := 0x16, th := 1000700, claimed := false } && 1000700 ≤ l.now + 700) ∧
    meets .a (fun l => ctl (fun n => { n with handover := some { code := 0x16, th := 1000032, claimed := true } }) (holder l))
      (fun l => l.alive && l.ln.handover = some { code := 0x16, th := 1000032, claimed := true } && 1000032 ≤ l.now + 32 &&
        l.ln.line = .hold && !l.ln.failed) ∧
    meets .a (fun l => ahead 1001024 (hears 1 2 0 (holder l))) (fun l => l.alive && l.reaches .host && l.keyOf .host && l.isActive &&
      l.ln.line = .hold && l.ln.handover = none && (l.peerOf 0).line ≠ .claim && (l.peerOf 1).line ≠ .claim &&
      l.standbyPeer = some 1 && l.periodStart l.taxis (l.now + 1024) = some 1001024) ∧
    meets .a running (fun l => l.alive && l.reaches .host && l.keyOf .host && !l.isActive) ∧
    meets .a holder (fun l => l.alive && l.reaches .host && l.keyOf .host && l.isActive && l.standbyPeer = none) ∧
    meets .a (fun l => ctl (fun n => { n with pathAt := vmod n.pathAt 2 fun _ => some 1000000 }) (set Reg.LN_CFG 0 (holder l))) (fun l =>
      l.alive && vget l.ln.pathAt 2 none = some 1000000 && 1000000 + us (l.fld Reg.LN_CFG 0 16) ≤ l.now) ∧
    meets .a (fun l => ctl (fun n => { n with pathAt := vmod n.pathAt 2 fun _ => some 1000000 })
      ((hears 1 1 0 (set Reg.LN_CFG 0 (holder l))).modPeer 1 fun p => { p with paths := 4 })) (fun l => l.alive &&
      vget l.ln.pathAt 2 none = some 1000000 && 1000000 + us (l.fld Reg.LN_CFG 0 16) ≤ l.now && !l.pathExternal 2) ∧
    meets .a (fun l => sees 1 .hold (ctl (fun n => { n with viewAt := some 999936 }) { running l with port := { l.port with
      levelsSeen := true } })) (fun l => l.alive && l.ln.viewAt = some 999936 && l.viewDiff = 4 && 999936 + 64 ≤ l.now &&
      l.ln.resent = 0) ∧
    meets .a (fun l => ctl (fun n => { n with viewAt := some 999936 }) { running l with port := { l.port with
      levels := 0x08000000, levelsSeen := true } }) (fun l => l.alive && l.ln.viewAt = some 999936 && l.viewDiff = 2 &&
      999936 + 64 ≤ l.now && l.ln.resent = 0) := by decide

/-- The present values of axis 0 as an axis record, in drive or not. -/
def record (drive : Bool) : AxisRec := { State.reset.a.axisRecord 0 with drive := drive }

/-- A STANDBY that mirrors lane C, with axis 5 of class AUX. -/
def mirroring (l : Lane) : Lane := set Reg.LN_AXCFG 0x18000 (ctl (fun n => { n with holder := 2 }) (standby l))

theorem witness_MirrorRecordsAreAdopted :
    meets .a holder (fun l => l.alive && l.holds && l.ln.laneRecAt = none && l.riserPorts = 3) ∧
    meets .a (fun l => hears 1 2 0 (ctl (fun n => { n with laneCount := 0 }) (holder l))) (fun l => l.alive && l.holds && l.fullRate 1 &&
      l.ln.laneRecAt = none) ∧
    meets .a (fun l => { running l with ts := { l.ts with unusable := 8 } }) (fun l => l.alive && !l.riserPorts.testBit 0) ∧
    meets .a (fun l => ctl (fun n => { n with laneRecAt := some 997500 }) (holder l)) (fun l => l.alive && l.holds &&
      l.ln.laneRecAt = some 997500 && 997500 + 2500 ≤ l.now) ∧
    meets .a mirroring (fun l => l.alive && !l.holds && l.riserPorts = 3 && l.mirrors 1 && !l.mirrors 0 && l.enabled 5 && !l.enabled 4) ∧
    (record false).drive = false ∧
    meets .a (fun l => set (Reg.SF_CCFG 14) 0xA0000000 (set (Reg.SF_CID 14) 7 (mirroring l))) (fun l => l.alive && l.mirrors 1 &&
      ((List.range 15).find? fun j => l.inbound j && l.reg (Reg.SF_CID j) == 7 && l.fld (Reg.SF_CCFG j) 28 2 == 2) = some 14 &&
      !(l.conn 14).sync) ∧
    meets .a (fun l => (set (Reg.SF_CCFG 14) 0xA0000000 (set (Reg.SF_CID 14) 7 (mirroring l))).modConn 14 fun c => { c with sync := true })
      (fun l => l.alive && l.mirrors 1 && (l.conn 14).sync &&
        ((List.range 15).find? fun j => l.inbound j && l.reg (Reg.SF_CID j) == 7 && l.fld (Reg.SF_CCFG j) 28 2 == 2) = some 14) := by decide

/-- The timeline changed. -/
def timeline (f : Timeline → Timeline) (l : Lane) : Lane := { l with tl := f l.tl }

/-- Wall time at `ns` in phase, PPS as the reference, steps past `jump` ns refused. -/
def wallTime (ns jump : Nat) (l : Lane) : Lane :=
  set Reg.TL_WCFG 1 (set Reg.TL_TJUMP jump (timeline (fun t => { t with wclk := ns * 2 ^ 32, phaseValid := true }) (keyed l)))

theorem witness_WallTimeFollowsItsReference :
    meets .a (fun l => timeline (fun t => { t with ppsLast := some 775000001 }) { linked l with now := 1000000000 }) (fun l =>
      l.alive && !l.pw.padLatch && l.tl.ppsLast = some 775000001 && l.now ≥ 225000000 && l.now < 775000001 + 225000000) ∧
    meets .a (fun l => timeline (fun t => { t with ppsLast := some 775000000 }) (set Reg.TL_WCFG 0 { linked l with now := 1000000000 }))
      (fun l => l.alive && !l.pw.padLatch && l.tl.ppsLast = some 775000000 && 775000000 + 225000000 ≤ l.now &&
        !l.rbit Reg.TL_WSET_HI 16 && l.refSrc ≠ 1) ∧
    meets .a (fun l => set Reg.TL_WCFG 1 (linked l)) (fun l => l.alive && !l.pw.padLatch && l.tl.ppsLast = none &&
      !l.rbit Reg.TL_WSET_HI 16 && l.refSrc = 1 && !l.tl.phaseValid) ∧
    meets .a (wallTime 1001 1000) (fun l => l.alive && !l.pw.padLatch && l.tl.ppsLast = none && !l.rbit Reg.TL_WSET_HI 16 &&
      l.refSrc = 1 && l.tl.phaseValid && !l.tl.stepArmed && max 100 (l.reg Reg.TL_TJUMP).toNat <
        ((l.wns : Int) - ((l.wns + 500000000) / 1000000000 * 1000000000 : Nat)).natAbs && !l.tl.slewing) ∧
    meets .a (wallTime 1000 1000) (fun l => l.alive && !l.pw.padLatch && l.tl.ppsLast = none && !l.rbit Reg.TL_WSET_HI 16 &&
      l.refSrc = 1 && l.tl.phaseValid && !l.tl.stepArmed &&
        ((l.wns : Int) - ((l.wns + 500000000) / 1000000000 * 1000000000 : Nat)).natAbs ≤ max 100 (l.reg Reg.TL_TJUMP).toNat) ∧
    meets .a (fun l => set Reg.TL_WSET_HI 0x10000 (set Reg.TL_WCFG 0 (linked l))) (fun l => l.alive && !l.pw.padLatch &&
      l.tl.ppsLast = none && l.rbit Reg.TL_WSET_HI 16 && l.refSrc ≠ 1) ∧
    meets .a (fun l => timeline (fun t => { t with ppsLast := some 725000000 }) { linked l with now := 1000000000 }) (fun l =>
      l.alive && l.tl.ppsLast = some 725000000 && !l.tl.ppsMissed && 725000000 + 275000000 ≤ l.now) ∧
    meets .a (fun l => timeline (fun t => { t with refusal := true }) (keyed l)) (fun l => l.reaches .host && l.keyOf .host &&
      l.tl.refusal && !l.tl.stepArmed) ∧
    meets .a keyed (fun l => l.reaches .host && l.keyOf .host && !l.tl.refusal) := by decide

/-- Entry `k` of the event table holds these words, committed at cycle 0. -/
def entered (k w0 w1 w5 : Nat) (f : Entry → Entry) (l : Lane) : Lane :=
  timeline (fun t => { t with entries :=
    [(k, f { initEntry with w0 := BitVec.ofNat 32 w0, w1 := BitVec.ofNat 32 w1, w5 := BitVec.ofNat 32 w5 })] }) l

/-- An EDGE entry of kind `kind` bound to PT7, predicted `d` cycles ahead of cycle 1,000,000, with ARG bits. -/
def edged (kind arg d : Nat) (l : Lane) : Lane :=
  entered 255 0xB9800000 0 (kind * 0x400000 + arg) (fun e =>
    { e with pred := some { occ := 0, fwd := true, p := 16 * (1000000 + d) + 15, delta := 0, snap := 0 } }) (set Reg.LN_AXCFG 0x18000 (running l))

theorem witness_EntriesCommitFireAndRepeat :
    meets .a linked (fun l => fwf (fun _ => initEntry) l.tl.entries && l.reaches .host && (1 : Word) ≠ l.reg (Reg.TL_PT_OFFSET 7) &&
      !(l.ptOf 7).valid) ∧
    meets .a (fun l => timeline (fun t => { t with pt := vmod t.pt 7 fun p => { p with valid := true } }) (linked l)) (fun l =>
      fwf (fun _ => initEntry) l.tl.entries && l.reaches .host && (1 : Word) ≠ l.reg (Reg.TL_PT_OFFSET 7) && (l.ptOf 7).valid) ∧
    meets .a (fun l => set Reg.TL_EVT_SEL 255 (set (Reg.TL_EVT_W 0) 0x80000000 (linked l))) (fun l =>
      fwf (fun _ => initEntry) l.tl.entries && l.reaches .host && !l.windowEntry.bad && l.windowEntry.on &&
      ((l.boundTo l.windowEntry.base).filter fun j => j != 255).length < 64) ∧
    meets .a (fun l => set (Reg.TL_EVT_W 0) 0xF8000000 (linked l)) (fun l => fwf (fun _ => initEntry) l.tl.entries &&
      l.reaches .host && l.windowEntry.bad) ∧
    meets .a (fun l => timeline (fun t => { t with entries := (List.range 64).map fun k => (k, { initEntry with w0 := 0x80000000 }) })
      (set Reg.TL_EVT_SEL 255 (set (Reg.TL_EVT_W 0) 0x80000000 (linked l)))) (fun l => fwf (fun _ => initEntry) l.tl.entries &&
      l.reaches .host && l.windowEntry.on && 64 ≤ ((l.boundTo l.windowEntry.base).filter fun j => j != 255).length) ∧
    meets .a (fun l => entered 255 0xC0800000 0 0 id (linked l)) (fun l => fwf (fun _ => initEntry) l.tl.entries && l.alive &&
      (l.entry 255).on && (l.entry 255).commitAt < l.now && (l.entry 255).base = 8 && (l.entry 255).action ≠ 3 &&
      !(l.entry 255).done && (l.entry 255).target ≤ l.wns) ∧
    meets .a (fun l => set (Reg.TL_PT_SCALE 7) 2 (entered 255 0xB9000000 0 0 (fun e =>
        { e with pred := some { occ := 0, fwd := true, p := 16000000, delta := 1, snap := 0 } }) (linked l))) (fun l =>
      fwf (fun _ => initEntry) l.tl.entries && l.alive && (l.entry 255).on && (l.entry 255).commitAt < l.now && (l.entry 255).base < 8 &&
      (l.entry 255).pred = some { occ := 0, fwd := true, p := 16000000, delta := 1, snap := 0 } &&
      Pred.base { occ := 0, fwd := true, p := 16000000, delta := 1, snap := 0 } ≤ l.now && (l.entry 255).action ≠ 3 &&
      1 < (l.reg (Reg.TL_PT_SCALE (l.entry 255).base)).toNat) ∧
    meets .a (fun l => timeline (fun t => { t with pt := vmod t.pt 7 fun p => { p with snapAt := 500000 } }) (entered 255 0xB9000000 0 0
        (fun e => { e with pred := some { occ := 0, fwd := true, p := 16000000, delta := 5, snap := 0 } }) (linked l))) (fun l =>
      (l.entry 255).pred = some { occ := 0, fwd := true, p := 16000000, delta := 5, snap := 0 } &&
      decide (0 < (l.ptOf (l.entry 255).base).snapAt) && decide ((l.ptOf (l.entry 255).base).snapAt ≤ 1000000)) ∧
    meets .a (fun l => entered 255 0xB9800000 0 0 (fun e => { e with
        pred := some { occ := 0, fwd := true, p := 16000000, delta := 0, snap := 0 },
        edge := some { ts := 1000000, tap := 0, occ := 0, fwd := true, p := 16000000 } }) (linked l)) (fun l =>
      fwf (fun _ => initEntry) l.tl.entries && l.alive && (l.entry 255).on && (l.entry 255).commitAt < l.now &&
      (l.entry 255).base < 8 && (l.entry 255).action = 3 && (l.entry 255).edge.isSome && 1000000 ≤ l.now) ∧
    meets .a (fun l => entered 255 0xB9000000 7 0 (fun e => { e with dirtyAt := some 1000000 }) (linked l)) (fun l =>
      fwf (fun _ => initEntry) l.tl.entries && l.alive && (l.entry 255).dirtyAt = some 1000000 && 1000000 ≤ l.now &&
      (l.entry 255).edge = none && (l.entry 255).edgeErr = none && (l.entry 255).missed = []) ∧
    meets .a (fun l => entered 255 0xB9000000 7 0 (fun e => { e with dirtyAt := some 1000000, missed := [(7, true)] }) (linked l)) (fun l =>
      (l.entry 255).dirtyAt = some 1000000 && (l.entry 255).edge = none && (l.entry 255).edgeErr = none &&
      (l.entry 255).missed.getLast? = some (7, true) && (l.entry 255).action ≠ 0) ∧
    ([(2, 35 * 256), (0, 0x20), (1, 5)].all fun ka => meets .a (edged ka.1 ka.2 560) (fun l =>
      fwf (fun _ => initEntry) l.tl.entries && l.alive && l.portFree 2 && l.tl.due = [] && l.readyEdges = [255] &&
      l.edgeReady (l.entry 255) && l.edgeTime (l.entry 255) = some (1000560, 15) && (l.entry 255).edgeKind = ka.1 && (l.entry 255).base < 8 && l.enabled 5 && l.sect 5 ≠ 1 &&
      !(l.axis 5).fallback && (ka.1 ≠ 2 || field (l.entry 255).w5 8 6 = 35) && (ka.1 ≠ 0 || (l.entry 255).arg.testBit 5) &&
      (ka.1 ≠ 1 || (l.entry 255).arg % 8 = 5))) ∧
    meets .a (fun l => set (Reg.CM_CFG 5) 0x40000000 (edged 1 5 560 l)) (fun l => fwf (fun _ => initEntry) l.tl.entries && l.alive &&
      l.portFree 2 && l.tl.due = [] && l.readyEdges = [255] && l.edgeReady (l.entry 255) &&
      l.edgeTime (l.entry 255) = some (1000560, 15) &&
      (l.entry 255).edgeKind = 1 && (l.entry 255).arg % 8 = 5 && l.enabled 5 && (l.entry 255).base < 8 && l.sect 5 = 1) := by decide

/-- An action due now at its port. -/
def dueNow (action arg : Nat) (l : Lane) : Lane :=
  timeline (fun t => { t with due := [⟨255, action, arg, l.now, false, none⟩] }) l

/-- What the clauses about a due action share. -/
def duePort (p action arg : Nat) (l : Lane) : Bool :=
  l.awake && l.portFree p && decide (l.nextDue p = some ⟨255, action, arg, 1000000, false, none⟩)

/-- A converter sequence: entries from `first`, of `len`, with its other fields. -/
def sequence (k v : Nat) (l : Lane) : Lane := set (Reg.CV_SEQ k) v l

/-- Axis `n` drives. -/
def drives (n : Nat) (l : Lane) : Lane := l.modAxis n fun a => { a with drive := true }

/-- The rings changed. -/
def rings (f : Rings → Rings) (l : Lane) : Lane := { l with hr := f l.hr }

/-- A Sprue port changed. -/
def port (b : Nat) (f : SprueBus → SprueBus) (l : Lane) : Lane := l.modBus b f

/-- A service of the host's memory in progress, with `left` descriptors to come. -/
def service (left : Option Nat) : Service := { mask := 1, start := 0, issued := 1000000, dbto := 250, fetchMax := 4, left := left }

theorem witness_DueActionsReachTheirUnits :
    meets .a (fun l => sequence 15 0x80010000 (dueNow 1 15 (linked l))) (fun l => duePort 0 1 15 l && l.controlOf 15 0 &&
      !l.seqBusy 15) ∧
    meets .a (fun l => { sequence 15 0x80010000 (dueNow 1 15 (linked l)) with cv := { l.cv with reqs := [⟨15, 1000000, false⟩] } })
      (fun l => duePort 0 1 15 l && l.controlOf 15 0 && l.seqBusy 15) ∧
    meets .a (fun l => dueNow 1 16 (linked l)) (fun l => duePort 0 1 16 l) ∧
    meets .a (fun l => drives 5 (dueNow 2 0x20 (linked l))) (fun l => duePort 1 2 0x20 l && !(l.axis 4).drive && (l.axis 5).drive &&
      !(l.loopOf 5).waiting && !(0x20 : Nat).testBit 4) ∧
    meets .a (fun l => set Reg.LN_AXCFG 0x18000 (dueNow 2 0x20 (linked l))) (fun l => duePort 1 2 0x20 l && l.enabled 5 && !(l.axis 5).drive) ∧
    meets .a (fun l => (drives 5 (dueNow 2 0x30 (linked l))).modLoop 5 fun a => { a with waiting := true }) (fun l =>
      duePort 1 2 0x30 l && !(l.axis 4).drive && (l.axis 5).drive && (l.loopOf 5).waiting) ∧
    meets .a (fun l => rings (fun r => { r with bme := true }) (dueNow 4 0xF (linked l))) (fun l => duePort 3 4 0xF l &&
      l.hr.svc = none && l.canIssue) ∧
    meets .a (fun l => rings (fun r => { r with svc := some (service none) }) (dueNow 4 0xF (linked l))) (fun l =>
      duePort 3 4 0xF l && l.hr.svc.isSome) ∧
    meets .a (fun l => dueNow 5 127 (linked l)) (fun l => duePort 3 5 127 l && !(l.busOf 1).master && !(l.busOf 1).ready) ∧
    meets .a (fun l => port 1 (fun p => { p with master := true }) (dueNow 5 127 (linked l))) (fun l => duePort 3 5 127 l &&
      (l.busOf 1).master && !bit (l.slotWord 1 (l.busOf 1).mode 63) 31) ∧
    meets .a (fun l => { port 1 (fun p => { p with master := true }) (dueNow 5 127 (linked l)) with
        sp := { (port 1 (fun p => { p with master := true }) l).sp with sched := [(319, 0x80000000)] } }) (fun l =>
      duePort 3 5 127 l && (l.busOf 1).master && !(l.busOf 1).ending && bit (l.slotWord 1 (l.busOf 1).mode 63) 31) ∧
    meets .a (fun l => set Reg.HR_CTRL 4 (dueNow 6 0x15 (linked l))) (fun l => duePort 3 6 0x15 l && l.ringOn 2 && l.ringRoom 2) ∧
    meets .a (fun l => set Reg.HR_CTRL 4 (dueNow 6 0x20 (linked l))) (fun l => duePort 3 6 0x20 l && l.ringOn 2 && l.ringRoom 2) ∧
    meets .a (fun l => dueNow 6 0x16 (linked l)) (fun l => duePort 3 6 0x16 l) ∧
    meets .a linked (fun l => l.awake && l.nextDue 0 = none && l.nextDue 1 = none && l.nextDue 3 = none) := by decide

/-- The conversion block changed. -/
def conversion (f : Conversion → Conversion) (l : Lane) : Lane := { l with cv := f l.cv }

/-- A CONTROL sequence 15 of one entry, entry 31 of the table, on channel 0, waits in hold time 1,000,000 − `d`. -/
def waits (d : Nat) (arrived : Bool) (l : Lane) : Lane :=
  sequence 15 0x87C10000 (conversion (fun c => { c with reqs := [⟨15, 1000000 - d, arrived⟩] }) (running l))

/-- The monitor may hold on the last entry of sequence 14. -/
def monitors (l : Lane) : Lane := sequence 14 0xC0020000 (conversion (fun c => { c with monDesc := 14, monEntry := 1 })
  (set Reg.CV_CTRL 1 (running l)))

/-- A conversion of converter 3, slice 3, held 44 cycles ago, with unity correction. -/
def inFlight (entry : Option Nat) (l : Lane) : Lane :=
  conversion (fun c => { c with
    flights := [{ m := 3, slice := 3, entry := entry, ch := 0, zero := 0, cyc := 999956, seq := some 15, jit := 0 }],
    cv := vmod c.cv 3 fun v => { v with slice := vmod v.slice 3 fun s => { s with coef := { off := 0, gain := 0x8000, skew := 0 } } } })
    (linked l)

/-- The flight of `inFlight`. -/
def flight (entry : Option Nat) : Flight :=
  { m := 3, slice := 3, entry := entry, ch := 0, zero := 0, cyc := 999956, seq := some 15, jit := 0 }

theorem witness_ConversionsHoldAndComplete :
    meets .a (waits 0 false) (fun l => l.awake && l.cv.reqs = [⟨15, 1000000, false⟩] && 1000000 ≤ l.now) ∧
    meets .a (fun l => set Reg.CV_CTRL 0 (running l)) (fun l => l.awake && l.cv.reqs = [] && !l.monReady) ∧
    ([0, 1, 40, 41].all fun d => meets .a (waits d true) (fun l => l.awake && l.cv.run = none && l.allIdle &&
      nextReq l.cv.reqs = some ⟨15, 1000000 - d, true⟩ && !(l.conv 3).failed &&
      !chReserved 3 (l.chOf 3 (l.fld (Reg.CV_SEQ 15) 22 5)) && vget (l.conv 3).pos ((l.conv 3).occ.getD 0 0) none = some 0)) ∧
    meets .a (fun l => conversion (fun c => { c with run := some ⟨15, 999960, 4, 0, 4, .replicate 4 []⟩ }) (running l)) (fun l => l.awake &&
      l.cv.run = some ⟨15, 999960, 4, 0, 4, .replicate 4 []⟩ && 999960 + grid 4 4 ≤ l.now) ∧
    meets .a (fun l => conversion (fun c => { c with run := some ⟨15, 999961, 4, 0, 4, .replicate 4 []⟩ }) (running l)) (fun l => l.awake &&
      l.cv.run = some ⟨15, 999961, 4, 0, 4, .replicate 4 []⟩ && l.now < 999961 + grid 4 4) ∧
    meets .a monitors (fun l => l.awake && l.monReady && l.monNext = some (14, 1) && l.seqLen 14 ≤ 1 + 1 && l.monitors = [14]) ∧
    meets .a (fun l => conversion (fun c => { c with monEntry := 0 }) (monitors l)) (fun l => l.awake && l.monReady &&
      l.monNext = some (14, 0) && 0 + 1 < l.seqLen 14) ∧
    meets .a (fun l => conversion (fun c => { c with suspended := true, resumeAt := 1000000 }) (running l)) (fun l => l.awake &&
      l.cv.suspended && l.cv.run = none && l.cv.reqs = [] && l.cv.resumeAt ≤ l.now) ∧
    ([some 31, none].all fun e => meets .a (inFlight e) (fun l => l.awake && fwf (fun _ => (0 : Word)) l.cv.res &&
      (l.cv.flights.find? fun f => f.m == 3 && f.slice == 3) = some (flight e) && (flight e).cyc + 44 ≤ l.now &&
      (corrected 8192 (vget (l.conv 3).slice 3 noSlice).coef 0 - 32768).natAbs ≤ 256 &&
      256 < (corrected 0 (vget (l.conv 3).slice 3 noSlice).coef 0 - 32768).natAbs)) := by decide

/-- A converter whose spare slice 4 has ended its turn. -/
def turned (train owed : Bool) (l : Lane) : Lane :=
  conversion (fun c => { c with eff := 1000, cv := vmod c.cv 3 fun v => { v with turnAt := 750000, eff := 1000, swapOwed := owed } })
    (set Reg.CV_CTRL (if train then 3 else 1) (running l))

/-- What a turn measured: the raw edges of both levels, a clean ramp, mid-scale, and the sum on the shorted input. -/
def measured (vcore short : Nat) : TurnMeas :=
  { lo := 65536, hi := 983040, ramp := 524288, mid := 524288, short := short, hiB := 245760, tj := 250, vcore := vcore, vdrv := 12000 }

theorem witness_SlicesTurnAndSwap :
    ([true, false].all fun t => meets .a (turned t false) (fun l => l.inRun && (l.conv 3).spare = some 4 && !(l.conv 3).swapOwed &&
      (l.conv 3).turnAt + us (l.conv 3).eff ≤ l.now && l.rbit Reg.CV_CTRL 1 = t &&
      (measured 0 0).lo < (measured 0 0).hi && (measured 0 0).estimate.accepted &&
      (vget (l.conv 3).slice 4 noSlice).usable)) ∧
    (let x := { noSlice with turns := 0 }
     (measured 0 0).shakeBad (x.train (measured 0 0).estimate) = false ∧ (measured 0 4097).shakeBad (x.train (measured 0 0).estimate) = true) ∧
    ({ measured 0 0 with hi := 65536 } : TurnMeas).hi ≤ (measured 0 0).lo ∧
    meets .a (turned false true) (fun l => l.awake && (l.conv 3).spare = some 4 && (l.conv 3).turnPos < 4 &&
      vget (l.conv 3).pos (l.conv 3).turnPos none = some 0 && (l.conv 3).swapOwed && l.cv.run = none && l.cv.reqs = [] &&
      l.posIdle 3 (l.conv 3).turnPos) ∧
    meets .a linked (fun l => l.reaches .host && !l.inRun && (List.range 16).all (fun i => (List.range 16).all fun j => !l.seqMeets i j) &&
      field (0 : Word) 0 16 ≠ l.fld Reg.CV_ROT 0 16) := by decide

/-- A core voltage at its target is within 25 mV of it, whatever the factory's target is. -/
theorem witness_SlicesTurnAndSwap_vcore (l : Lane) (short : Nat) :
    (((measured l.vtarget short).vcore : Int) - l.vtarget).natAbs ≤ 25 := by
  simp [measured]

/-- Axis 5, of class AUX, in RUN. -/
def axis5 (l : Lane) : Lane := set Reg.LN_AXCFG 0x18000 (running l)

/-- Axis 5 driving in an ACTIVE lane. -/
def driving (l : Lane) : Lane := drives 5 (ctl (fun n => { n with role := .active }) (axis5 l))

/-- The loop of axis 5 changed. -/
def loop5 (f : LoopAxis → LoopAxis) (l : Lane) : Lane := l.modLoop 5 f

/-- The commutator channel of axis 5 changed. -/
def comm5 (f : CmAxis → CmAxis) (l : Lane) : Lane := l.modAxis 5 f

/-- A pass of axis 5 in flight with this duty. -/
def passing (duty : Int) : PassOut :=
  { st := { initStages with duty := duty }, tgt := 0, psp := 0, spd := 0, apos := 0, ref := 0, limited := false, limKind := 0,
    volt := false, flags := 0, ovf := 0, jit := 0, capS := 0, capL := 0, shadow := false }

/-- A period fixed at cycle `t` that nothing has formed, with the reset value of DMIN. -/
def blank (t : Nat) : Period :=
  { start := t, formed := false, duty := 0, rev := false, dmin := 328, ds := none, cut := false, shunt := none, judged := false }

/-- A period of axis 5 fixed at cycle `t`. -/
def period5 (t : Nat) (l : Lane) : Lane := comm5 (fun a => { a with periods := [blank t] }) l

/-- Axis 5 with its cut-off at hand: a period 700 cycles ahead. -/
def cutting (f : CmAxis → CmAxis) (l : Lane) : Lane := comm5 f (period5 1000700 (axis5 l))

/-- The period of `cutting`. -/
def cutPeriod : Period := blank 1000700

/-- What the clauses of the cut-off share. -/
def cutReady (l : Lane) : Bool :=
  l.awake && l.enabled 5 && decide (l.nextStart 5 (l.now + 1) = some 1000700) && decide (1000700 ≤ l.now + 700) &&
    decide (((l.addPeriod 5 1000700).axis 5).periods.find? (fun p => decide (p.start = 1000700)) = some cutPeriod) &&
    !cutPeriod.cut && !(l.axis 5).drive && decide ((l.axis 5).stopAt = none)

theorem witness_PassesAndDutiesFormPeriods :
    meets .a (fun l => set (Reg.LE_CFG 5) 0 (loop5 (fun a => { a with waiting := true }) (driving l))) (fun l => l.awake && (l.axis 5).drive &&
      (l.loopOf 5).waiting && l.resultFresh 5 && l.bankEmpty 5 (l.fld (Reg.LE_BANK 5) 0 1)) ∧
    meets .a (fun l => set (Reg.LE_CFG 5) 0 (set (Reg.LE_BANK 5) 1 (loop5 (fun a => { a with waiting := true }) (driving l)))) (fun l => l.awake &&
      (l.axis 5).drive && (l.loopOf 5).waiting && l.resultFresh 5 && l.fld (Reg.LE_BANK 5) 0 1 ≠ (l.loopOf 5).bank) ∧
    meets .a axis5 (fun l => l.awake && !(l.axis 5).drive && (l.loopOf 5).flight = none) ∧
    meets .a (fun l => loop5 (fun a => { a with flight := some (passing 100) }) (axis5 l)) (fun l => l.awake &&
      (l.loopOf 5).flight = some (passing 100) && !(l.axis 5).drive) ∧
    meets .a (fun l => set (Reg.CM_CFG 5) 5000 (comm5 (fun a => { a with rs := some 0 }) (period5 1000700
        (loop5 (fun a => { a with flight := some (passing 100) }) (driving l))))) (fun l => l.awake &&
      (l.loopOf 5).flight = some (passing 100) && (l.axis 5).drive && (l.axis 5).stopAt = none && !(l.axis 5).sectLost &&
      ((l.axis 5).rsAt (16 * 1000700)).isSome && !bit l.port.levels 17 && !(l.safetyOf 5).blockPos && !(l.safetyOf 5).blockNeg &&
      l.nextStart 5 (l.now + 700) = some 1000700 && 5000 ≤ l.per 5 && (l.axis 5).periods = [cutPeriod]) ∧
    meets .a (fun l => period5 1000699 (loop5 (fun a => { a with flight := some (passing 100), passAt := some 999000 }) (driving l)))
      (fun l => l.awake && (l.loopOf 5).flight = some (passing 100) && (l.axis 5).drive && (l.axis 5).stopAt = none && !(l.axis 5).sectLost &&
        (l.loopOf 5).passAt = some 999000 && l.nextStart 5 999001 = some 1000699 && 1000699 < l.now + 700) ∧
    meets .a (fun l => period5 1000700 (loop5 (fun a => { a with flight := some (passing 100), passAt := some 999000 }) (driving l)))
      (fun l => l.awake && (l.loopOf 5).flight = some (passing 100) && (l.axis 5).drive && (l.axis 5).stopAt = none && !(l.axis 5).sectLost &&
        (l.loopOf 5).passAt = some 999000 && l.nextStart 5 999001 = some 1000700 && l.now + 700 ≤ 1000700) ∧
    meets .a (cutting id) (fun l => cutReady l && (l.axis 5).starts = []) ∧
    meets .a (fun l => set (Reg.CM_CFG 5) 4999 (cutting (fun a => { a with starts := [none] }) l)) (fun l => cutReady l && (l.axis 5).starts ≠ [] && l.cfgBad 5) ∧
    meets .a (fun l => set (Reg.CM_CFG 5) (0x40000000 + 5000) (cutting (fun a => { a with starts := [none], locked := true, rs := some 0 }) l))
      (fun l => cutReady l && (l.axis 5).starts ≠ [] && !l.cfgBad 5 && l.sect 5 = 1 && (l.axis 5).locked && ((l.axis 5).rsAt (16 * 1000700)).isSome &&
        (l.axis 5).bspd.natAbs ≤ 256 * l.fld (Reg.CM_CATCH 5) 0 24) ∧
    meets .a (fun l => comm5 (fun a => { a with stopAt := some 1000000 }) (driving l)) (fun l => l.awake &&
      (l.axis 5).stopAt = some 1000000 && 1000000 ≤ l.now) := by decide

/-- Axis 5 on back-EMF with sector `rs`, result 31 of converter 1 held at cycle `at31` with this value. -/
def bemf (rs at31 value : Nat) (f : Bemf → Bemf) (l : Lane) : Lane :=
  conversion (fun c => { c with res := [(63, BitVec.ofNat 32 value)], resAt := if at31 = 0 then [] else [(63, at31)] })
    (comm5 (fun a => { a with rs := some rs, bemf := f a.bemf })
      (set (Reg.CM_BEMF 5) 0xF810 (set (Reg.CM_CFG 5) (0x80000000 + 5000) (axis5 l))))

/-- What the clauses of the back-EMF share. -/
def bemfReady (rs : Nat) (l : Lane) : Bool :=
  l.awake && l.enabled 5 && decide (l.sect 5 = 2) && decide ((l.axis 5).rs = some rs) && decide (l.fld (Reg.CM_BEMF 5) 11 5 = 31)

/-- A sample at cycle 1016 of axis 5, with sector 5 and nothing committed. -/
def bemfSampled (rs : Nat) (f : Bemf → Bemf) (l : Lane) : Lane := bemf rs 1060 0 f l

theorem witness_BackEmfIsTracked :
    meets .a axis5 (fun l => l.awake && l.sect 5 ≠ 1 && l.sect 5 ≠ 2) ∧
    meets .a (bemf 5 0 0 id) (fun l => bemfReady 5 l && l.resAt 1 31 = 0) ∧
    meets .a (bemfSampled 5 fun b => { b with lastB := 16 * 1001 }) (fun l => l.awake &&
      (l.axis 5).rsAt (16 * 1016) = some 5 && l.resAt 1 31 - 44 = 1016 && (l.axis 5).lastBound (16 * 1016) = some (16 * 1001) &&
      16 * 1016 < 16 * 1001 + 16 * l.fld (Reg.CM_BEMF 5) 0 11) ∧
    meets .a (bemfSampled 5 fun b => { b with lastB := 16 * 1000 }) (fun l => l.awake &&
      (l.axis 5).rsAt (16 * 1016) = some 5 && l.resAt 1 31 - 44 = 1016 && (l.axis 5).lastBound (16 * 1016) = some (16 * 1000) &&
      16 * 1000 + 16 * l.fld (Reg.CM_BEMF 5) 0 11 ≤ 16 * 1016 && (l.axis 5).bemf.prev = none) ∧
    meets .a (bemfSampled 5 fun b => { b with prev := some (900, -1) }) (fun l => bemfReady 5 l && l.resAt 1 31 - 44 = 1016 &&
      (l.axis 5).rsAt (16 * 1016) = some 5 && (l.axis 5).lastBound (16 * 1016) = none && (l.axis 5).bemf.prev = some (900, -1) &&
      (l.axis 5).bemf.tzc = none && 5 % 2 = 1 && 0 ≤ (l.axis 5).bspd &&
      0 ≤ 2 * l.resVal (patF 5 + 1) 31 - l.resVal ((patHL 5).1 + 1) 31 - l.resVal ((patHL 5).2 + 1) 31) ∧
    meets .a (bemfSampled 5 fun b => { b with prev := some (900, -1), tzc := some 8000 }) (fun l => bemfReady 5 l &&
      (l.axis 5).rsAt (16 * 1016) = some 5 && (l.axis 5).lastBound (16 * 1016) = none && (l.axis 5).bemf.prev = some (900, -1) &&
      (l.axis 5).bemf.tzc = some 8000 && 8000 < 16 * 900) ∧
    meets .a (bemf 5 0 0 fun b => { b with lastB := 15999984, tzz := 16 }) (fun l => l.awake && l.sect 5 = 2 && !(l.axis 5).fallback &&
      (l.axis 5).bemf.tzz ≠ 0 && (l.axis 5).bemf.lastB + (l.axis 5).bemf.tzz ≤ 16 * l.now) ∧
    meets .a (fun l => set (Reg.CM_CFG 5) (0x40000000 + 5000) (bemf 5 0 0 (fun b => { b with lastB := 15999984, tzz := 16 }) l)) (fun l =>
      l.awake && l.sect 5 = 1 && (l.axis 5).rs = some 5 && (l.axis 5).bemf.tzz ≠ 0 && 0 ≤ (l.axis 5).bspd &&
      (l.axis 5).bemf.lastB + (l.axis 5).bemf.tzz ≤ 16 * l.now && (l.axis 5).rsAt (16 * (l.now + 560)) ≠ some ((5 + 1) % 6)) ∧
    meets .a (bemf 5 0 0 fun b => { b with lastB := 15999984, tzz := 16, miss := 15 }) (fun l => l.awake && l.sect 5 = 2 &&
      (l.axis 5).bemf.tzz ≠ 0 && (l.axis 5).bemf.lastB + (l.axis 5).bemf.tzz ≤ 16 * l.now &&
      max 1 (l.fld (Reg.CM_BEMF 5) 20 4) ≤ (l.axis 5).bemf.miss + 1) ∧
    meets .a (bemf 5 0 0 fun b => { b with lastB := 15999984, tzz := 17 }) (fun l => l.awake && l.sect 5 = 2 &&
      (l.axis 5).bemf.tzz ≠ 0 && 16 * l.now < (l.axis 5).bemf.lastB + (l.axis 5).bemf.tzz) := by decide

theorem witness_StartsStopsAndBanks :
    meets .a (fun l => ctl (fun n => { n with role := .active }) (axis5 l)) (fun l => l.reaches .host && l.keyOf .host &&
      l.enabled 5 && !(l.safetyOf 5).safe && l.isActive && !(l.axis 5).drive) ∧
    meets .a (fun l => (axis5 l).modSafety 5 fun x => { x with safe := true }) (fun l => l.reaches .host && l.keyOf .host &&
      l.enabled 5 && (l.safetyOf 5).safe) ∧
    meets .a axis5 (fun l => l.reaches .host && l.keyOf .host && !l.isActive && !(l.safetyOf 5).safe && !(l.axis 5).drive) ∧
    meets .a (fun l => period5 1000700 (driving l)) (fun l => l.reaches .host && l.keyOf .host && (l.axis 5).drive &&
      (l.axis 5).stopAt = none && l.isActive && l.nextStart 5 (l.now + 700) = some 1000700) ∧
    meets .a (fun l => set Reg.LE_WSEL 0x05010055 (driving l)) (fun l => l.reaches .host && l.fld Reg.LE_WSEL 24 3 = 5 &&
      l.fld Reg.LE_WSEL 16 1 = 1 && l.fld Reg.LE_WSEL 0 8 = 0x55 && fwf (fun _ => (0 : Word)) l.le.banks && (l.axis 5).drive &&
      1 ≠ l.fld (Reg.LE_BANK 5) 0 1 && 1 ≠ (l.loopOf 5).bank) ∧
    meets .a (fun l => set Reg.LE_WSEL 0x05000055 (driving l)) (fun l => l.reaches .host && l.fld Reg.LE_WSEL 24 3 = 5 &&
      l.fld Reg.LE_WSEL 16 1 = 0 && l.fld Reg.LE_WSEL 0 8 = 0x55 && fwf (fun _ => (0 : Word)) l.le.banks && (l.axis 5).drive &&
      0 = l.fld (Reg.LE_BANK 5) 0 1) := by decide

/-- Feedback unit `n` changed. -/
def unit (n : Nat) (f : Machine.Unit → Machine.Unit) (l : Lane) : Lane := l.modUnit n f

/-- Unit 5 as a quadrature counter. -/
def quad (f : Counter → Counter) (l : Lane) : Lane := unit 5 (fun u => { u with cnt := f u.cnt }) (set (Reg.FB_CFG 5) 1 (set Reg.LN_AXCFG 0x18000 (keyed l)))

/-- What the clauses of the counter share. -/
def quadReady (l : Lane) : Bool := l.alive && !l.pw.padLatch && decide (l.fbMode 5 = 1) && l.reaches .host && l.keyOf .host

theorem witness_CountsFollowTheHysteresis :
    ((false == false) ≠ (false == true)) ∧ ((false == true) ≠ (false == false)) ∧ (true == false) = false ∧ (false == false) = true ∧
    ((false == false) = (false == false)) ∧
    ([true, false].all fun p => meets .a (quad fun c => { c with pending := p, rev := true }) (fun l => quadReady l && !(l.unit 5).cntFault &&
      (l.unit 5).cnt.pending = p && (l.unit 5).cnt.rev)) ∧
    meets .a (fun l => unit 5 (fun u => { u with cntFault := true }) (quad id l)) (fun l => quadReady l && (l.unit 5).cntFault) ∧
    meets .a keyed (fun l => l.alive && !l.pw.padLatch && l.fbMode 5 ≠ 1) ∧
    meets .a (fun l => set (Reg.FB_LIM 5) 1 (set (Reg.FB_CFG 5) 0x00640001 (quad (fun c => { c with winDe := 1 }) l))) (fun l => quadReady l &&
      l.qcpr 5 ≠ 0 && l.fld (Reg.FB_LIM 5) 0 8 < (l.unit 5).cnt.winDe + 1 && !(l.unit 5).cntFault && l.ssrc 5 = 0 &&
      (l.unit 5).est.state = .standstill) ∧
    meets .a (fun l => set (Reg.FB_LIM 5) 1 (set (Reg.FB_CFG 5) 0x00640001 (unit 5 (fun u => { u with est := { u.est with state := .run } })
      (quad id l)))) (fun l => quadReady l && l.qcpr 5 ≠ 0 && (l.unit 5).cnt.winDe + 1 ≤ l.fld (Reg.FB_LIM 5) 0 8 &&
      l.ssrc 5 = 0 && (l.unit 5).est.state ≠ .standstill) ∧
    meets .a (quad id) (fun l => quadReady l && !l.indexGate 5 false false false) ∧
    meets .a (fun l => set (Reg.FB_IDX 5) 0xA (quad id l)) (fun l => quadReady l && !l.indexGate 5 true false true && l.indexGate 5 true true false) ∧
    meets .a (quad fun c => { c with idxHeld := true }) (fun l => quadReady l && (l.unit 5).cnt.idxHeld) ∧
    meets .a (fun l => unit 5 (fun u => { u with cntFault := true }) (quad id l)) (fun l => quadReady l && (l.unit 5).cntFault &&
      l.indexGate 5 true false false && !(l.unit 5).cnt.idxHeld) ∧
    ([0, 1, 2].all fun m => meets .a (fun l => set (Reg.FB_IDX 5) (256 * m) (quad id l)) (fun l => quadReady l && !(l.unit 5).cntFault &&
      l.fld (Reg.FB_IDX 5) 8 2 = m && l.indexGate 5 true false false && !(l.unit 5).cnt.idxHeld && (l.unit 5).cnt.arm = .disarmed)) ∧
    ([(ArmState.armed, none), (.armed, some (1000000, ArmState.disarmed)), (.disarmed, some (1000000, ArmState.armed)), (.fired, some (999999, ArmState.armed))].all fun x =>
      meets .a (fun l => set (Reg.FB_IDX 5) 0x200 (quad (fun c => { c with arm := x.1, armWas := x.2 }) l)) (fun l => quadReady l &&
        !(l.unit 5).cntFault && l.fld (Reg.FB_IDX 5) 8 2 = 2 && l.indexGate 5 true false false && !(l.unit 5).cnt.idxHeld &&
        (l.unit 5).cnt.arm = x.1 &&
        asWas l.now (l.unit 5).cnt.armWas (l.unit 5).cnt.arm = (match x.2 with
          | none => ArmState.armed
          | some (t, w) => if t = 1000000 then w else x.1))) := by decide

theorem witness_OffsetsAndClears :
    ([0, 1, 2].all fun src => meets .a (fun l => set (Reg.FB_CFG 5) (256 * src) (keyed l)) (fun l => l.reaches .host &&
      l.keyOf .host && l.ssrc 5 = src)) := by decide

/-- Unit 7 as a wheel of 58 teeth and 2 missing, the last tooth 1,000 cycles before. -/
def wheel (f : Tooth → Tooth) (l : Lane) : Lane :=
  unit 7 (fun u => { u with tooth := f { u.tooth with tLast := some 998997, ivs := 2, thresh := some 256001 } })
    (set (Reg.FB_TOOTH 7) 0x23A (set (Reg.FB_CFG 7) 2 (linked l)))

/-- What the clauses of the wheel share. -/
def wheelReady (l : Lane) : Bool :=
  l.alive && !l.pw.padLatch && decide (l.fbMode 7 = 2) && !(l.unit 7).cntFault && !l.extraWheel 7 &&
    decide ((l.unit 7).tooth.tLast = some 998997) && decide (2 ≤ (l.unit 7).tooth.ivs) && decide (l.now - 3 - 998997 = 1000)

/-- Unit 5 reading Hall sensors: states 1 to 6 are sectors 0 to 5. -/
def halls (f : Hall → Hall) (l : Lane) : Lane :=
  unit 5 (fun u => { u with hall := f u.hall }) (set (Reg.FB_LIM 5) 0x100 (set (Reg.FB_HALL 5) 0x2C688 (set (Reg.FB_CFG 5) 0x40 (set Reg.LN_AXCFG 0x18000 (linked l)))))

/-- What the clauses of the Hall decoder share. -/
def hallReady (l : Lane) : Bool := l.alive && !l.pw.padLatch && l.hallOn 5 && !(l.unit 5).hallFault

/-- A SENT frame without pause, its tick 750 cycles long: status 0, data 1, 2, 3 and this CRC. -/
def frame (crc : Nat) : SentFrame :=
  { sync := 42000, nibbles := [9000, 9750, 10500, 11250, 750 * (12 + crc)], pause := none }

/-- Unit 5 reading SENT. -/
def sents (f : Sent → Sent) (l : Lane) : Lane := unit 5 (fun u => { u with sent := f u.sent }) (set (Reg.FB_CFG 5) 0x80 (set Reg.LN_AXCFG 0x18000 (linked l)))

theorem witness_TeethHallAndSentAreRead :
    meets .a (wheel id) (fun l => wheelReady l && 256 * 1000 < 256001 && (l.unit 7).tooth.thresh = some 256001 &&
      !(l.unit 7).tooth.sync) ∧
    meets .a (wheel fun t => { t with sync := true, teeth := 57 }) (fun l => wheelReady l && (l.unit 7).tooth.thresh = some 256001 &&
      (l.unit 7).tooth.teeth + 1 ≤ l.nTooth 7) ∧
    meets .a (wheel fun t => { t with sync := true, teeth := 58, misRun := 1 }) (fun l => wheelReady l &&
      (l.unit 7).tooth.thresh = some 256001 && l.nTooth 7 ≤ (l.unit 7).tooth.teeth && (l.unit 7).tooth.misRun = 1) ∧
    meets .a (fun l => unit 7 (fun u => { u with cntFault := true }) (wheel id l)) (fun l => l.alive && !l.pw.padLatch &&
      l.fbMode 7 = 2 && (l.unit 7).cntFault) ∧
    ([false, true].all fun e => meets .a (fun l => set (Reg.FB_TOOTH 7) (if e then 0x423A else 0x23A) (wheel id l)) (fun l =>
      wheelReady l && l.rbit (Reg.FB_TOOTH 7) 14 = e && l.toothRev 7 true = false)) ∧
    ([(false, 0, 0), (true, 58, 2), (true, 57, 1), (true, 57, 2)].all fun x => meets .a (wheel fun t =>
        { t with thresh := some 256000, sync := x.1, teeth := x.2.1, misRun := x.2.2 }) (fun l => wheelReady l &&
      (l.unit 7).tooth.thresh = some 256000 && 256000 ≤ 256 * 1000 && (l.unit 7).tooth.sync = x.1 && (l.unit 7).tooth.teeth = x.2.1 &&
      (l.unit 7).tooth.misRun = x.2.2 && l.nTooth 7 = 58)) ∧
    meets .a linked (fun l => l.alive && !l.pw.padLatch && l.fbMode 7 ≠ 2 && !l.hallOn 5 && (l.unit 7).tooth.owed = none &&
      (l.unit 5).hall.invalidAt = none) ∧
    meets .a (wheel fun t => { t with owed := some 1000 }) (fun l => l.alive && !l.pw.padLatch && (l.unit 7).tooth.owed = some 1000) ∧
    ([0, 1].all fun ev => meets .a (halls fun x => { x with events := List.replicate ev 0 }) (fun l => hallReady l && l.hallIndex 5 7 = none &&
      l.fld (Reg.FB_LIM 5) 8 8 = 1 && (l.unit 5).hall.events.length = ev && l.hallIndex 5 6 = some 5 && (l.unit 5).hall.seen = 7)) ∧
    ([(false, false), (true, false), (true, true)].all fun x => meets .a (halls fun y =>
        { y with seen := 0, hasDir := x.1, pending := x.2 }) (fun l => hallReady l && l.hallIndex 5 6 = some 5 &&
      l.hallIndex 5 2 = some 1 && l.hallIndex 5 5 = some 4 && (l.unit 5).hall.seen < 6 &&
      (5 + 6 - (l.unit 5).hall.seen) % 6 = 5 && (1 + 6 - (l.unit 5).hall.seen) % 6 = 1 &&
      [2, 3, 4].contains ((4 + 6 - (l.unit 5).hall.seen) % 6) && (l.unit 5).hall.hasDir = x.1 && (l.unit 5).hall.pending = x.2)) ∧
    meets .a (fun l => set (Reg.FB_TSS 5) 100 (halls (fun x => { x with invalidAt := some 975000 }) l)) (fun l => hallReady l &&
      (l.unit 5).hall.invalidAt = some 975000 && 975000 + l.tss 5 ≤ l.now) ∧
    meets .a (sents id) (fun l => l.alive && !l.pw.padLatch && l.sentOn 5 && l.sentError 5 (frame 1) = 3 &&
      l.sentError 5 (frame 0) = 0 && !(l.unit 5).sentFault) ∧
    meets .a (sents fun y => { y with prevSync := some 40000 }) (fun l => l.alive && !l.pw.padLatch && l.sentOn 5 &&
      l.sentError 5 (frame 0) = 1) ∧
    meets .a (fun l => unit 5 (fun u => { u with sentFault := true }) (sents id l)) (fun l => l.alive && !l.pw.padLatch && l.sentOn 5 &&
      l.sentError 5 (frame 0) = 0 && (l.unit 5).sentFault) ∧
    ([(875000, true), (875001, false)].all fun x => meets .a (fun l => set (Reg.FB_SENT 5) 0x01F40000
        (sents (fun y => { y with lastAt := x.1 }) l)) (fun l => l.alive && !l.pw.padLatch && l.sentOn 5 && !(l.unit 5).sent.lost &&
      ((l.unit 5).sent.lastAt + l.sentTo 5 ≤ l.now) = x.2)) := by decide

/-- The estimator of unit 7 changed. -/
def estimator (f : Estimator → Estimator) (l : Lane) : Lane := unit 7 (fun u => { u with est := f u.est }) (linked l)

theorem witness_TheEstimatorFollowsItsTimers :
    ([(500000000, true), (500000001, false)].all fun x => meets .a (estimator fun e =>
        { e with state := .run, speed := x.1, tPrev := 999872 }) (fun l => l.alive && (l.unit 7).est.state = .run &&
      (l.now - (l.unit 7).est.tPrev) / 128 * 128 = 128 && ((l.unit 7).est.speed.natAbs ≤ (spdOf false 1 128).natAbs) = x.2)) ∧
    meets .a (fun l => set (Reg.FB_TSS 7) 100 (estimator (fun e => { e with state := .run, lastUpd := 975000 }) l)) (fun l =>
      l.alive && (l.unit 7).est.state ≠ .standstill && (l.unit 7).est.lastUpd + l.tss 7 ≤ l.now) ∧
    meets .a (estimator id) (fun l => l.alive && (l.unit 7).est.state = .standstill && !(l.unit 7).est.winMode) ∧
    ([0, 1].all fun n => meets .a (fun l => { estimator (fun e => { e with winMode := true, n := n, tLast := 100 }) l with
        now := 2 ^ 20 }) (fun l => l.alive && (l.unit 7).est.winMode && (l.now - l.relAt) % l.window 7 = 0 &&
      (l.unit 7).est.winEnd ≠ some l.now && (l.unit 7).est.n = n && (l.unit 7).est.tRef + 3 ≠ l.now)) ∧
    meets .a (fun l => { estimator (fun e => { e with winMode := true, tRef := 2 ^ 20 - 3 }) l with
        now := 2 ^ 20 }) (fun l => l.alive && (l.unit 7).est.winMode && (l.now - l.relAt) % l.window 7 = 0 &&
      (l.unit 7).est.n = 0 && (l.unit 7).est.tRef + 3 = l.now) := by decide

/-- The gate-drive die changed, its count aligned with the lane's. -/
def die (f : Die → Die) (l : Lane) : Lane := { linked l with die := f { l.die with aligned := true, vdrvUv := false } }

/-- Switch `g` of the die changed. -/
def switch (g : Nat) (f : Switch → Switch) (l : Lane) : Lane := die (fun d => { d with sw := vmod d.sw g f }) l

/-- A word for gate `g` at level `on`, `lead` cycles ahead of cycle 1,000,000. -/
def wordAt (g : Nat) (on : Bool) (lead tap : Nat) : Word := runnerWord g on (1000000 + lead) tap

theorem witness_WordsActAtTheDie :
    ([499, 500, 65535, 65536].all fun d => meets .a (die id) (fun l => l.dieOn && l.die.aligned &&
      evenParity (wordAt 42 true d 15) && gateOf (wordAt 42 true d 15) = 42 && l.leadOf (wordAt 42 true d 15) = d &&
      evenParity (wordAt 62 true d 5) && gateOf (wordAt 62 true d 5) = 62 && controlOk (wordAt 62 true d 5) &&
      bit (wordAt 62 true d 5) 25 && l.leadOf (wordAt 62 true d 5) = d && l.die.queue.length < 256)) ∧
    meets .a (die fun d => { d with queue := .replicate 256 ⟨0, true, 16160000⟩ }) (fun l => l.dieOn && l.die.aligned &&
      256 ≤ l.die.queue.length) ∧
    ([true, false].all fun e => evenParity (runnerWord 57 e 0 0) && decide (gateOf (runnerWord 57 e 0 0) = 57) &&
      controlOk (runnerWord 57 e 0 0) && bit (runnerWord 57 e 0 0) 25 == e) ∧
    ([true, false].all fun x => meets .a (die fun d => { d with chopFault := x, ov3 := x, hbLost := x }) (fun l => l.dieOn && l.die.aligned &&
      l.die.chopFault = x && l.die.ov3 = x && l.die.hbLost = x)) ∧
    ([(58, runnerWord 58 true 0 0), (60, safeWord 0x3F 0x3F), (62, dropWord), (63, runnerWord 63 false 0 0),
        (59, runnerWord 59 true 0xE0000 1), (61, runnerWord 61 false 0xFFFFF 0)].all fun x =>
      evenParity x.2 && decide (gateOf x.2 = x.1) && controlOk x.2) ∧ bit dropWord 25 = false ∧
    ([none, some (30, false, 7)].all fun x => meets .a (die fun d => { d with half := x }) (fun l => l.dieOn && fwf cfgReset l.die.cfg &&
      l.die.half = x && field (runnerWord 59 true 0xE0000 1) 21 5 = 30 && bit (runnerWord 59 true 0xE0000 1) 1)) ∧
    meets .a (die fun d => { d with aligned := false }) (fun l => l.dieOn && !l.die.aligned) ∧
    ([58, 59, 60, 61, 63].all fun g => evenParity (runnerWord g true 1 15) && decide (gateOf (runnerWord g true 1 15) = g) &&
      !controlOk (runnerWord g true 1 15)) := by decide

/-- One queued word that falls due with cycle 1,000,000. -/
def queued (gate : Nat) (on : Bool) (f : Die → Die) (l : Lane) : Lane :=
  die (fun d => f { d with queue := [⟨gate, on, 16000015⟩] }) l

/-- What the clauses of a queued word share. -/
def queueReady (gate : Nat) (on : Bool) (l : Lane) : Bool :=
  l.dieOn && decide (l.die.queue.filter (fun w => w.gate != 62 && decide (w.t ≤ 16 * l.now + 15)) = [⟨gate, on, 16000015⟩]) && decide (gate < 36)

theorem witness_QueuedWordsExecute :
    meets .a (queued 35 false id) (fun l => queueReady 35 false l) ∧
    meets .a (queued 35 true fun d => { d with sw := vmod d.sw 34 fun w => { w with shadow := true } }) (fun l => queueReady 35 true l &&
      l.countsOn (otherGate 35)) ∧
    meets .a (queued 35 true fun d => { d with sw := vmod d.sw 35 fun w => { w with hold := some 1000001 } }) (fun l =>
      queueReady 35 true l && !l.countsOn (otherGate 35) && (l.switch 35).hold = some 1000001 && 16000015 < 16 * 1000001) ∧
    meets .a (queued 35 true fun d => { d with sw := vmod d.sw 35 fun w => { w with hold := some 1000000 } }) (fun l =>
      queueReady 35 true l && !l.countsOn (otherGate 35) && (l.switch 35).hold = some 1000000 && 16 * 1000000 ≤ 16000015) ∧
    meets .a (queued 62 true id) (fun l => l.dieOn && l.die.queue = [⟨62, true, 16000015⟩] && 16000015 ≤ 16 * l.now + 15) ∧
    meets .a (die id) (fun l => l.dieOn && l.die.queue = [] && !l.die.hbLost && l.die.hbAt = none) ∧
    ([true, false].all fun x => meets .a (die fun d => { d with
        token := true, cfg := [(11, 0x18000)],
        sw := vmod (vmod d.sw 35 fun w => { w with shadow := true, waiting := true }) 34 fun w => { w with offAt := some 0, out := !x } })
      (fun l => l.dieOn && l.wanted 35 && (l.switch 35).waiting && !(l.switch 35).out && l.deadOver (16 * l.now + 15) 35 = x)) ∧
    ([(999500, true), (999501, false)].all fun x => meets .a (die fun d => { d with hbAt := some x.1 }) (fun l => l.dieOn &&
      l.die.hbAt = some x.1 && !l.die.hbLost && !l.die.lossSafe && (x.1 + 500 ≤ l.now) = x.2)) ∧
    ([(949500, true), (949501, false)].all fun x => meets .a (die fun d => { d with cfg := [(7, 200)], hbAt := some x.1, hbLost := true })
      (fun l => l.dieOn && l.die.hbAt = some x.1 && l.die.hbLost && !l.die.lossSafe && l.lossSafeTime ≠ 0 &&
        (x.1 + (500 + l.lossSafeTime) ≤ l.now) = x.2)) := by decide

theorem witness_TripsTurnTheirGatesOff :
    meets .a (die id) (fun l => l.dieOn && !(l.switch 34).bootUv && !l.underTest 34 && !(l.switch 35).out && !l.underTest 30 &&
      ([30, 32, 34].all fun g => !blanked (l.switch g) l.now (field (l.dieCfg 2) 16 8)) && (l.switch 35).pf = 0 && !l.die.vdrvUv &&
      l.die.vdrvAt = none && !l.die.chopFault && !l.die.ov3 && l.die.chopTest = none && !l.die.chopOut) ∧
    ([(750000, true), (750001, false)].all fun x => meets .a (switch 34 fun w => { w with bootUv := true, bootWords := 2, bootAt := x.1 })
      (fun l => l.dieOn && (l.switch 34).bootUv && (l.switch 34).bootWords < 3 && ((l.switch 34).bootAt + 250000 ≤ l.now) = x.2)) ∧
    meets .a (switch 35 fun w => { w with out := true, pf := 14 }) (fun l => l.dieOn && (l.switch 35).out &&
      !blanked (l.switch 35) l.now (10 * field (l.dieCfg 2) 8 8) && !(l.switch 35).latched &&
      max 1 (field (l.dieCfg 6) 0 4) ≤ (l.switch 35).pf + 1) ∧
    meets .a (switch 30 fun w => { w with out := true }) (fun l => l.dieOn && !l.underTest 30 && (l.switch 30).out) ∧
    meets .a (die fun d => { d with cfg := [(6, 0x00010000)], sw := vmod d.sw 35 fun w => { w with pf := 1, pfAt := 999750 } }) (fun l =>
      l.dieOn && 0 < (l.switch 35).pf && (l.switch 35).pfAt + us (max 1 (field (l.dieCfg 6) 16 16)) ≤ l.now) ∧
    meets .a (die fun d => { d with vdrvAt := some 997500, chopFault := true, ov3 := true, ov3At := 750000, chopTest := some 998750 })
      (fun l => l.dieOn && l.die.vdrvAt = some 997500 && 997500 + 2500 ≤ l.now && !l.die.vdrvUv && l.die.chopFault && l.die.ov3 &&
        l.die.ov3At + 250000 ≤ l.now && l.die.chopTest = some 998750 && 998750 + 1250 ≤ l.now) ∧
    meets .a (die fun d => { d with ov3 := true, ov3At := 750001, chopTest := some 998750 }) (fun l => l.dieOn &&
      l.now < l.die.ov3At + 250000 && l.die.chopTest = some 998750 && 998750 + 1250 ≤ l.now && !l.die.chopFault) := by decide

/-- Three idle words and their check word with BASE `base`. -/
def idleWord : Word := runnerWord 63 false 0 0

/-- The check word of a block of three words with BASE `base`. -/
def checkWord (ws : List Word) (base : Nat) : Word := BitVec.ofNat 32 ((crc16 ws).toNat * 65536 + base % 65536)

/-- The Runner port changed. -/
def portOf (f : Port → Port) (l : Lane) : Lane := { linked l with port := f l.port }

/-- A word waiting at the port. -/
def waitingWord : PortWord := { word := wordAt 35 true 700 0, ts := some 1000700 }

theorem witness_BlocksCarryTheirWords :
    meets .a (portOf fun p => { p with blockAt := some 999984, c1 := [waitingWord] }) (fun l => l.alive && l.port.blockAt = some 999984 &&
      999984 + 16 ≤ l.now && l.port.c1 = [waitingWord]) ∧
    meets .a (portOf id) (fun l => l.alive && l.port.blockAt = none && l.port.c1 = [] && l.port.alignOwed) ∧
    meets .a (portOf fun p => { p with alignOwed := false, c2 := [waitingWord] }) (fun l => l.alive && l.port.blockAt = none &&
      l.port.c1 = [] && !l.port.alignOwed && (dropLate l.now l.port.c2).1 = [waitingWord]) ∧
    meets .a (portOf fun p => { p with alignOwed := false, c3 := [waitingWord] }) (fun l => l.alive && l.port.blockAt = none &&
      l.port.c1 = [] && !l.port.alignOwed && (dropLate l.now l.port.c2).1 = [] && (dropLate l.now l.port.c3).1 = [waitingWord]) ∧
    ([[], [{ word := idleWord, ts := none }]].all fun c => meets .a (portOf fun p => { p with alignOwed := false, c4 := c }) (fun l =>
      l.alive && l.port.blockAt = none && l.port.c1 = [] && !l.port.alignOwed && l.port.c2 = [] && l.port.c3 = [] && l.port.c4 = c)) ∧
    meets .a (portOf fun p => { p with blockAt := some 999985 }) (fun l => l.port.blockAt = some 999985 && l.now < 999985 + 16) ∧
    ([4095, 4096].all fun n => meets .a (portOf fun p => { p with sinceAlign := n }) (fun l => l.alive && l.port.sinceAlign = n)) ∧
    ((crc16 [idleWord, idleWord, idleWord]).toNat ≠ field (0 : Word) 16 16) ∧
    (let ck := checkWord [idleWord, idleWord, idleWord] (1000000 - 18)
     (crc16 [idleWord, idleWord, idleWord]).toNat = field ck 16 16 ∧ evenParity idleWord = true ∧ field ck 0 16 = (1000000 + 2 ^ 20 - 18) % 65536 ∧
       field (checkWord [idleWord, idleWord, idleWord] 0) 0 16 ≠ (1000000 + 2 ^ 20 - 18) % 65536) ∧
    ([true, false].all fun a => meets .a (die fun d => { d with aligned := a }) (fun l => l.dieOn && l.die.aligned = a &&
      l.dieCount = 1000000 && l.clk = 1000000 && l.alive)) ∧
    ([0, 1].all fun n => [true, false].all fun c => meets .a (die fun d => { d with
        blockAt := some 999984, crcDue := c, blocks := n,
        events := if n = 1 then [{ word := 0x10010000, waited := 0 }] else [] }) (fun l => l.dieOn && l.die.blockAt = some 999984 &&
      999984 + 16 ≤ l.now && l.die.crcDue = c && (l.die.blocks + 1) % 256 ≠ 0 && (n = 1 || l.die.events = []))) ∧
    meets .a (die fun d => { d with blockAt := some 999985 }) (fun l => l.die.blockAt = some 999985 && l.now < 999985 + 16) ∧
    ([0, 0x2000].all fun v => meets .a (portOf fun p => { p with levels := BitVec.ofNat 32 v }) (fun l => l.alive &&
      bit l.port.levels 13 = decide (v ≠ 0))) := by decide

theorem witness_ReturnWordsReachTheLane :
    meets .a (portOf id) (fun l => l.alive && field l.port.levels 18 2 = 0 && !bit l.port.levels 17 && !l.port.gdLost &&
      l.port.lastReturn.getD l.relAt + 500 ≤ l.now && l.port.chopAt = none) ∧
    ([0x20064000, 0x20000000].all fun w => field (BitVec.ofNat 32 w) 28 4 = 2) ∧
    (field (0x20064000 : Word) 18 2 = 1 ∧ bit (0x20064000 : Word) 17 = true ∧ bit (0x20064000 : Word) 14 = true ∧
      bit (0x20064000 : Word) 13 = false) ∧
    ([1, 2, 3, 4, 5, 6, 7, 8, 9, 10, 11, 12, 13].all fun c => field (BitVec.ofNat 32 (0x10000000 + 65536 * c)) 28 4 = 1 &&
      (eventFlag (field (BitVec.ofNat 32 (0x10000000 + 65536 * c)) 16 6)).isSome) ∧
    (field (0x100E0000 : Word) 28 4 = 1 ∧ eventFlag (field (0x100E0000 : Word) 16 6) = none) ∧
    (field (0x40000010 : Word) 28 4 = 4 ∧ crcLoss [0x10] = false ∧ crcLoss [0x10, 0] = true) ∧
    ([0, 1].all fun n => meets .a (portOf fun p => { p with cfgBad := n, failed := if n = 1 then [0] else [] }) (fun l => l.alive &&
      l.port.cfgBad = n && field (BitVec.ofNat 32 (0x30000000 + l.ownCfgCrc)) 28 4 = 3 &&
      field (BitVec.ofNat 32 (0x30000000 + l.ownCfgCrc)) 0 16 = l.ownCfgCrc &&
      field (BitVec.ofNat 32 (0x30000000 + (l.ownCfgCrc + 1) % 65536)) 0 16 ≠ l.ownCfgCrc)) ∧
    meets .a (portOf fun p => { p with lastReturn := some 999501 }) (fun l => l.alive && l.now < l.port.lastReturn.getD l.relAt + 500) ∧
    ([0x80000000, 0].all fun c => meets .a (fun l => set Reg.GD_CHOPI c (portOf (fun p => { p with chopAt := some 998706, chopRes := some false }) l))
      (fun l => l.alive && l.port.chopAt = some 998706 && 998706 + 1294 ≤ l.now && l.port.chopRes = some false &&
        l.rbit Reg.GD_CHOPI 31 = decide (c ≠ 0))) := by decide

theorem witness_GateDriveRegistersReachTheDie :
    meets .a keyed (fun l => l.reaches .host && l.keyOf .host && !l.inRun && field (4 : Word) 0 3 ≤ 4 && 4 < field (5 : Word) 0 3 &&
      field (l.reg Reg.GD_DT) 0 3 ≠ field (5 : Word) 0 3 && !l.port.dtLocked) ∧
    meets .a (fun l => { keyed l with port := { l.port with dtLocked := true } }) (fun l => l.reaches .host && l.keyOf .host && !l.inRun &&
      field (3 : Word) 0 3 ≤ 4 && field (l.reg Reg.GD_DT) 0 3 ≠ field (3 : Word) 0 3 && l.port.dtLocked) ∧
    (0x4054 = 0x4000 + 4 * 21 ∧ 21 ≠ 0 ∧ 21 ≠ 11 ∧ 21 ∈ shadowIndices) := by decide

/-- The memory block changed. -/
def memory (f : Integrity → Integrity) (l : Lane) : Lane := { keyed l with ig := f l.ig }

/-- An outer check under way for the last line of SHM, with this difference. -/
def checking (cyc : Nat) (merge : Option (Nat × List Byte)) (diff : BitVec 16) : LineCheck :=
  { line := 0x1FFFE0, src := 1, cyc := cyc, inj := false, merge := merge, diff := diff, ue := false }

/-- Bits of word 0, of its inner check and of the outer check in error. -/
def errs (d : BitVec 64) (c : BitVec 8) (o : BitVec 16) : LineErr := { data := #v[d, 0, 0, 0], chk := #v[c, 0, 0, 0], outer := o, other := none }

/-- The last line of SHM with codes of its own in the array. -/
def coded (g : Integrity) : Integrity :=
  { g with codes := [(0x1FFFE0, some { inner := .replicate 4 0, outer := 0, flaw := LineErr.none })] }

/-- A verify read owed for that line since `cyc`, for an outer check of `o`. -/
def owed (cyc : Nat) (o : BitVec 16) : Verify := { line := 0x1FFFE0, src := 0, cyc := cyc, inner := .replicate 4 0, outer := o, inj := false }

theorem witness_LinesAreServedAndChecked :
    (regionOf 0x1FFFFF = .shm ∧ regionOf 0x1007FFFF = .rom ∧ regionOf 0x2000FFFF = .chill ∧ regionOf 0x4000FFFF = .regs) ∧
    (lineOf 0x1FFFFF = 0x1FFFE0 ∧ (errs 0 0 3).other = none) ∧
    meets .a linked (fun l => l.alive && l.ig.inj = none && l.ig.verify = [] && !l.ig.cap.valid && l.ig.tapActs ≠ .dbgAccess &&
      (fget (fun _ => (none : Option LineCode)) l.ig.codes 0x1FFFE0).isNone && fwf (fun _ => (none : Option LineCode)) l.ig.codes) ∧
    ([(errs 0 0 3, 0), (errs (1 <<< 63) 0 0, 1), (errs 0 0x80 0, 1), (errs 1 0x80 0, 2), (errs (3 <<< 62) 0 0, 2)].all fun x =>
      meets .a linked (fun l => l.alive && l.ig.inj = none && decide (((l.ig.read 0x1FFFE0 x.1 l.freeVal).having 2 = []) = (x.2 ≠ 2)) &&
        decide (((l.ig.read 0x1FFFE0 x.1 l.freeVal).having 1 = []) = (x.2 ≠ 1)) &&
        decide (ones 64 (vget x.1.data 0 0).toNat + ones 8 (vget x.1.chk 0 0).toNat = x.2))) ∧
    meets .a (memory fun g => { g with granted := true, tap := .dbgAccess }) (fun l => l.alive && l.ig.inj = none && l.ig.tapActs = .dbgAccess) ∧
    (0x1FFFE0 = lineOf 0x1FFFE0 ∧ (List.replicate 32 (0 : Byte)).length = 32 ∧ regionOf 0x1FFFE0 = .shm ∧ mayWrite 0 0x1FFFE0 true = true) ∧
    (¬(0x1FFFE1 = lineOf 0x1FFFE1 ∧ (List.replicate 31 (0 : Byte)).length = 32) ∧ 0x1FFFE1 + 31 ≤ lineOf 0x1FFFE1 + 32 ∧
      regionOf 0x1FFFE1 = .shm ∧ mayWrite 0 0x1FFFE1 true = true) ∧
    ([(999999, 0), (999998, 0), (999998, 0x8000)].all fun x => meets .a (memory fun g => { g with checks := [checking x.1 none (BitVec.ofNat 16 x.2)] })
      (fun l => l.alive && l.ig.inj = none && l.ig.checks = [checking x.1 none (BitVec.ofNat 16 x.2)] && (x.1 + 2 ≤ l.now) = (x.1 ≠ 999999))) ∧
    meets .a (memory fun g => { g with checks := [checking 999998 (some (0x1FFFE0, .replicate 32 1)) 0] }) (fun l => l.alive && l.ig.inj = none &&
      l.ig.checks = [checking 999998 (some (0x1FFFE0, .replicate 32 1)) 0] && 999998 + 2 ≤ l.now) ∧
    meets .a (memory fun g => { g with wback := [⟨0x1FFFF8, 5⟩] }) (fun l => l.alive && l.ig.inj = none && l.ig.wback = [⟨0x1FFFF8, 5⟩] &&
      regionOf 0x1FFFF8 = .shm) ∧
    ([(0, 0), (1, 0), (1, 1)].all fun x => meets .a (memory fun g => { coded g with verify := [owed 999968 (BitVec.ofNat 16 x.1)] }) (fun l =>
      l.alive && l.ig.inj = none && l.ig.verify.filter (fun v => decide (l.now ≤ v.cyc + 32)) = [owed 999968 (BitVec.ofNat 16 x.1)] &&
      (let c := l.ig.codeOf ((errs 0 0 (BitVec.ofNat 16 x.2)).reaches 0x1FFFE0)
       let d := c.flaw.add (errs 0 0 (BitVec.ofNat 16 x.2))
       ([0, 1, 2, 3].all fun w => vget c.inner w 0 ^^^ vget d.chk w 0 == vget (owed 0 0).inner w 0) &&
         decide ((c.outer ^^^ d.outer = BitVec.ofNat 16 x.1) = (x.1 = x.2))))) ∧
    meets .a (memory fun g => { g with verify := [owed 999967 0] }) (fun l => l.alive && l.ig.inj = none &&
      l.ig.verify.all (fun v => decide (v.cyc + 32 < l.now))) := by decide

theorem witness_RegionBlocksAreCounted :
    meets .a linked (fun l => l.alive && regionOf 0x1FFFFF = .shm && !mayWrite 1 0x1FFFFF (l.pw.state == .setup)) := by decide

theorem witness_ScrubbersReadEveryLine :
    ([(83966, 0), (83967, 0), (83967, 1)].all fun x => meets .a (fun l => set Reg.IG_CTRL 0 { running l with ig := { l.ig with
        scrubAt := 1000000, scrubLine := x.1, ceNow := .replicate x.2 0 } }) (fun l => l.alive && l.ig.inj = none && l.pw.state = .run &&
      l.ig.scrubAt ≤ l.now && l.ig.scrubLine = x.1 && l.ig.ceNow.length = x.2 && l.fld Reg.IG_CTRL 16 8 = 0 &&
      (l.ig.read (scrubAddr l.ig.scrubLine) LineErr.none l.freeVal).having 1 = [] &&
      (l.ig.read (scrubAddr l.ig.scrubLine) LineErr.none l.freeVal).having 2 = [] &&
      (l.ig.read (scrubAddr l.ig.scrubLine) (errs 3 0 0) l.freeVal).having 2 ≠ [])) ∧
    meets .a linked (fun l => l.alive && l.pw.state ≠ .run && l.pw.state ≠ .doze && l.pw.state ≠ .park) ∧
    meets .a (fun l => { running l with ig := { l.ig with scrubAt := 1000001 } }) (fun l => l.alive && l.now < l.ig.scrubAt) ∧
    ([999999, 1000000, 1000001].all fun t => meets .a (fun l => { inState .park (linked l) with ig := { coded l.ig with parkAt := t } }) (fun l => l.pw.state = .park &&
      !l.ig.cap.valid && (l.ig.parkAt ≤ l.now) = (t ≠ 1000001) &&
      (l.ig.read (0x20000000 + 32 * l.ig.parkLine) LineErr.none l.freeVal).having 2 = [] &&
      (l.ig.read (0x20000000 + 32 * l.ig.parkLine) LineErr.none l.freeVal).diff = 0 &&
      (l.ig.read (0x20000000 + 32 * l.ig.parkLine) (errs 0 0 1) l.freeVal).diff ≠ 0 &&
      (l.ig.read (0x20000000 + 32 * l.ig.parkLine) (errs 0 3 0) l.freeVal).having 2 ≠ [])) := by decide

theorem witness_LockstepParityAndDebug :
    ([true, false].all fun x => meets .a (memory fun g => { g with compareOff := x }) (fun l => l.alive && l.ig.compareOff = x &&
      !l.ig.waiting && l.pw.state ≠ .unpowered && l.ig.selfAt = none)) ∧ (0x7FF : BitVec 11) ≠ 0 ∧
    ([0, 1].all fun d => meets .a (fun l => { memory (fun g => { g with selfAt := some 5 }) l with now := 2 ^ 20 + 4 + d }) (fun l => l.alive &&
      l.ig.selfAt = some 5 && (5 + 2 ^ 20 ≤ l.now) = (d = 1))) ∧
    ((regRow? Reg.SYS_SCRATCH).any fun r => r.fields.any fun f => !f.acc.writeOnly && decide (f.lo ≤ 31) && decide (31 < f.lo + f.width)) = true ∧
    (let s := world .a keyed
     let t := s.setLane .a (s.start ⟨.a, 0⟩) (set Reg.SYS_SCRATCH 1 (found .a keyed))
     (s.start ⟨.a, 0⟩).reg Reg.SYS_SCRATCH = (found .a keyed).reg Reg.SYS_SCRATCH ∧
       (t.start ⟨.a, 0⟩).reg Reg.SYS_SCRATCH ≠ (t.arrive ⟨.a, 0⟩).reg Reg.SYS_SCRATCH) ∧
    meets .a linked (fun l => l.alive && fwf (fun _ => initEntry) l.tl.entries && (l.entry 255).commitAt ≠ l.now) ∧
    (TapIr.sample.attaching = false ∧ TapIr.highz.attaching = true) ∧
    meets .a (memory fun g => { g with waiting := true }) (fun l => l.alive && l.ig.waiting && !l.ig.wantPads && !l.isActive) ∧
    meets .a (memory fun g => { g with waiting := true, wantPads := true }) (fun l => l.alive && l.ig.waiting && l.ig.wantPads &&
      l.ln.role = .offline) ∧
    meets .a (inState .park) (fun l => l.pw.state = .park) ∧
    (parityChecked Reg.SYS_SCRATCH = true ∧ parityChecked 0x7FFC = false) ∧
    ([0x0A, 0x0B, Reg.SYS_SCRATCH, 0x7FFC].all fun a => meets .a (fun l => set Reg.IG_INJADDR a (keyed l)) (fun l => l.reaches .host && l.keyOf .host && !l.isActive &&
      (l.reg Reg.IG_INJADDR).toNat = a && [1, 2, 3, 4].contains (field (4 : Word) 0 4) && field (5 : Word) 0 4 = 5 && field (6 : Word) 0 4 = 6)) ∧
    meets .a holder (fun l => l.reaches .host && l.keyOf .host && l.isActive && [1, 2, 3, 4, 5].contains (field (5 : Word) 0 4)) := by decide

/-- Temper and Shakeout changed, in RUN. -/
def temper (f : Temper → Temper) (l : Lane) : Lane := { running l with ts := f (running l).ts }

/-- A request for tests by a register write. -/
def request (mask : Nat) : ShakeReq := { mask := mask, asked := mask, failed := 0, tag := none }

/-- A gate cell under test for `d` cycles. -/
def cellTest (d : Nat) : CellTest := { gate := 35, cyc := 1000000 - d, meas := ⟨301, 0, 0, 5⟩ }

theorem witness_ShakeoutRunsItsTests :
    (field (0x10010 : Word) 0 17 &&& onDemand ≠ 0 ∧ field (1 : Word) 0 17 ≠ 0 ∧ field (1 : Word) 0 17 &&& onDemand = 0 ∧
      (members (field (0x10010 : Word) 0 17 &&& onDemand) 17).head? = some 4 ∧
      (members (field (0x10000 : Word) 0 17 &&& onDemand) 17).head? = some 16) ∧
    meets .a standby (fun l => l.awake && l.reaches .host && l.keyOf .host && l.ln.role = .standby) ∧
    meets .a running (fun l => l.awake && l.reaches .host && l.keyOf .host && l.ln.role = .offline && l.ts.running = none &&
      l.ts.startAt = none && l.ts.reqs = [] && l.ts.cell = none) ∧
    meets .a (temper fun t => { t with running := some (4, 999999), reqs := [request 0x10] }) (fun l => l.awake && l.reaches .host &&
      l.keyOf .host && l.ln.role = .offline && l.ts.running = some (4, 999999) && l.ts.startAt = none &&
      !elapsed l.now 999999 (us (testDur 4))) ∧
    ([(0, 875001, 0), (0, 875000, 0), (1, 900000, 0), (14, 700000, 3), (14, 700000, 0), (15, 950000, 0)].all fun x => meets .a (temper fun t =>
        { t with startAt := some (x.1, x.2.1), unusable := x.2.2 }) (fun l => l.awake && l.ts.startAt = some (x.1, x.2.1) &&
      elapsed l.now x.2.1 (us (testDur x.1)) = decide (x.2.1 ≠ 875001) && l.skipped x.1 = decide (x.2.2 = 3))) ∧
    ([0x10, 0x10010].all fun m => meets .a (temper fun t => { t with running := some (4, 975000), reqs := [request m] }) (fun l => l.awake &&
      l.ts.startAt = none && l.ts.running = some (4, 975000) && elapsed l.now 975000 (us (testDur 4)) && l.ts.reqs = [request m] &&
      (request m).tag = none && (request m).mask &&& (0x1FFFF - 2 ^ 4) = m - 0x10)) ∧
    ((members 0x10000 17).head? = some 16) ∧
    meets .a (fun l => set Reg.TS_BG 0x00640100 { temper id l with now := 250000000 }) (fun l => l.inRun && l.dieOn && elapsed l.now l.ts.gcellAt l.ts.gcellInt &&
      ((List.range 37).map fun i => (l.ts.gcell + i) % 37).find? l.testable = some 0 && l.fld Reg.TS_BG 8 8 = 1 &&
      elapsed l.now l.ts.chopAt (ms (1000 * 1))) ∧
    (300 < (-301 : Int).natAbs ∧ ∀ x ∈ cellErrs 36 ⟨300, 0, 0, 0⟩, x.2.natAbs ≤ 300) ∧
    meets .a linked (fun l => l.awake && !l.inRun) ∧
    ([874, 875].all fun d => (temper (fun t => { t with cell := some (cellTest d) }) (axis5 (State.reset.lane .a))).ts.cell = some (cellTest d) &&
      ((cellTest d).cyc + 875 ≤ 1000000) = decide (d = 875)) ∧
    (300 < (cellTest 875).meas.desat.natAbs ∧ (axis5 (State.reset.lane .a)).enabled (35 / 6) = true) ∧
    meets .a (temper fun t => { t with cell := some (cellTest 874) }) (fun l => l.awake && l.ts.cell = some (cellTest 874)) := by decide

theorem witness_ShakeoutRunsItsTests_more :
    ([4, 5].all fun p => meets .a (fun l => { temper (fun t => { t with startAt := some (3, 800000) }) l with
        pw := { l.pw with state := .setup, start := p, bootAt := none } }) (fun l => l.awake && l.ts.startAt = some (3, 800000) &&
      elapsed l.now 800000 (us (testDur 3)) && l.pw.start = p && !l.ig.cap.valid)) ∧
    meets .a (fun l => { temper (fun t => { t with startAt := some (12, 0) }) l with now := 2000000 }) (fun l => l.awake &&
      l.ts.startAt = some (12, 0) && elapsed l.now 0 (us (testDur 12)) && gateFails [] (.replicate 37 ⟨300, 0, 0, 5⟩) [300, -300] = [] &&
      (l.testFinds 12 [] (.replicate 37 ⟨0, 301, 0, 5⟩) []).1 = [0, 2, 4, 6, 8, 10, 12, 14, 16, 18, 20, 22, 24, 26, 28, 30, 32, 34] &&
      (l.testFinds 12 [] [⟨301, 0, 0, 5⟩] [301]).1 = [0, 37]) ∧
    ([950000, 950001].all fun c => meets .a (temper fun t => { t with chopTest := some c }) (fun l => l.awake && l.ts.startAt = none &&
      l.ts.running = none && l.ts.chopTest = some c && elapsed l.now c (us (testDur 16)) = decide (c = 950000))) ∧
    meets .a (temper fun t => { t with gcellInt := 2000000 }) (fun l => l.inRun && l.dieOn && !elapsed l.now l.ts.gcellAt l.ts.gcellInt) := by decide

/-- Birth records. -/
def birth : Birth := { slack := [], dref := [], sink := [], tj := 0, steps := 0, err := [], trim := [] }

theorem witness_TemperJudgesAndBurns :
    (List.replicate 48 (9 : Nat)).length = 48 ∧ (List.replicate 48 (9 : Nat)).getD 47 0 < 10 ∧
    meets .a (fun l => set Reg.TS_CTRL 100 { temper id l with now := 25000000 }) (fun l => l.alive && l.inRun &&
      elapsed l.now l.ts.tintAt l.tint && l.stepsHas < 6 && l.ts.sinceStep = none) ∧
    meets .a linked (fun l => l.alive && !l.inRun && l.ts.burns = []) ∧
    ([0, 2].all fun o => meets .a (temper fun t => { t with coreSlot := vmod t.coreSlot 0 fun _ => o, burns := [.core 1 birth] }) (fun l =>
      l.alive && l.ts.burns = [.core 1 birth] && (vmod l.ts.coreSlot 1 (fun _ => 2) = #v[2, 2]) = decide (o = 2))) ∧
    meets .a (temper fun t => { t with burns := [.clock 1 (-5)] }) (fun l => l.alive && l.ts.burns = [.clock 1 (-5)]) ∧
    meets .a (temper fun t => { t with burns := [.progress true [⟨0, 0, 3⟩]] }) (fun l => l.alive &&
      l.ts.burns = [.progress true [⟨0, 0, 3⟩]]) := by decide

/-- Sprue port B enabled in RUN as node 63 of rank 15, with slots 0 and 63 of mode 3 of 400 units each, and a cycle that holds them. -/
def sprueB (f : SprueBus → SprueBus) (l : Lane) : Lane :=
  let l := set (Reg.SP_CFG 1) 0xFFF00000 (set (Reg.SP_CYC 1) 4000 (running l))
  port 1 f { l with sp := { l.sp with sched := [(448, 0x807F8190), (511, 0x807F8190)] } }

/-- What the clauses about port B share. -/
def busReady (l : Lane) : Bool := l.alive && l.busHears 1 && l.busNormal 1 && decide (l.frameConn 1 [255, 16, 63, 9] = none)

/-- A poll waiting to be sent. -/
def pollTx : SprueTx := { ident := 0x1E0, bytes := [192, 0, 0, 0] }

theorem witness_MastersRunTheirSlots :
    meets .a (sprueB id) (fun l => busReady l && !(l.busOf 1).master && (l.busOf 1).idleAt = none && (l.busOf 1).poll = none &&
      (l.busOf 1).echo = [] && (l.busOf 1).err ≠ 2) ∧
    meets .a (sprueB fun u => { u with master := true, mode := 3, slot := 0, slotAt := 500000 }) (fun l => busReady l && (l.busOf 1).master &&
      l.slotDone 1 && (List.range 64).find? (fun k => decide (0 < k) && bit (l.slotWord 1 3 k) 31) = some 63 && !(l.busOf 1).ending &&
      !(l.busOf 1).running) ∧
    meets .a (sprueB fun u => { u with master := true, mode := 3, slot := 0, slotAt := 500001 }) (fun l => busReady l && (l.busOf 1).master &&
      !l.slotDone 1) ∧
    meets .a (sprueB fun u => { u with master := true, mode := 3, slot := 63, slotAt := 0 }) (fun l => busReady l && (l.busOf 1).master &&
      l.slotDone 1 && (List.range 64).all (fun n => n ≤ 63) && !(l.busOf 1).running) ∧
    ([(some 5, some pollTx), (some 5, none), (none, none)].all fun x => meets .a (sprueB fun u => { u with
        master := true, mode := 3, slot := 63, slotAt := 0, running := true, target := x.1, poll := x.2 }) (fun l => busReady l &&
      (l.busOf 1).master && l.slotDone 1 && (l.busOf 1).running && !(l.busOf 1).ending && (l.busOf 1).target = x.1 &&
      (l.busOf 1).poll = x.2 && !(l.busOf 1).answered && !(l.busOf 1).lostArb)) ∧
    meets .a (sprueB fun u => { u with master := true, mode := 3, slot := 63, slotAt := 0, running := true, ending := true, yieldEnd := true })
      (fun l => busReady l && (l.busOf 1).master && l.slotDone 1 && (l.busOf 1).running && (l.busOf 1).ending && (l.busOf 1).yieldEnd) ∧
    ([(975000, true), (975001, false)].all fun x => meets .a (sprueB fun u => { u with idleAt := some x.1, idleLen := us 100 })
      (fun l => busReady l && (l.busOf 1).idleAt = some x.1 && (l.mayMaster 1 && !(l.busOf 1).master && elapsed l.now x.1 (l.busOf 1).idleLen) = x.2)) ∧
    ([1, 2].all fun n => meets .a (sprueB fun u => { u with master := true, running := true, echo := [pollTx], badPolls := n }) (fun l =>
      busReady l && (l.busOf 1).master && (l.busOf 1).running && (l.busOf 1).echo ≠ [] && (l.busOf 1).badPolls = n)) ∧
    meets .a linked (fun l => l.alive && !l.busHears 1) ∧
    ([(0, 999984), (63, 999983)].all fun x => meets .a (sprueB fun u => { u with poll := some pollTx, slot := x.1, slotAt := x.2 }) (fun l =>
      busReady l && (l.busOf 1).poll = some pollTx && (l.busOf 1).slot = x.1 && (l.now ≤ (l.busOf 1).slotAt + 16) = decide (x.1 = 0))) ∧
    ([true, false].all fun x => meets .a (sprueB fun u => { u with first := x, master := true }) (fun l => l.alive && l.busHears 1 && (l.busOf 1).first = x)) ∧
    meets .a (sprueB fun u => { u with resp := some (pollTx, 1000001) }) (fun l => busReady l && (l.busOf 1).poll = none &&
      (l.busOf 1).resp = some (pollTx, 1000001)) ∧
    meets .a (sprueB fun u => { u with err := 2 }) (fun l => l.alive && (l.busOf 1).err = 2) := by decide

/-- Connection 14 inbound on Sprue B for axis 5, identity 7, no time check. -/
def connected (l : Lane) : Lane :=
  set Reg.LN_AXCFG 0x18000 (set (Reg.SF_CTIME 14) 0 (set (Reg.SF_CID 14) 7 (set (Reg.SF_CCFG 14) 0x92000000 (sprueB id l))))

/-- A response frame with one SETPOINT record for axis 5 and a first envelope of identity 7, whose check value (13 R308) was worked
out apart from the model. -/
def setpointFrame : List Byte :=
  [0, 0, 0, 0, 1, 5, 0, 0, 100, 0, 0, 0] ++ wordBytes 7 ++ [0, 0, 1, 1, 0, 0, 0, 0] ++ wordBytes 0x2976131F

theorem witness_FramesAreReceivedAndEchoed :
    meets .a linked (fun l => l.alive && !l.busHears 1) ∧ (0x200 ≤ 0x200 ∧ 33 % 32 ≠ 0 ∧ 0x1FF < 0x200 ∧ 0x400 ≤ 0x400 ∧ 0x201 % 8 ≠ 0) ∧
    (leAt [255, 16, 63, 9] 0 1 % 64 = 63 ∧ leAt [255, 16, 63, 9] 0 1 / 64 = 3 ∧ leAt [255, 16, 63, 9] 3 1 = 9 ∧
      leAt [255, 16, 63, 9] 1 1 / 32 % 2 = 0 ∧ leAt [255, 16, 63, 9] 1 1 / 16 % 2 = 1 ∧ leAt [255, 0, 63, 9] 1 1 / 16 % 2 = 0) ∧
    meets .a (sprueB fun u => { u with loaded := 8 }) (fun l => busReady l && l.busNormal 1 && !(l.busOf 1).master && leAt [255, 16, 63, 9] 2 1 = l.nodeOf 1 &&
      bit (l.slotWord 1 3 63) 31 && l.modeLoaded 1 3 && !bit (l.slotWord 1 2 63) 31) ∧
    meets .a (sprueB fun u => { u with master := true, lostArb := true }) (fun l => busReady l && (l.busOf 1).master && (l.busOf 1).lostArb) ∧
    meets .a (sprueB fun u => { u with master := true, running := true }) (fun l => busReady l && (l.busOf 1).master &&
      !(l.busOf 1).lostArb && 14 < l.rankOf 1 && l.rankOf 1 ≤ 15 && (l.busOf 1).running) ∧
    meets .a (fun l => set Reg.TL_WCFG 3 (sprueB id l)) (fun l => busReady l && !(l.busOf 1).master && l.refSrc = 2 + 1 &&
      (l.busOf 1).cap = none && leAt [255, 32, 63, 9] 1 1 / 32 % 2 = 1 && leAt [255, 32, 63, 9] 1 1 / 16 % 2 = 0) ∧
    ([true, false].all fun x => meets .a (fun l => ctl (fun n => { n with role := if x then .active else .offline }) (connected l)) (fun l =>
      busReady l && l.frameConn 1 setpointFrame = some 14 && l.envVerdict 14 l.now setpointFrame = none &&
      records 8 ((setpointFrame.take (setpointFrame.length - 16)).drop 4) = [[1, 5, 0, 0, 100, 0, 0, 0]] &&
      l.permitted 14 (2 ^ 5) ≠ 0 && !(l.safetyOf 5).ramp && l.isActive = x)) ∧
    meets .a (fun l => (ctl (fun n => { n with role := .active }) (connected l)).modSafety 5 fun x => { x with ramp := true }) (fun l =>
      l.frameConn 1 setpointFrame = some 14 && l.envVerdict 14 l.now setpointFrame = none && l.permitted 14 (2 ^ 5) ≠ 0 && l.isActive &&
      (l.safetyOf 5).ramp) ∧
    meets .a (fun l => { connected l with env := { l.env with conn := vmod l.env.conn 14 fun c => { c with sync := true } } }) (fun l =>
      busReady l && l.frameConn 1 (setpointFrame.set 27 0) = some 14 && (l.envVerdict 14 l.now (setpointFrame.set 27 0)).isSome) ∧
    ([0, 1].all fun n => meets .a (sprueB fun u => { u with echo := [⟨0, setpointFrame⟩], echoRun := n }) (fun l => busReady l &&
      (l.busOf 1).echo = [⟨0, setpointFrame⟩] && enveloped setpointFrame && (l.busOf 1).echoRun = n &&
      (setpointFrame.set 27 0).drop ((setpointFrame.set 27 0).length - 16) ≠ setpointFrame.drop (setpointFrame.length - 16))) ∧
    meets .a (sprueB fun u => { u with echo := [pollTx] }) (fun l => busReady l && (l.busOf 1).echo = [pollTx] && !enveloped pollTx.bytes &&
      (l.busOf 1).resp = none) ∧
    ([(1000001, false), (1000000, true)].all fun x => meets .a (sprueB fun u => { u with resp := some (pollTx, x.1) }) (fun l => l.alive &&
      (l.busOf 1).resp = some (pollTx, x.1) && (x.1 ≤ l.now) = x.2)) := by decide

theorem witness_ModesTablesAndWatchdogs :
    (bit (0x70 : Word) 6 = true ∧ bit (0x30 : Word) 6 = false ∧ field (0x70 : Word) 4 2 = 3 ∧ field (0x60 : Word) 4 2 = 2) ∧
    ([true, false].all fun m => [true, false].all fun a => meets .a (sprueB fun u => { u with master := m, announced := a, loaded := 8 }) (fun l =>
      l.reaches .host && field (0x70 : Word) 4 3 ≠ l.fld (Reg.SP_MODE 1) 4 3 && field (0x60 : Word) 4 3 ≠ l.fld (Reg.SP_MODE 1) 4 3 &&
      field (0x30 : Word) 4 3 ≠ l.fld (Reg.SP_MODE 1) 4 3 && (l.busOf 1).master = m && (l.busOf 1).announced = a && l.modeLoaded 1 3 &&
      !l.modeLoaded 1 2)) ∧
    ([true, false].all fun x => meets .a (fun l => set (Reg.SP_TWSEL 1) 0x33F (sprueB (fun u => { u with mode := if x then 3 else 0 }) l)) (fun l =>
      l.reaches .host && l.fld (Reg.SP_TWSEL 1) 8 2 = 3 && l.fld (Reg.SP_TWSEL 1) 0 6 = 63 && l.tableBusy 1 3 = x)) ∧
    meets .a linked (fun l => l.awake && (l.conn 14).wdAt = none) ∧
    ([(975000, true), (975001, false)].all fun x => meets .a (fun l => set (Reg.SF_CWDG 14) 100 { connected l with
        env := { l.env with conn := vmod l.env.conn 14 fun c => { c with wdAt := some x.1 } } }) (fun l => l.awake &&
      (l.conn 14).wdAt = some x.1 && l.inbound 14 && l.wdog 14 ≠ 0 && elapsed l.now x.1 (l.wdog 14) = x.2 && !(l.conn 14).fault)) := by decide

/-- Axis 5 with SLS, SLP and SDI on, each reacting on its first violation: CLAMP, RAMP, SAFE for the codes given. -/
def watched (rx : Nat) (f : SafeAxis → SafeAxis) (l : Lane) : Lane :=
  let l := set (Reg.SF_SMARG 5) 0 (set (Reg.SF_CFG 5) (0xE0041040 + rx * 0x400000 + 0x20000) (axis5 l))
  let l := set (Reg.SF_PMIN 5) 1 (set (Reg.SF_PMAX 5) 2 l)
  (unit 5 (fun u => { u with est := { u.est with state := .run, speed := 2000000000 } })
    (set (Reg.SF_CAP 5 0) 0 (set (Reg.FB_CFG 5) 1 l))).modSafety 5 f

/-- The evaluation of axis 5 that began `d` cycles before. -/
def begun (d : Nat) (f : EvalLatch → EvalLatch) (l : Lane) : Lane :=
  l.modSafety 5 fun a => { a with pend := some (f { l.evalLatch 5 with start := l.now - d }) }

/-- What the clauses of a pending evaluation share, with its latched values. -/
def pending5 (l : Lane) (p : EvalLatch → Lane → Bool) : Bool :=
  l.awake && l.enabled 5 && (match (l.safetyOf 5).pend with
    | some e => l.evalTurn 5 e && p e (l.asLatched 5 e)
    | none => false)

theorem witness_EvaluationsFindAndReact :
    meets .a running (fun l => l.awake && !l.enabled 5 && (l.safetyOf 5).pend = none) ∧
    meets .a (fun l => (begun 5 id (watched 0 id l)).modSafety 4 fun a => { a with pend := some { (watched 0 id l).evalLatch 4 with start := 999995 } })
      (fun l => l.awake && match (l.safetyOf 5).pend with
        | some p => !l.evalTurn 5 p
        | none => false) ∧
    ([240, 241].all fun d => [true, false].all fun x => meets .a (fun l => begun d (fun p => { p with missed := x }) (watched 0 id l)) (fun l =>
      pending5 l fun p _ => (240 < l.now - p.start) = (d = 241) && p.missed = x)) ∧
    ([0, 1, 2].all fun rx => [true, false].all fun act => [true, false].all fun dr => meets .a (fun l => begun 5 id (ctl (fun n => { n with
        role := if act then .active else .standby }) (set (Reg.SF_PMIN 5) 0 (if dr then drives 5 (watched rx id l) else watched rx id l)))) (fun l =>
      pending5 l fun p lv => (l.safetyOf 5).m = none && (l.safetyOf 5).pref = none && !(l.safetyOf 5).resume && l.isActive = act &&
        (l.axis 5).drive = dr && (l.safetyOf 5).told = 0 && (l.safetyOf 5).recBy = 0 && !(l.safetyOf 5).ramp && p.prof = l.profNow &&
        (let v := lv.verdict 5 p (lv.slsLim 5 p.prof) p.apos.toInt
         v.viol.testBit 0 && v.lost = 0 && lv.rtOf 5 0 = 1 && lv.rxOf 5 0 = rx && vget (l.safetyOf 5).cnt 0 0 = 0 &&
           [0, 1, 2].all fun g => !v.viol.testBit g || min 2 (lv.rxOf 5 g) ≤ min 2 (lv.rxOf 5 0)))) ∧
    (([-1, 10000000000] : List Int).all fun x => meets .a (fun l => begun 5 (fun p => { p with prof := if x < 0 then 1 else p.prof })
        (watched 0 (fun a => { a with m := some x, pref := some 5 }) l)) (fun l => pending5 l fun p lv =>
      (l.safetyOf 5).m = some x && (x ≤ lv.slsLim 5 p.prof) = (x < 0) && (l.safetyOf 5).pref = some 5 && (p.prof = l.profNow) = (0 ≤ x))) ∧
    meets .a (fun l => begun 5 (fun p => { p with spdLost := true }) (watched 0 id l)) (fun l => pending5 l fun p lv =>
      (lv.verdict 5 p (lv.slsLim 5 p.prof) p.apos.toInt).lost ≠ 0) ∧
    ([1, -1, 0].all fun d => meets .a (fun l => begun 5 id (set (Reg.SF_CFG 5) (0xE0000000 + if d = 1 then 0x08000000 else if d = -1 then 0x10000000 else 0)
      (watched 0 (fun a => { a with pref := some 5 }) l))) (fun l => pending5 l fun _ lv => (l.safetyOf 5).pref = some 5 && lv.sdiDir 5 = d &&
        lv.sfcfgBad 5 = decide (d = 0))) ∧
    meets .a (fun l => { begun 5 id (watched 0 id l) with sf := { (begun 5 id (watched 0 id l)).sf with evals := 255 } }) (fun l =>
      pending5 l fun _ _ => (l.sf.evals + 1) % 256 = 0) ∧
    ([(239, false), (240, false), (240, true)].all fun x => meets .a (fun l => begun x.1 (fun p => { p with missed := x.2 }) (watched 0 id l)) (fun l =>
      pending5 l fun p _ => p.missed = x.2 && (p.start + 240 ≤ l.now) = (x.1 = 240))) ∧
    ([(980000, true), (980001, false)].all fun x => meets .a (fun l => set (Reg.CM_CFG 5) 5000 (watched 0 (fun a => { a with evalAt := some x.1 }) l))
      (fun l => l.awake && l.enabled 5 && l.inRun && l.pw.runAt = some 0 && max ((l.safetyOf 5).evalAt.getD 0) 0 = x.1 &&
        elapsed l.now x.1 (4 * l.per 5) = x.2)) ∧
    meets .a linked (fun l => l.awake && l.pw.runAt = none) := by decide

theorem witness_ProfilesResumesAndBrakes :
    ([0, 2].all fun c => meets .a (fun l => ctl (fun n => { n with cond := c }) (running l)) (fun l => l.reaches .host && l.keyOf .host &&
      field (3 : Word) 0 2 ≠ l.fld Reg.SF_CTRL 0 2 && l.limp = decide (c = 2) && (c = 2 || l.sf.prof ≠ field (3 : Word) 0 2))) ∧
    meets .a axis5 (fun l => l.reaches .host &&
      l.keyOf .host && field (0x3F : Word) 0 6 ≠ 0 && bit (0x3F : Word) 5 && l.enabled 5 && !l.enabled 4) ∧
    meets .a running (fun l => l.awake && (l.safetyOf 5).relAt = none && (l.safetyOf 5).taAt = none) ∧
    meets .a (fun l => (axis5 l).modSafety 5 fun a => { a with relAt := some 1000000 }) (fun l => l.awake &&
      (l.safetyOf 5).relAt = some 1000000 && 1000000 ≤ l.now && (l.safetyOf 5).brk = 0) ∧
    meets .a (fun l => (axis5 l).modSafety 5 fun a => { a with relAt := some 1000500, taAt := some 1000000 }) (fun l => l.awake &&
      (l.safetyOf 5).relAt = some 1000500 && (l.safetyOf 5).taAt = some 1000000 && 1000000 ≤ l.now && (l.safetyOf 5).brk = 0) ∧
    ([(1000000, 0), (1000001, 0), (1000700, 0), (1000701, 0), (1000700, 1)].all fun x => meets .a (fun l => (axis5 l).modSafety 5 fun a => { a with
        brk := 1, taAt := some x.1, bper := 100, bramp := x.2 }) (fun l => l.awake && (l.safetyOf 5).taAt = some x.1 && (l.safetyOf 5).brk = 1 &&
      (l.safetyOf 5).rampK = 0 && l.rampStart 5 = x.1 && (x.1 ≤ l.now + 700) = decide (x.1 ≠ 1000701) && (x.1 ≤ l.now) = decide (x.1 = 1000000) &&
      !(l.safetyOf 5).rampLow && (l.rampHigh 5 ≠ 0) = decide (x.2 = 1))) := by decide

/-- The host's connections: 0 inbound and 1 outbound, identity 7, for every axis; CMD and CPL on, 16 entries each. -/
def hosted (l : Lane) : Lane :=
  let l := set (Reg.SF_CID 0) 7 (set (Reg.SF_CTIME 0) 0 (set (Reg.SF_CCFG 1) 0xE0000000 (set (Reg.SF_CCFG 0) 0xA3F00000 (axis5 l))))
  let l := set Reg.SF_ENVCTRL 0x10 (set (Reg.HR_RING_LO 0) 4 (set (Reg.HR_RING_LO 1) 4 l))
  rings (fun r => { r with bme := true }) (set Reg.HR_DBLO 0x1000 (set Reg.HR_IXLO 0x2000 l))

/-- A service read issued `d` cycles ago, of a lane with the CMD and CPL rings on. -/
def serving (d : Nat) (left : Option Nat) (l : Lane) : Lane :=
  rings (fun r => { r with svc := some { service left with issued := 1000000 - d } }) (set Reg.HR_CTRL 3 (hosted l))

/-- An image load of this state, its last read issued `d` cycles ago. -/
def loading (state d : Nat) (ws : List Word) (l : Lane) : Lane :=
  rings (fun r => { r with img := { state := state, reason := 0, fetched := 0, issued := 1000000 - d, checked := ws } })
    (set Reg.HR_DBCFG 0x11 (set Reg.HR_IMG_LEN 68 (linked l)))

theorem witness_ServicesReadAndWriteHostMemory :
    meets .a linked (fun l => l.awake && l.hr.svc = none && l.hr.img.state ≠ 1 && !l.canIssue && l.hr.uncovered = none) ∧
    ([(250, none), (251, none), (0, some 0), (250, some 4)].all fun x => meets .a (serving x.1 x.2) (fun l => l.awake &&
      (l.hr.svc.any fun v => v.left == x.2 && v.issued == 1000000 - x.1 && v.dbto == 250 && v.mask == 1) &&
      l.wordOk 0 0xFFFE0001 && !l.wordOk 0 1 && l.ringOn 0 && l.ringOn 1 &&
      (l.adoptWord 0 0xFFFE0001).fetchCount 4 = 1 && (l.adoptWord 0 0xFFFF0000).fetchCount 4 = 0)) ∧
    ([(499, false), (500, true)].all fun x => meets .a (loading 1 x.1 []) (fun l => l.awake && l.hr.svc = none && l.hr.img.state = 1 &&
      (l.hr.img.issued + l.dbto ≤ l.now) = x.2)) ∧
    ([(249, false), (250, true)].all fun x => meets .a (serving x.1 none) (fun l => l.awake &&
      l.hr.svc.any fun v => decide (v.issued + v.dbto ≤ l.now) == x.2)) ∧
    meets .a (fun l => rings (fun r => { r with staged := [⟨1, []⟩] }) (set Reg.HR_CTRL 3 (hosted l))) (fun l => l.awake && l.canIssue &&
      l.hr.staged.find? (fun d => l.ringOn d.ring && decide (((l.ring d.ring).dev + 65536 - (l.ring d.ring).host) % 65536 < l.ringN d.ring)) =
        some ⟨1, []⟩ && l.hr.evtQueue = []) ∧
    ([(999500, true), (999501, false)].all fun x => meets .a (fun l => rings (fun r => { r with uncovered := some x.1 }) (hosted l)) (fun l =>
      l.awake && l.canIssue && l.hr.uncovered = some x.1 && (x.1 + 500 ≤ l.now) = x.2)) ∧
    meets .a hosted (fun l => l.reaches .host && l.keyOf .host && field (3 : Word) 0 4 ≠ field (l.reg Reg.HR_CTRL) 0 4 &&
      l.ringReady 0 3 && l.ringReady 1 3 && !bit (l.reg Reg.HR_CTRL) 0 && !l.ringReady 3 8) := by decide

/-- A descriptor of type `ty` with TAG 0x1234, these bytes from byte 4 on, and a first envelope of identity 7 whose check value (13
R308) was worked out apart from the model. -/
def desc (ty : Nat) (body : List Byte) (check : Word) : List Byte :=
  [BitVec.ofNat 8 ty, 0, 0x34, 0x12] ++ body ++ .replicate (44 - body.length) 0 ++ wordBytes 7 ++ [0, 0, 1, 1, 0, 0, 0, 0] ++ wordBytes check

/-- A fetch of two descriptors in a lane of this role. -/
def fetched (role : Role) (f : Rings → Rings) (l : Lane) : Lane :=
  rings f (ctl (fun n => { n with role := role }) (serving 250 (some 2) l))

/-- What the clauses of a descriptor that lands share. -/
def landed (row : Nat) (bs : List Byte) (l : Lane) : Bool :=
  l.ringOn 1 && l.awake && decide (bs.length = 64) && decide (descRow bs = row) && decide (l.ringConn 0 = 0) &&
    decide (l.envVerdict 0 l.now bs = none) && decide (leAt bs 2 2 = 0x1234) &&
    l.hr.svc.any fun v => v.left == some 2 && decide (l.now ≤ v.issued + v.dbto)

/-- A START in progress, asked for by TAG 9. -/
def pending : PendOp := { tag := 9, cmdIdx := 3, cseq := 0, ctype := 2, open_ := 1, result := .replicate 8 0 }

theorem witness_DescriptorsAreCheckedAndAnswered :
    ([(0, (desc 0 [] 0x3C2D1258)), (3, (desc 3 [0, 32] 0x5E9F2D31)), (5, (desc 5 [1] 0x39450DE8)), (8, (desc 8 [] 0xCED08A5E))].all fun x =>
      meets .a (fetched .offline id) (landed x.1 x.2)) ∧
    meets .a (fetched .offline id) (fun l => (l.envVerdict 0 l.now (desc 0 [] 0)).isSome && descRow (desc 0 [] 0) = 0) ∧
    ([none, some 0, some 1].all fun x => meets .a (serving 250 x) (fun l => l.ringOn 1 && l.awake && (l.hr.svc.any fun v => v.left == x))) ∧
    meets .a (fun l => set Reg.HR_CTRL 2 (hosted l)) (fun l => l.ringOn 1 && l.hr.svc = none) ∧
    ([Role.active, .offline].all fun r => meets .a (fetched r id) (fun l => landed 1 (desc 1 [32, 32] 0x9D640E7F) l &&
      l.permitted 0 0x20 = 0x20 && !(l.safetyOf 5).ramp && l.isActive = decide (r = .active))) ∧
    meets .a (fun l => (fetched .active id l).modSafety 5 fun a => { a with ramp := true }) (fun l =>
      landed 2 (desc 2 [32, 32, 32, 131] 0x0AFC5339) l && (l.safetyOf 5).ramp && l.isActive && l.permitted 0 0x20 = 0x20) ∧
    meets .a (fun l => drives 5 (period5 1000700 (fetched .active id l))) (fun l =>
      landed 2 (desc 2 [32, 32, 32, 131] 0x0AFC5339) l && l.isActive && (l.axis 5).drive && (l.axis 5).stopAt = none &&
      l.nextStart 5 (l.now + 700) = some 1000700 && l.carries 0 5 && l.enabled 5) ∧
    ([Role.active, .offline].all fun r => meets .a (fetched r id) (fun l => landed 3 (desc 3 [32] 0x9CA2BCD2) l &&
      l.permitted 0 0x20 = 0x20 && l.isActive = decide (r = .active) && (l.unit 5).cnt.arm = .disarmed)) ∧
    ([Role.standby, .offline].all fun r => meets .a (fetched r id) (fun l => landed 4 (desc 4 [16] 0x47DAC238) l && l.ln.role = r &&
      leAt (desc 4 [16] 0x47DAC238) 4 3 % 2 ^ 17 &&& onDemand = 0x10)) ∧
    meets .a (fetched .offline id) (fun l => landed 4 (desc 4 [1] 0x5A31802C) l && leAt (desc 4 [1] 0x5A31802C) 4 3 % 2 ^ 17 &&& onDemand = 0) ∧
    meets .a (fetched .offline id) (fun l => landed 6 (desc 6 [9] 0x67CA681C) l && l.hr.pendOps = [] && l.hr.recorded = []) ∧
    meets .a (fetched .offline fun r => { r with recorded := [⟨9, 3, 0, 0⟩] }) (fun l => landed 6 (desc 6 [9] 0x67CA681C) l &&
      l.hr.pendOps = [] && l.hr.recorded.find? (fun r => r.tag == 9) = some ⟨9, 3, 0, 0⟩ && leAt (desc 6 [9] 0x67CA681C) 4 2 = 9) ∧
    meets .a (fetched .offline fun r => { r with pendOps := [pending] }) (fun l => landed 6 (desc 6 [9] 0x67CA681C) l &&
      l.hr.pendOps.filter (fun p => p.tag == 9) = [pending] && pending.ctype = 2) ∧
    meets .a (fetched .active id) (fun l => landed 7 (desc 7 [12, 32] 0xA17A6B56) l && !(12 : Nat).testBit 0 && !(12 : Nat).testBit 1 &&
      leAt (desc 7 [12, 32] 0xA17A6B56) 4 1 = 12) := by decide

theorem witness_EndpointsResetAndVectorsFire :
    meets .a linked (fun l => l.alive && l.hr.dlActive && !l.hr.msixLate.getLsbD 15) ∧ meets .a id (fun l => l.alive && !l.hr.dlActive) ∧
    ([0, 1].all fun m => [true, false].all fun en => meets .a (fun l => set 0x74FC m (rings (fun r => { r with
        msixLate := 0x8000, msixEn := en, bme := true }) (linked l))) (fun l => l.alive && l.hr.msixLate.getLsbD 15 && !l.moderated 15 &&
      l.hr.msixEn = en && l.canIssue && l.vecMasked 15 = decide (m = 1))) ∧
    meets .a (fun l => set Reg.HR_IMOD 10 (rings (fun r => { r with msixLate := 0x8000, msixLast := vmod r.msixLast 15 fun _ => some 997501 })
      (linked l))) (fun l => l.alive && l.hr.msixLate.getLsbD 15 && l.moderated 15) := by decide

/-- An image for every lane with one section of three REG entries for SYS_SCRATCH, and its CRC-32 (polynomial and
inversions as in 11 R276, worked out apart from the model). -/
def image : List Word :=
  [0x4E545942, 0x00070001, 68, 1, 1, 0, 0, 0, 1, 24, 0x20, 1, 0x20, 2, 0x20, 3, 0x34E8801D]

/-- The lane that has fetched 68 bytes of an image. -/
def staged68 (ws : List Word) (l : Lane) : Lane :=
  ((l.imageReads 68).modIg fun g => g.stageImage (imageBytes ws)).modHr fun r => { r with img := { r.img with fetched := 68 } }

theorem witness_ImagesAreCheckedWholeThenApplied :
    meets .a (fun l => set Reg.HR_IMG_LEN 68 (rings (fun r => { r with bme := true }) { keyed l with ts := { l.ts with done := true } })) (fun l =>
      l.reaches .host && l.keyOf .host && l.loadOk && l.canIssue && 512 ≤ l.hr.mrrs && l.fld Reg.HR_IMG_LEN 0 19 ≠ 0) ∧
    meets .a keyed (fun l => l.reaches .host && l.keyOf .host && !l.loadOk && l.awake && l.hr.img.state ≠ 1 && l.hr.img.state ≠ 2) ∧
    meets .a (loading 1 0 []) (fun l => l.awake && l.hr.img.state = 1 && 4 * image.length = l.fld Reg.HR_IMG_LEN 0 19 &&
      (staged68 (image.set 0 0) l).imageErr (imageBytes (image.set 0 0)) ≠ none) ∧
    meets .a (loading 1 0 []) (fun l => (staged68 image l).imageErr (imageBytes image) = none) ∧
    meets .a (loading 2 0 image) (fun l => l.awake && l.hr.img.state = 2 && l.hr.img.checked = image && l.pw.state = .setup) := by decide

theorem witness_EmptyQueueIdles : State.reset.pending = [] := rfl

theorem witness_StepKeepsSound : State.reset.Sound ∧ ∃ t, step { State.reset with pending := [.ppsEdge ⟨.a, 9⟩] } = .next t :=
  ⟨by unfold State.Sound Lane.Sound; decide, _, rfl⟩

theorem witness_NoHalfBridgeShootsThrough : State.reset.Apart ∧ ∃ t, step { State.reset with pending := [.vdrvRecover ⟨.a, 9⟩] } = .next t :=
  ⟨by unfold State.Apart Die.Apart; decide, _, rfl⟩

theorem witness_CommandsStayInTheirLane :
    State.reset.lane .b = ({ State.reset with a := State.reset.c, pending := [.ocTrip ⟨.a, 0⟩ 5] } : State).lane .b ∧
    State.reset.wasLane .b = ({ State.reset with a := State.reset.c, pending := [.ocTrip ⟨.a, 0⟩ 5] } : State).wasLane .b ∧
    ∃ t, exec (.vdrvRecover ⟨.b, 9⟩) State.reset = .next t := ⟨rfl, rfl, _, rfl⟩

theorem witness_WellFormedCommandsRun : (Instr.ocTrip ⟨.a, 0⟩ 5).wf = true ∧ (Instr.ocTrip ⟨.a, 0⟩ 6).wf = false := by decide

theorem witness_TimePassesCycleByCycle :
    (State.reset.a.pw.resetAt = none ∧ State.reset.a.alive = true ∧ State.reset.a.tl.slewEnd ≤ State.reset.a.now ∧
      (State.reset.a.ptOf 7).valid = false) ∧
    meets .a (inState .park) (fun l => l.pw.resetAt = none && !l.alive) := by decide

theorem witness_OnlyPowerOnLocksDebugAgain :
    meets .a (memory fun g => { g with unlocked := 7, compareOff := true }) (fun l => l.unlocked && l.ig.compareOff) ∧
    ∃ t, exec (.vporLoss ⟨.a, 0⟩) State.reset = .next t := ⟨by decide, _, rfl⟩

theorem witness_UnpoweredLanesStayDark :
    meets .a (inState .unpowered) (fun l => l.pw.state = .unpowered && l.pw.resetAt = none) ∧ (Instr.ppsEdge ⟨.a, 9⟩).wf = true := by decide


theorem witness_ArrivalKeepsSound : State.reset.Sound := by unfold State.Sound Lane.Sound; decide


/-! Worked examples of the spec: one step, or one operation, with the figures that its tables print -/

/-- Lane `k` after a command on the block `world k f`. -/
def after (k : LaneId) (f : Lane → Lane) (c : Instr) : Lane :=
  match exec c (world k f) with
  | .next t => t.lane k
  | _ => found k f

/-- Entry 40 of 02 Table 2.5: EDGE SECTOR of axis 2 on PT2, snapped at cycle 3,000,000 to 0x55400000. -/
def boundary (l : Lane) : Lane :=
  let l := entered 40 0x91800000 0x55555555 0x00400002 (fun e => { e with dirtyAt := some 3000002 })
    (set Reg.LN_AXCFG 0x40 (set (Reg.TL_PT_SCALE 2) 0x400000 (running l)))
  { timeline (fun t => { t with pt := vmod t.pt 2 fun p => { p with
      valid := true, angle := 0x55400D1B, rev := 0, rate := 429497, snapAt := 3000000, snapPos := 0x55400000 } }) l with now := 3000002 }

/-- 02 Table 2.5: 833 cycles and 5/16 ahead. -/
theorem test_prediction_of_the_120_degree_boundary :
    (((after .b boundary (.rePrediction ⟨.b, 0⟩ 40)).entry 40).pred.map (·.p)) = some (16 * 3000833 + 5) := by decide

/-- The same entry predicted, `d` cycles before cycle 3,000,193. -/
def predicted (d : Nat) (l : Lane) : Lane :=
  { (boundary l).modTl fun t => { t with entries := t.entries.map fun e => (e.1, { e.2 with
      dirtyAt := none
      pred := some { occ := 0x55555555, fwd := true, p := 16 * 3000833 + 5, delta := 0, snap := 3000000 } }) } with now := 3000193 - d }

/-- 02 Table 2.5: cycle 3,000,193 is the first within LEAD, with timestamp 3,000,833 and tap 5. -/
theorem test_commit_of_the_120_degree_boundary :
    ([(1, none), (0, some (3000833, 5))].all fun x =>
      (((after .b (fun l => set Reg.TL_CTRL 640 (predicted x.1 l)) (.edgeSectorCommit ⟨.b, 0⟩ 40)).entry 40).edge.map fun c => (c.ts, c.tap)) = x.2)
      := by decide

/-- Unit 3 of 03 Table 3.2 at its second reverse count, edge cycle 64,000. -/
def caliper (l : Lane) : Lane :=
  { unit 3 (fun u => { u with
      cnt := { u.cnt with raw := 1000, pos := 1001, pending := true },
      est := { u.est with state := .run, speed := 2136752, tPrev := 0 } }) (set (Reg.FB_CFG 3) 1 (set Reg.LN_AXCFG 0x400 (linked l))) with now := 64003 }

/-- 03 Table 3.2, t = 64,000: the reversal commits. -/
theorem test_reversal_commits_two_counts :
    (let u := (after .b caliper (.quadCount ⟨.b, 0⟩ 3 true false false false)).unit 3
     (u.cnt.raw, u.cnt.pos, u.cnt.rev, u.cnt.pending) = (999, 999, true, false) ∧
       u.est.state = .reversal ∧ u.est.speed = 0) := by decide

/-- 03 Table 3.2, t = 74,000: −25,000 counts/s from the interval of 10,000 cycles. -/
theorem test_speed_after_the_reversal :
    ((((found .b caliper).unit 3).est.commit true 2 true 64000 100000).commit true 1 false 74000 100000).speed = -6400000 := by decide

/-- Unit 6 of 03 Table 3.4 at the reference tooth, t = 3,214,000. -/
def sixtyTwo (l : Lane) : Lane :=
  { unit 6 (fun u => { u with
      cnt := { u.cnt with pos := 57 },
      tooth := { u.tooth with tLast := some 802000, iv := 802000, ivs := 2, thresh := some (256 * 2005000), sync := true, teeth := 58 },
      est := { u.est with state := .run, speed := 79800, tPrev := 802000 } })
    (set (Reg.FB_TOOTH 6) 0x0280023A (set (Reg.FB_CFG 6) 0x802 (linked l))) with now := 3214003 }

/-- 03 Table 3.4: the gap is the reference, position 0, three counts of travel, and the next threshold. -/
theorem test_gap_of_the_60_2_wheel :
    (let l := after .a sixtyTwo (.tooth ⟨.a, 0⟩ 6 false true)
     (l.unit 6).cnt.pos = 0 ∧ (l.unit 6).est.speed = 79602 ∧ (l.unit 6).tooth.misRun = 0 ∧
       l.threshOf 6 2412000 = 256 * 6030000) := by decide

/-- 04, the DC-link current of slice 2: 4,693 quarter LSB from raw 9,310. -/
theorem test_correction_of_a_result : corrected 9310 { off := 600, gain := 0x8148, skew := 0 } 8192 = 4693 := by decide

/-- 07 Table 7.5 and 05 Table 5.2: the words of period 1,012,500. -/
theorem test_words_of_a_period :
    runnerWord 0 false 1012500 0 = 0x01EE6281 ∧ runnerWord 2 true 1012500 0 = 0x0BEE6281 ∧
    runnerWord 2 false 1017578 2 = 0x09F0DD44 := by decide

/-- Bank 0 of axis 0 of 06, the 9 t combine's rear-steer axle. -/
def rearSteerBank : Table Word :=
  [(2, 0x500000), (3, 0x600000), (0x40, 0x501), (0x41, 0x500000), (0x42, 0x010000), (0x43, 0x37), (0x44, 0x3C0000), (0x45, 0xFFA00000),
   (0x46, 0x3C0000), (0x47, 0xFFA00000), (0x48, 0x380000), (0x4E, 1)] ++
  [(0x4F, 0x580000), (0x50, 0x420000), (0x51, 0x31), (0x52, 19200), (0x53, 0x500000), (0x54, 0x002000), (0x55, 6)]

/-- What the axis latches before the pass of 06 Table 6.6. -/
def rearSteer (l : Lane) : Lane :=
  let l := set Reg.LN_AXCFG 1 (set (Reg.LE_CFG 0) 0xA0000122 (set (Reg.LE_ILIM 0) 60000 (set (Reg.LE_VMAX 0) 20000 l)))
  let l := set (Reg.CM_CFG 0) 12500 (set (Reg.CM_ACC 0) 1000 (set (Reg.CM_SMAX 0) 40000 (set (Reg.CM_DUTY 0) (31130 * 65536) l)))
  let l := unit 0 (fun u => { u with cnt := { u.cnt with pos := 119750 }, est := { u.est with state := .run, speed := 2913408 } })
    (set (Reg.SF_CAP 0 0) 40000 l)
  let l := { l with cv := { l.cv with res := [(1, 0x80000000 + 21300), (2, 0x80000000 + 18400)] }, le := { l.le with banks := rearSteerBank } }
  (l.modAxis 0 fun a => { a with ref := 11400 * 256 }).modLoop 0 fun x => { x with
    psp := 120000
    st := { x.st with
      i := 0x300000
      io := 0x0BB800
      notch := .ofFn fun k => [0x050000, 0x04C000, 0, 0].getD k.val 0
      e := .ofFn fun k => [14, 14, 7, 7, -1, -1, -1, -1].getD k.val 0
      dprev := 15880 } }

/-- 06 Table 6.6: what the pass forms. -/
theorem test_pass_of_the_rear_steer_axle :
    (let o := passRun (found .a rearSteer) 0 0 0 0 0
     o.tgt = 2948000 ∧ o.ref = 11450 * 256 ∧ o.st.i = 0x3059DD ∧ o.st.io = 0x0BD740 ∧ o.st.duty = 15935 ∧
       vget o.st.notch 0 0 = 0x05159E ∧ vget o.st.notch 1 0 = 0x0494FB ∧
       (List.range 8).map (fun k => vget o.st.e k 0) = [14, 14, 7, 7, -1, -1, -1, -1]) := by decide

/-- The lane of 08 Table 8.8 that set CLAIM at cycle 9, with the period starts it knows. -/
def claimer (l : Lane) : Lane :=
  let l := drives 0 (set (Reg.CM_CFG 0) 12500 (set Reg.LN_AXCFG 1 (standby l)))
  let l := l.modAxis 0 fun a => { a with periods := [blank 640, blank 13140] }
  { ctl (fun n => { n with line := .claim, claimAt := 9 }) l with now := 25 }

/-- 08 Table 8.8, cycle 25: HOLD is set, and T_r is the first period start at least 700 cycles ahead. -/
theorem test_claim_wins_after_16_cycles :
    (let l := after .b claimer (.claimHold ⟨.b, 0⟩)
     l.ln.line = .hold ∧ l.ln.tr = some 13140) := by decide

/-- 09 Table 9.3, pass 1: M slides by 200 counts/s. -/
theorem test_slide_of_the_speed_limit :
    (found .a fun l => set (Reg.CM_CFG 0) 12500 l).slideStep 0 4000 = 64000000 * 200 := by decide

/-- 11 Table 11.7: the projected slack figures. -/
theorem test_projected_slack : projected 78 620 35 = 47 ∧ projected 71 580 35 = 38 ∧ projected 80 580 35 = 47 := by decide

/-- 13 Table 13.2 and the byte that checks the polynomial alone. -/
theorem test_check_value : checkVal 1 [0x80] = 0xAFF0A00C ∧ checkVal 0 [1] = 0xF4ACFB13 := by decide

/-- An envelope of 13 Table 13.5. -/
def message (seq : Nat) : Envelope := { conn := 0x4C520100, seq := seq, flags := 0, ver := 1, stamp := 0, check := 0 }

/-- 13 Table 13.5: a gap of 2, a repeat, a jump of 15 past GAPMAX 4, and the late message. -/
theorem test_sequence_tests :
    (let c := fun last => { initConn with sync := true, last := last }
     seqVerdict (c 1040) (message 1041) 4 = none ∧ seqVerdict (c 1041) (message 1043) 4 = none ∧
       seqVerdict (c 1043) (message 1043) 4 = some 6 ∧ seqVerdict (c 1045) (message 1060) 4 = some 8 ∧
       seqVerdict (c 1045) (message 1046) 4 = none) := by decide

/-- 14 Table 14.12: the doorbell word of producer index 1. -/
theorem test_doorbell_word : indexWord 1 = 0xFFFE0001 := by decide

/-- GD_STATUS of 16 Table 16.1a at 15 µs. -/
def desat (tok : Option (BitVec 8)) (l : Lane) : Lane :=
  (linked l).setStat Reg.GD_STATUS { initStatus with seq := 8, flags := 0xA, hostTok := tok }

/-- 16 Table 16.1a: a stale write-back clears nothing and is counted; a fresh one clears both flags. -/
theorem test_write_back_of_gd_status :
    (let l := after .b (desat none) (.statusWriteBack ⟨.b, 0⟩ Reg.GD_STATUS ⟨.host, 0x07000008, 0xF⟩)
     (l.stat Reg.GD_STATUS).flags = 0xA ∧ l.sys.stale = 1) ∧
    (let l := after .b (desat (some 8)) (.statusWriteBack ⟨.b, 0⟩ Reg.GD_STATUS ⟨.host, 0x0800000A, 0xF⟩)
     (l.stat Reg.GD_STATUS).flags = 0 ∧ l.sys.stale = 0 ∧ (l.stat Reg.GD_STATUS).seq = 8) := by decide

/-- 16 Table 16.15, steps 2, 3 and 5: GD_OCTH0 takes a keyed write only. -/
theorem test_keyed_writes :
    (let l := after .a (fun l => set Reg.GD_PROT 0x0A3F1906 (keyed l)) (.registerWrite ⟨.a, 0⟩ 0x4008 ⟨.host, 0x0A3F1908, 0xF⟩)
     l.reg Reg.GD_PROT = 0x0A3F1908 ∧ l.sys.keyHost = false) ∧
    (let l := after .a linked (.registerWrite ⟨.a, 0⟩ 0x4040 ⟨.host, 0xF0, 0xF⟩)
     l.sys.refReason = 1 ∧ l.sys.refInternal = false ∧ l.sys.refOff = 0x4040 ∧ l.reg 0x4040 = 200) ∧
    (let l := after .a keyed (.registerWrite ⟨.a, 0⟩ 0x4040 ⟨.host, 0xF0, 0xF⟩)
     l.reg 0x4040 = 240 ∧ l.sys.keyHost = false) := by decide

/-- The positions of the grid, row by row. -/
def grid : List Position := (List.range 40).flatMap fun r => (List.range 40).map fun c => positionAt r (c + 1)

/-- 01 Table 1.13: 496 balls a lane, 64 of the shared corner, 48 depopulated. -/
theorem test_ball_sectors :
    (grid.count .empty = 48 ∧ grid.count .lid = 64) ∧
    ([LaneId.a, .b, .c].all fun k => (grid.filter fun p => match p with
      | .lane i _ => i == k
      | _ => false).length == 496) = true := by decide

/-- 17 Table 17.2: the balls of lane C that its groups count. -/
theorem test_ball_groups :
    [(Ball.gnd, 216), (.agnd, 37), (.pgnd, 25), (.vin, 24), (.vdrv, 8), (.dnc, 3), (.gh 2 5, 1), (.brkg, 1), (.sent 5, 1)].all
      (fun x => grid.count (.lane .c x.1) == x.2) = true := by decide

end Sys2Proof.Tests
end

section
/-! PROOFS. The architecture of the block (01): the queue's front command acts on the lane that its header names, and on no other. -/

namespace Sys2Proof.Machine

/-! The queue -/

/-- Settles O50: without a waiting command `step` takes its first branch. -/
theorem emptyQueueIdles : Obligations.EmptyQueueIdles := by
  intro s hempty
  simp only [step, hempty]

/-- Settles O51: by the definition of `step`, whose second branch takes the front command. -/
theorem stepRunsTheFrontCommand : Obligations.StepRunsTheFrontCommand := by
  intro c s
  rfl

/-! Replacing one lane of the block -/

@[simp] theorem State.lane_setLane_same (s : State) (k : LaneId) (was l : Lane) : (s.setLane k was l).lane k = l := by
  cases k <;> rfl

@[simp] theorem State.wasLane_setLane_same (s : State) (k : LaneId) (was l : Lane) : (s.setLane k was l).wasLane k = was := by
  cases k <;> rfl

theorem State.lane_setLane_other (s : State) {j k : LaneId} (was l : Lane) (hjk : j ≠ k) : (s.setLane k was l).lane j = s.lane j := by
  revert hjk
  cases k <;> cases j <;> simp [State.setLane, State.lane]

theorem State.wasLane_setLane_other (s : State) {j k : LaneId} (was l : Lane) (hjk : j ≠ k) :
    (s.setLane k was l).wasLane j = s.wasLane j := by
  revert hjk
  cases k <;> cases j <;> simp [State.setLane, State.wasLane]

@[simp] theorem State.pending_setLane (s : State) (k : LaneId) (was l : Lane) : (s.setLane k was l).pending = s.pending := by
  cases k <;> rfl

/-! What a command meets in its own lane -/

theorem State.arrive_congr {s t : State} {h : Hdr} (hlane : s.lane h.lane = t.lane h.lane) : s.arrive h = t.arrive h := by
  unfold State.arrive
  rw [hlane]

theorem State.start_congr {s t : State} {h : Hdr} (hlane : s.lane h.lane = t.lane h.lane)
    (hwas : s.wasLane h.lane = t.wasLane h.lane) : s.start h = t.start h := by
  unfold State.start
  rw [hwas, State.arrive_congr hlane]

/-- A command changes its own lane by a function of that lane and of its start of the cycle (16 R376), the same in every block. -/
def ActsOnOwnLane (c : Instr) : Prop := ∃ f : Lane → Lane → Lane, ∀ s, exec c s = s.onLane c.hdr (f (s.start c.hdr))

/-- A meaning that does not look at the start of the cycle. -/
theorem ActsOnOwnLane.of_onLane {c : Instr} {f : Lane → Lane} (hf : ∀ s, exec c s = s.onLane c.hdr f) : ActsOnOwnLane c :=
  ⟨fun _ => f, hf⟩

/-- No meaning takes anything else of the block: those named here read their lane's start of the cycle, the others not even that. -/
theorem actsOnOwnLane (c : Instr) : ActsOnOwnLane c := by
  cases c with
  | shmAccess h src addr data e => exact ⟨fun was l => l.whenAlive (opBusAccess was · src addr data e), fun _ => rfl⟩
  | parityError h off b entry =>
    exact ⟨fun was l => if isOffset off && decide (b < if entry.isSome then 192 else 32) && entry.all isEntry then
      l.whenAlive (opParity was · off b entry) else l, fun _ => rfl⟩
  | statusRead h q off => exact ⟨fun was l => if isStatusOffset off then l.readAt was q off else l, fun _ => rfl⟩
  | sysClkloRead h q => exact ⟨fun was l => l.readAt was q 0x0024, fun _ => rfl⟩
  | tlWsecLoRead h q => exact ⟨fun was l => l.readAt was q 0x1200, fun _ => rfl⟩
  | tlPerrRead h q => exact ⟨fun was l => l.readAt was q 0x1034, fun _ => rfl⟩
  | cvJitRead h q => exact ⟨fun was l => l.readAt was q 0x2010, fun _ => rfl⟩
  | sfSfeRead h q => exact ⟨fun was l => l.readAt was q 0x500C, fun _ => rfl⟩
  | lnTkoRead h q => exact ⟨fun was l => l.readAt was q 0x4820, fun _ => rfl⟩
  | lnPeerRead h q k => exact ⟨fun was l => if isPeer k then l.readAt was q (0x4830 + 4 * k) else l, fun _ => rfl⟩
  | hrSvcRead h q => exact ⟨fun was l => l.readAt was q 0x70A4, fun _ => rfl⟩
  | fbSentsRead h q n => exact ⟨fun was l => if isHallUnit n then l.readAt was q (0x18E4 + 0x80 * n) else l, fun _ => rfl⟩
  | spruePollReceive h b ident bs =>
    exact ⟨fun was l => if isBus b then l.hwUpdate was [Reg.TL_WRATE] (·.whenAlive (opPollRecv · b ident bs)) else l, fun _ => rfl⟩
  | axisRecordReceive h k seq crcOk n full r =>
    exact ⟨fun was l => if isPeer k && isAxis n then
      l.hwUpdate was [Reg.FB_AOFF n] (·.whenAlive (opAxisRecv · k seq crcOk n full r)) else l, fun _ => rfl⟩
  | laneRecordReceive h k seq crcOk full r =>
    exact ⟨fun was l => if isPeer k then
      l.hwUpdate was [Reg.TL_WRATE] (·.whenAlive (opLaneRecv · k seq crcOk full r)) else l, fun _ => rfl⟩
  | ppsEdge h => exact ⟨fun was l => l.hwUpdate was [Reg.TL_WRATE] (·.whenPads opPps), fun _ => rfl⟩
  | _ =>
    exact .of_onLane fun s => by
      dsimp only [exec]
      rfl

/-- One function of the lane and of its start of the cycle gives a command's lane in every block. -/
theorem exec_setLane (c : Instr) : ∃ g : Lane → Lane → Lane, ∀ s,
    exec c s = .next (s.setLane c.hdr.lane (s.start c.hdr) (g (s.start c.hdr) (s.arrive c.hdr))) := by
  obtain ⟨f, hf⟩ := actsOnOwnLane c
  exact ⟨fun was l => (f was l).settle l.isActive, hf⟩

/-- Settles O56: by `exec_setLane`, the lanes that agree arrive alike and are changed by one function, and `setLane` leaves the rest. -/
theorem commandsStayInTheirLane : Obligations.CommandsStayInTheirLane := by
  rintro c s t s' k rfl hlane hwas hexec
  obtain ⟨g, hg⟩ := exec_setLane c
  have harrive : s.arrive c.hdr = t.arrive c.hdr := State.arrive_congr hlane
  have hstart : s.start c.hdr = t.start c.hdr := State.start_congr hlane hwas
  obtain rfl : s.setLane c.hdr.lane (s.start c.hdr) (g (s.start c.hdr) (s.arrive c.hdr)) = s' :=
    Host.Outcome.next.inj ((hg s).symm.trans hexec)
  refine ⟨fun j hj => ⟨s.lane_setLane_other _ _ hj, s.wasLane_setLane_other _ _ hj⟩, s.pending_setLane .., _, hg t, ?_, ?_,
    fun j hj => ⟨t.lane_setLane_other _ _ hj, t.wasLane_setLane_other _ _ hj⟩, t.pending_setLane ..⟩
  · simp [harrive, hstart]
  · simp [hstart]

end Sys2Proof.Machine
end

section
/-! PROOFS. What a shared operation keeps of the status flags (16 R380): no event and no cause of a lane clears one. -/

namespace Sys2Proof.Machine

/-- `m` has every flag that `l` has, and its status table is canonical where that of `l` is. -/
def Lane.KeepsFlags (l m : Lane) : Prop := l.statOk → m.statOk ∧ ∀ off b, l.flagged off b = true → m.flagged off b = true

namespace Lane.KeepsFlags

variable {l m n : Lane}

theorem refl (l : Lane) : l.KeepsFlags l := fun hok => ⟨hok, fun _ _ hf => hf⟩

theorem trans (hlm : l.KeepsFlags m) (hmn : m.KeepsFlags n) : l.KeepsFlags n := fun hok =>
  ⟨(hmn (hlm hok).1).1, fun off b hf => (hmn (hlm hok).1).2 off b ((hlm hok).2 off b hf)⟩

/-- What leaves the status registers as they were keeps the flags. -/
theorem status_eq (h : l.KeepsFlags m) (e : n.status = m.status) : l.KeepsFlags n :=
  h.trans fun hok => ⟨statOk_of_eq e hok, fun off b hf => (flagged_of_eq e off b).trans hf⟩

/-- What does one of two things keeps the flags where both do. -/
theorem ite {c : Prop} [Decidable c] (hm : l.KeepsFlags m) (hn : l.KeepsFlags n) : l.KeepsFlags (if c then m else n) := by
  split <;> assumption

theorem event (h : l.KeepsFlags m) (off mask : Nat) : l.KeepsFlags (m.event off mask) :=
  h.trans fun hok => ⟨statOk_event m off mask hok, fun o b hf => flagged_event_mono m off mask o b hok hf⟩

theorem flag (h : l.KeepsFlags m) (off b : Nat) : l.KeepsFlags (m.flag off b) := h.event off (2 ^ b)

theorem evt (h : l.KeepsFlags m) (src flag unit : Nat) : l.KeepsFlags (m.evt src flag unit) :=
  h.trans fun hok => ⟨statOk_evt m src flag unit hok, fun o b hf => flagged_evt_mono m src flag unit o b hok hf⟩

theorem request (h : l.KeepsFlags m) (item : Nat) : l.KeepsFlags (m.request item) := by
  unfold Lane.request
  have hln := fun x => h.status_eq (n := { m with ln := x }) rfl
  exact .ite h (.flag (.event (hln _) _ _) _ _)

theorem dropToken (h : l.KeepsFlags m) : l.KeepsFlags m.dropToken := by
  unfold Lane.dropToken
  split
  · exact h
  · exact h
  · have hdrop : l.KeepsFlags (if m.ln.forHandover then m.sendDrop else m) := .ite (h.status_eq rfl) h
    have hln := fun x => hdrop.status_eq (n := { (if m.ln.forHandover then m.sendDrop else m) with ln := x }) rfl
    exact .flag (hln _) _ _
  · have hdrop := fun x => h.status_eq (n := { m.sendDrop with ln := x }) rfl
    exact .ite (.status_eq (.flag (hdrop _) _ _) (Lane.holdStarts_status _)) (.flag (hdrop _) _ _)

theorem trigger (h : l.KeepsFlags m) (code detail : Nat) : l.KeepsFlags (m.trigger code detail) := by
  unfold Lane.trigger
  extract_lets was f first ln0 l0 l1 l2 l3 it l4
  have h0 : l.KeepsFlags l0 := h.status_eq rfl
  have h1 : l.KeepsFlags l1 := .ite (h0.status_eq rfl) h0
  have h3 : l.KeepsFlags l3 := .ite h1.dropToken (h1.dropToken.status_eq (Lane.withdraw_status _))
  exact .evt (.ite h3 (h3.request it)) _ _ _

theorem settleRole (h : l.KeepsFlags m) : l.KeepsFlags m.settleRole := by
  unfold Lane.settleRole
  extract_lets l0
  have h0 : l.KeepsFlags l0 := .ite h.dropToken h
  exact .ite (.ite h (h.dropToken.status_eq (Lane.withdraw_status _))) (.ite (.ite (h0.status_eq rfl) h0) h)

theorem deferCause (h : l.KeepsFlags m) (code detail : Nat) : l.KeepsFlags (m.deferCause code detail) := by
  unfold Lane.deferCause
  extract_lets l0 l1
  have h0 : l.KeepsFlags l0 := h.status_eq (Lane.impair_status (m.setCause code detail) code)
  have h1 : l.KeepsFlags l1 := .ite h0 (h0.request _)
  exact .ite (.ite h1 (.ite (h1.status_eq (Lane.startHandover_status _ _)) (h1.status_eq rfl))) h1.settleRole

end Lane.KeepsFlags

end Sys2Proof.Machine
end

section
/-! PROOFS. The frame of an event: it changes status registers and what it sends to the host, nothing else (16 R380, 14 R342). -/

namespace Sys2Proof.Machine

/-- `m` is `l` but for its status registers and the host rings. -/
def Lane.FlagsOnly (l m : Lane) : Prop := m = { l with status := m.status, hr := m.hr }

theorem Lane.FlagsOnly.trans {l m n : Lane} (hlm : l.FlagsOnly m) (hmn : m.FlagsOnly n) : l.FlagsOnly n := by
  refine Eq.trans hmn ?_
  rw [hlm]

theorem flagsOnly_msix (l : Lane) (v : Nat) : l.FlagsOnly (l.msix v) := by
  unfold Lane.msix
  split
  · rfl
  · split
    · rfl
    · split <;> rfl

theorem flagsOnly_fireVectors (l : Lane) (off mask : Nat) : l.FlagsOnly (l.fireVectors off mask) := by
  unfold Lane.fireVectors
  generalize vectorMasks off = vs
  induction vs generalizing l with
  | nil => rfl
  | cons vm vs ih =>
    rw [List.foldl_cons]
    split
    · exact (flagsOnly_msix l vm.1).trans (ih _)
    · exact ih l

theorem flagsOnly_event (l : Lane) (off mask : Nat) : l.FlagsOnly (l.event off mask) := by
  unfold Lane.event
  cases groupOf off with
  | none => exact Lane.FlagsOnly.trans (m := l.eventAt off mask) rfl (flagsOnly_fireVectors _ off mask)
  | some g => exact Lane.FlagsOnly.trans (m := (l.eventAt off mask).eventAt g.1 (2 ^ g.2)) rfl (flagsOnly_fireVectors _ off mask)

/-- An event sets the flags of its mask. -/
theorem flagged_event_of_bit (l : Lane) (off mask b : Nat) (hok : l.statOk) (hb : bit (BitVec.ofNat 32 mask) b = true) :
    (l.event off mask).flagged off b = true := by
  have hset : (l.eventAt off mask).flagged off b = true := by
    unfold Lane.flagged Lane.eventAt
    rw [stat_setStat_self _ _ _ hok]
    simp [StatusReg.event, bit_or, hb]
  unfold Lane.event Lane.flagged
  rw [fireVectors_stat]
  cases groupOf off with
  | none => exact hset
  | some g => exact flagged_eventAt_mono _ _ _ _ _ (statOk_eventAt l _ _ hok) hset

end Sys2Proof.Machine
end

section
/-! PROOFS. A slice that fails, and what a result brings with it (04 R102, R108, R110). -/

namespace Sys2Proof.Machine

/-- A slice that enters a position stays as usable as it was. -/
theorem usable_vmod_enter (xs : Vector Slice 5) (h s : Nat) :
    (vget (vmod xs h Slice.enter) s noSlice).usable = (vget xs s noSlice).usable := by
  by_cases hs : s = h
  · subst hs
    by_cases h5 : s < 5
    · rw [vget_vmod_self _ _ _ _ h5]
      rfl
    · simp [vget, h5]
  · rw [vget_vmod_ne _ _ _ _ _ hs]

/-- A fault of a usable slice changes its converter alone in the conversion block, and leaves the slice unusable (04 R108). -/
theorem sliceFail_cv (l : Lane) (m s : Nat) (hs : s < 5) (hlost : ¬(4 ≤ m ∨ (!(vget (l.conv m).slice s noSlice).usable) = true)) :
    ∃ f : Converter → Converter, (l.sliceFail m s).cv = (l.modConv m f).cv ∧ ∀ c, (vget (f c).slice s noSlice).usable = false := by
  unfold Lane.sliceFail
  simp only [if_neg hlost, apply_ite Lane.cv, Lane.deferCause_cv, Lane.trigger_cv, Lane.evt_cv, Lane.event_cv, ite_self]
  refine ⟨_, rfl, fun c => ?_⟩
  simp only [Converter.train]
  split
  · rw [usable_vmod_enter, vget_vmod_self _ _ _ _ hs]
  · rw [vget_vmod_self _ _ _ _ hs]

/-- After the fault of a slice the slice is not usable. -/
theorem usable_sliceFail (l : Lane) {m s : Nat} (hm : m < 4) (hs : s < 5) :
    (vget ((l.sliceFail m s).conv m).slice s noSlice).usable = false := by
  by_cases hlost : 4 ≤ m ∨ (!(vget (l.conv m).slice s noSlice).usable) = true
  · have hsame : l.sliceFail m s = l := by
      unfold Lane.sliceFail
      exact if_pos hlost
    rw [hsame]
    simpa [Nat.not_le.mpr hm] using hlost
  · obtain ⟨f, hcv, hf⟩ := sliceFail_cv l m s hs hlost
    have hconv : (l.sliceFail m s).conv m = f (l.conv m) := by
      rw [← conv_modConv l m f hm]
      simp only [Lane.conv, hcv]
    rw [hconv]
    exact hf _

theorem Lane.KeepsFlags.sliceFail {l n : Lane} (h : l.KeepsFlags n) (m s : Nat) : l.KeepsFlags (n.sliceFail m s) := by
  unfold Lane.sliceFail
  dsimp only
  have hlost := fun f mask => ((h.status_eq (Lane.modConv_status n m f)).event Reg.CV_STATUS mask).evt 0x08 Bit.CV_SLICE_LOST m
  refine .ite h ?_
  exact .ite ((hlost _ _).deferCause _ _) (.ite ((hlost _ _).trigger _ _) (hlost _ _))

/-! A result that is written -/

/-- What judges a loop-back pair leaves the conversion block, the memory and the die as they were (11 R266). -/
theorem judgePair_keeps (l : Lane) (m e : Nat) :
    (l.judgePair m e).cv = l.cv ∧ (l.judgePair m e).ig = l.ig ∧ (l.judgePair m e).die = l.die := by
  have hmark : ∀ ch, (l.markOpen m ch).cv = l.cv ∧ (l.markOpen m ch).ig = l.ig ∧ (l.markOpen m ch).die = l.die := fun ch => by
    simp [Lane.markOpen]
  simp [Lane.judgePair, Lane.inputOpen, Lane.openCause, hmark, apply_ite Lane.cv, apply_ite Lane.ig, apply_ite Lane.die]

/-- A chopper sample is noted at the Runner port alone (07 R178). -/
theorem chopSample_keeps (l : Lane) (m ch : Nat) (v : Int) (hold : Nat) :
    (l.chopSample m ch v hold).cv = l.cv ∧ (l.chopSample m ch v hold).ig = l.ig ∧ (l.chopSample m ch v hold).die = l.die := by
  unfold Lane.chopSample
  split
  · exact ⟨rfl, rfl, rfl⟩
  · split <;> exact ⟨rfl, rfl, rfl⟩

/-- A shunt result reaches the commutator alone (05 R128). -/
theorem shuntResult_keeps (l : Lane) (e hold : Nat) (v : Int) :
    (l.shuntResult e hold v).cv = l.cv ∧ (l.shuntResult e hold v).ig = l.ig ∧ (l.shuntResult e hold v).die = l.die := by
  unfold Lane.shuntResult
  refine ⟨Lane.each_keeps (·.cv) _ ?_ _ l, Lane.each_keeps (·.ig) _ ?_ _ l, Lane.each_keeps (·.die) _ ?_ _ l⟩ <;>
    exact fun _ _ => rfl

/-- The word of a result register (04 R102): the corrected value, jit, the slice and the converter's level. -/
def Converter.resultWord (c : Converter) (s jit : Nat) (v : Int) : Word :=
  pack [(twos 18 v, 0), (min 255 jit, 18), (s, 26), (b2n c.degraded, 29), (b2n c.trained, 30), (b2n (!c.failed), 31)]

section
variable {l : Lane} {m s raw : Nat} {f : Flight} (hfind : (l.cv.flights.find? fun f => f.m == m && f.slice == s) = some f)
  (hawake : l.awake = true) (hready : f.cyc + 44 ≤ l.now)
include hfind hawake hready

/-- An in-service conversion that ends 44 cycles after its hold leaves its slice, and is judged (04 R91, R110). -/
theorem opConversion_check (hentry : f.entry = none) : opConversion l m s raw =
    let k := l.modCv fun c => { c with flights := c.flights.erase f }
    if 256 < (corrected (raw % 16384) (vget (l.conv m).slice s noSlice).coef f.zero - 32768).natAbs then
      (k.flag Reg.CV_STATUS Bit.CV_INSVC_FAIL).sliceFail m s
    else k := by
  have hgo : ¬((!l.awake) = true ∨ l.now < f.cyc + 44) := by simp [hawake, hready]
  unfold opConversion
  rw [hfind]
  simp only [if_neg hgo, hentry]
  rfl

/-- The conversion of an entry that ends 44 cycles after its hold leaves its slice, and its result is written (04 R91, R101, R102). -/
theorem opConversion_entry {e : Nat} (hentry : f.entry = some e) : opConversion l m s raw =
    let v := corrected (raw % 16384) (vget (l.conv m).slice s noSlice).coef f.zero
    let k := l.modCv fun c => { c with flights := c.flights.erase f }
    let k := ((k.setRes m e ((l.conv m).resultWord s f.jit v)).judgePair m e).chopSample m f.ch v f.cyc
    if m = 0 ∧ !(l.conv m).failed then k.shuntResult e f.cyc v else k := by
  have hgo : ¬((!l.awake) = true ∨ l.now < f.cyc + 44) := by simp [hawake, hready]
  unfold opConversion
  rw [hfind]
  simp only [if_neg hgo, hentry]
  rfl

/-- What the result of an entry changes in the conversion block; the memory and the die stay (04 R101, R102). -/
theorem opConversion_entry_effect {e : Nat} (hentry : f.entry = some e) :
    let w := (l.conv m).resultWord s f.jit (corrected (raw % 16384) (vget (l.conv m).slice s noSlice).coef f.zero)
    (opConversion l m s raw).cv = ((l.modCv fun c => { c with flights := c.flights.erase f }).setRes m e w).cv ∧
      (opConversion l m s raw).ig = l.ig ∧ (opConversion l m s raw).die = l.die := by
  rw [opConversion_entry hfind hawake hready hentry]
  refine ⟨?_, ?_, ?_⟩ <;>
    simp only [apply_ite Lane.cv, apply_ite Lane.ig, apply_ite Lane.die, shuntResult_keeps, chopSample_keeps, judgePair_keeps, ite_self] <;>
    rfl

/-- An in-service result within its window changes nothing but the slice that it leaves (04 R110). -/
theorem opConversion_inWindow (hentry : f.entry = none)
    (hin : (corrected (raw % 16384) (vget (l.conv m).slice s noSlice).coef f.zero - 32768).natAbs ≤ 256) :
    opConversion l m s raw = l.modCv fun c => { c with flights := c.flights.erase f } := by
  rw [opConversion_check hfind hawake hready hentry]
  exact if_neg (Nat.not_lt.mpr hin)

/-- An in-service result out of its window fails its slice (04 R110). -/
theorem opConversion_outOfWindow (hok : l.statOk) (hm : m < 4) (hs : s < 5) (hentry : f.entry = none)
    (hout : 256 < (corrected (raw % 16384) (vget (l.conv m).slice s noSlice).coef f.zero - 32768).natAbs) :
    (vget ((opConversion l m s raw).conv m).slice s noSlice).usable = false ∧
      (opConversion l m s raw).flagged Reg.CV_STATUS Bit.CV_INSVC_FAIL = true := by
  rw [opConversion_check hfind hawake hready hentry]
  simp only [if_pos hout]
  have hleft : (l.modCv fun c => { c with flights := c.flights.erase f }).statOk := statOk_of_eq (Lane.modCv_status l _) hok
  have hset := flagged_flag _ Reg.CV_STATUS Bit.CV_INSVC_FAIL hleft (by decide)
  exact ⟨usable_sliceFail _ hm hs, ((Lane.KeepsFlags.refl _).sliceFail m s (statOk_flag _ _ _ hleft)).2 _ _ hset⟩

end

end Sys2Proof.Machine
end

section
/-! PROOFS. Holds (04 R91, R94 to R98): what a hold changes, in one converter and in all four. -/

namespace Sys2Proof.Machine

/-- `m` is `l` after holds of one cycle: in the conversion block alone, and there in converters, slices and results; no conversion leaves
a slice, and no converter fails. -/
structure Lane.HoldStep (l m : Lane) : Prop where
  block : m = { l with cv := { l.cv with cv := m.cv.cv, flights := m.cv.flights, res := m.cv.res, resAt := m.cv.resAt } }
  grows : ∀ f ∈ l.cv.flights, f ∈ m.cv.flights
  failed : ∀ c, (m.conv c).failed = (l.conv c).failed

namespace Lane.HoldStep

theorem refl (l : Lane) : l.HoldStep l := ⟨rfl, fun _ hf => hf, fun _ => rfl⟩

theorem trans {l m n : Lane} (hlm : l.HoldStep m) (hmn : m.HoldStep n) : l.HoldStep n where
  block := by
    refine Eq.trans hmn.block ?_
    rw [hlm.block]
  grows f hf := hmn.grows f (hlm.grows f hf)
  failed c := (hmn.failed c).trans (hlm.failed c)

/-- A change of a converter that leaves its slices as they were. -/
theorem modConv (l : Lane) (m : Nat) (f : Converter → Converter) (hf : ∀ c, (f c).failed = c.failed) : l.HoldStep (l.modConv m f) where
  block := rfl
  grows _ h := h
  failed c := by
    by_cases hc : c = m
    · subst hc
      by_cases h4 : c < 4
      · rw [conv_modConv _ _ _ h4, hf]
      · simp [Lane.conv, vget, h4]
    · simp only [Lane.conv, Lane.modConv_cv, vget_vmod_ne _ _ _ _ _ hc]

/-- A conversion begins in a slice. -/
theorem addFlight (l : Lane) (x : Flight) : l.HoldStep (l.modCv fun v => { v with flights := v.flights ++ [x] }) where
  block := rfl
  grows _ hf := List.mem_append_left _ hf
  failed _ := rfl

theorem holdOn (l : Lane) (m e s : Nat) (seq : Option Nat) (jit : Nat) : l.HoldStep (l.holdOn m e s seq jit) := by
  unfold Lane.holdOn
  dsimp only
  split
  · exact refl l
  · split
    · exact ⟨rfl, fun _ hf => hf, fun _ => rfl⟩
    · exact addFlight l _

/-- A hold in each converter of a list. -/
theorem each {f : Lane → Nat → Lane} (hf : ∀ (l : Lane) m, l.HoldStep (f l m)) :
    ∀ (ms : List Nat) (l : Lane), l.HoldStep (l.each ms f)
  | [], l => refl l
  | m :: ms, l => (hf l m).trans (each hf ms (f l m))

end Lane.HoldStep

/-- A conversion that begins in one converter of a list is under way when all have held. -/
theorem mem_flights_each {f : Lane → Nat → Lane} (hf : ∀ (l : Lane) m, l.HoldStep (f l m)) {ms : List Nat} {c : Nat} (hc : c ∈ ms)
    {l : Lane} {x : Flight} (hx : ∀ k, l.HoldStep k → x ∈ (f k c).cv.flights) : x ∈ (l.each ms f).cv.flights := by
  obtain ⟨before, after, rfl⟩ := List.append_of_mem hc
  unfold Lane.each
  rw [List.foldl_append, List.foldl_cons]
  exact (Lane.HoldStep.each hf after _).grows x (hx _ (Lane.HoldStep.each hf before l))

/-- An entry of a code that is not reserved begins a conversion in a converter that is not FAILED (04 R94, R98). -/
theorem mem_flights_holdOn {l : Lane} {m e : Nat} (s : Nat) (seq : Option Nat) (jit : Nat) (hfailed : (l.conv m).failed = false)
    (hcode : chReserved m (l.chOf m e) = false) :
    { m := m, slice := s, entry := some e, ch := l.chOf m e, zero := l.zeroAt m e, cyc := l.now, seq := seq, jit := jit } ∈
      (l.holdOn m e s seq jit).cv.flights := by
  unfold Lane.holdOn
  simp [hfailed, hcode]

/-! The entries of a CONTROL sequence -/

/-- Entry `e` of the running CONTROL sequence `r` holds in converter `m`, on the position that its place among them gives (04 R94). -/
def Lane.controlEntry (r : SeqRun) (e : Nat) (l : Lane) (m : Nat) : Lane :=
  match (vget r.occ m [])[r.j % max 1 r.s]? with
  | some (p, s) => (l.holdOn m e s (some r.k) r.jit).modConv m fun c => { c with lastPos := p }
  | none => l

theorem holdStep_controlEntry (r : SeqRun) (e : Nat) (l : Lane) (m : Nat) : l.HoldStep (l.controlEntry r e m) := by
  unfold Lane.controlEntry
  split
  · exact (Lane.HoldStep.holdOn ..).trans (.modConv _ _ _ fun _ => rfl)
  · exact .refl l

/-- The lane after the holds of the entry of a CONTROL sequence in all four converters. -/
def Lane.controlEntries (l : Lane) (r : SeqRun) : Lane :=
  l.each (List.range 4) (Lane.controlEntry r (l.fld (Reg.CV_SEQ r.k) 22 5 + r.j))

theorem holdStep_controlEntries (l : Lane) (r : SeqRun) : l.HoldStep (l.controlEntries r) := .each (holdStep_controlEntry r _) _ l

/-- A CONTROL hold is its entry's holds, the captures of WCLK (02 R61) and the step to the next entry. -/
theorem controlHold_eq (l : Lane) (r : SeqRun) : ∃ capS resumeAt, l.controlHold r =
    { l.controlEntries r with
      tl := { (l.controlEntries r).tl with capS := capS }
      cv := { (l.controlEntries r).cv with
        run := if (l.controlEntries r).seqLen r.k ≤ r.j + 1 then none else some { r with j := r.j + 1 }, resumeAt := resumeAt } } := by
  refine ⟨(l.controlHold r).tl.capS, (l.controlHold r).cv.resumeAt, ?_⟩
  simp only [Lane.controlHold, decide_eq_true_eq]
  rfl

/-- What a CONTROL hold leaves as it was, and the entry that comes next (04 R94, R97). -/
theorem controlHold_effect (l : Lane) (r : SeqRun) :
    l.controlHold r = { l with cv := (l.controlHold r).cv, tl := { l.tl with capS := (l.controlHold r).tl.capS } } ∧
      (l.controlHold r).cv.reqs = l.cv.reqs ∧ (l.controlHold r).cv.jitMax = l.cv.jitMax ∧
      (l.controlHold r).cv.run = if l.seqLen r.k ≤ r.j + 1 then none else some { r with j := r.j + 1 } := by
  obtain ⟨capS, resumeAt, heq⟩ := controlHold_eq l r
  have hblock := (holdStep_controlEntries l r).block
  rw [heq]
  generalize l.controlEntries r = k at hblock
  rw [hblock]
  exact ⟨rfl, rfl, rfl, rfl⟩

/-- Entry 0 of a sequence begins a conversion in each converter that is not FAILED, in the slice of its first occupied position
(04 R94). -/
theorem controlHold_flight {l : Lane} {r : SeqRun} {c p s : Nat} {rest : List (Nat × Nat)} (hc : c < 4) (hfirst : r.j = 0)
    (hocc : vget r.occ c [] = (p, s) :: rest) (hfailed : (l.conv c).failed = false)
    (hcode : chReserved c (l.chOf c (l.fld (Reg.CV_SEQ r.k) 22 5)) = false) :
    ∃ f ∈ (l.controlHold r).cv.flights, f.m = c ∧ f.slice = s ∧ f.entry = some (l.fld (Reg.CV_SEQ r.k) 22 5) ∧ f.cyc = l.now ∧
      f.seq = some r.k ∧ f.jit = r.jit := by
  obtain ⟨capS, resumeAt, heq⟩ := controlHold_eq l r
  rw [heq]
  generalize he : l.fld (Reg.CV_SEQ r.k) 22 5 = e at hcode ⊢
  refine ⟨{ m := c, slice := s, entry := some e, ch := l.chOf c e, zero := l.zeroAt c e, cyc := l.now, seq := some r.k, jit := r.jit },
    ?_, rfl, rfl, rfl, rfl, rfl, rfl⟩
  refine mem_flights_each (holdStep_controlEntry r _) (List.mem_range.mpr hc) fun k hk => ?_
  have hregs : k.regs = l.regs := congrArg (·.regs) hk.block
  have hnow : k.now = l.now := congrArg (·.now) hk.block
  have hch : ∀ e, k.chOf c e = l.chOf c e := fun e => by simp only [Lane.chOf, Lane.fld, Lane.reg, hregs]
  have hzero : ∀ e, k.zeroAt c e = l.zeroAt c e := fun e => by simp only [Lane.zeroAt, hch]
  simp only [Lane.controlEntry, hfirst, Nat.zero_mod, hocc, List.getElem?_cons_zero, he, Nat.add_zero, ← hch, ← hzero, ← hnow]
  exact mem_flights_holdOn s _ _ ((hk.failed c).trans hfailed) (by rw [hch]; exact hcode)

end Sys2Proof.Machine
end

section
/-! PROOFS. The start of a CONTROL sequence and the monitor round (04 R94 to R98, R110). -/

namespace Sys2Proof.Machine

/-! The start of a CONTROL sequence -/

/-- A recorded jitter is kept as the largest where it is that, and sets its flags (04 R98, R99). -/
theorem noteJit_eq (l : Lane) (k jit : Nat) : ∃ jitSeq overrun status hr, l.noteJit k jit =
    { l with
      cv := { l.cv with jitMax := max l.cv.jitMax (min 0xFFFF jit), jitSeq := jitSeq, overrun := overrun }
      status := status
      hr := hr } := by
  unfold Lane.noteJit
  dsimp only
  split
  · exact ⟨_, _, _, _, rfl⟩
  · exact ⟨_, _, _, _, flagsOnly_event _ _ _⟩

theorem statOk_noteJit {l : Lane} (hok : l.statOk) (k jit : Nat) : (l.noteJit k jit).statOk := by
  unfold Lane.noteJit
  dsimp only
  split
  · exact statOk_of_eq rfl hok
  · exact statOk_event _ _ _ (statOk_of_eq rfl hok)

/-- A start that is late at all sets JITTER, and one that is more than 40 cycles late OVERRUN (04 R98, R99). -/
theorem flagged_noteJit {l : Lane} (hok : l.statOk) (k jit : Nat) :
    (0 < jit → (l.noteJit k jit).flagged Reg.CV_STATUS Bit.CV_JITTER = true) ∧
      (40 < jit → (l.noteJit k jit).flagged Reg.CV_STATUS Bit.CV_OVERRUN = true) := by
  unfold Lane.noteJit
  dsimp only
  constructor <;> intro hlate
  · have hpos : decide (0 < jit) = true := decide_eq_true hlate
    rw [hpos, if_neg (by simp [b2n, Bit.CV_JITTER])]
    refine flagged_event_of_bit _ _ _ _ (statOk_of_eq rfl hok) ?_
    cases decide (40 < jit) <;> decide
  · have hlong : decide (40 < jit) = true := decide_eq_true hlate
    rw [hlong, if_neg (by simp [b2n, Bit.CV_OVERRUN])]
    refine flagged_event_of_bit _ _ _ _ (statOk_of_eq rfl hok) ?_
    cases decide (0 < jit) <;> decide

/-- The run of a request that starts now: the present grid, its jitter, and the slices in their positions (04 R94, R97, R109). -/
def Lane.startRun (l : Lane) (q : SeqReq) : SeqRun :=
  { k := q.k, t0 := l.now, s := max 1 l.gridS, jit := l.now - q.tn, j := 0, occ := .ofFn fun m => (l.conv m.val).held }

/-- A request leaves the requests and its jitter is recorded. -/
def Lane.takeReq (l : Lane) (q : SeqReq) : Lane := (l.modCv fun c => { c with reqs := c.reqs.erase q }).noteJit q.k (l.now - q.tn)

theorem opSeqStart_next {l : Lane} {q : SeqReq} (hawake : l.awake = true) (hrun : l.cv.run = none) (hidle : l.allIdle = true)
    (hnext : nextReq l.cv.reqs = some q) : opSeqStart l = (l.takeReq q).controlHold (l.startRun q) := by
  have hgo : ¬((!l.awake) = true ∨ l.cv.run.isSome = true ∨ (!l.allIdle) = true) := by simp [hawake, hrun, hidle]
  unfold opSeqStart
  rw [if_neg hgo, hnext]
  rfl

/-- The first of a converter's occupied positions, where there is one. -/
theorem held_eq_cons {c : Converter} {s : Nat} (hfirst : vget c.pos (c.occ.getD 0 0) none = some s) :
    ∃ rest, c.held = (c.occ.getD 0 0, s) :: rest := by
  cases hocc : c.occ with
  | nil =>
    have hzero : 0 ∈ c.occ := by
      rw [hocc] at hfirst
      simp only [List.getD_nil] at hfirst
      simp [Converter.occ, hfirst]
    simp [hocc] at hzero
  | cons p ps =>
    rw [hocc] at hfirst
    simp only [List.getD_cons_zero] at hfirst
    exact ⟨_, by rw [Converter.held, hocc, List.filterMap_cons, hfirst]; rfl⟩

/-- The next arrived request starts: it leaves the requests, runs from this cycle, and its jitter is recorded (04 R95, R97 to R99). -/
theorem opSeqStart_effect {l : Lane} {q : SeqReq} (hawake : l.awake = true) (hrun : l.cv.run = none) (hidle : l.allIdle = true)
    (hnext : nextReq l.cv.reqs = some q) :
    opSeqStart l = { l with
        cv := (opSeqStart l).cv, tl := { l.tl with capS := (opSeqStart l).tl.capS }, status := (opSeqStart l).status,
        hr := (opSeqStart l).hr } ∧
      (opSeqStart l).cv.reqs = l.cv.reqs.erase q ∧
      (opSeqStart l).cv.run = (if l.seqLen q.k ≤ 1 then none else some { l.startRun q with j := 1 }) ∧
      (opSeqStart l).cv.jitMax = max l.cv.jitMax (min 0xFFFF (l.now - q.tn)) := by
  rw [opSeqStart_next hawake hrun hidle hnext]
  obtain ⟨hframe, hreqs, hmax, hnextRun⟩ := controlHold_effect (l.takeReq q) (l.startRun q)
  obtain ⟨jitSeq, overrun, status, hr, htake⟩ := noteJit_eq (l.modCv fun c => { c with reqs := c.reqs.erase q }) q.k (l.now - q.tn)
  replace htake : l.takeReq q = _ := htake
  refine ⟨?_, ?_, ?_, ?_⟩
  · rw [hframe, htake]
    rfl
  · rw [hreqs, htake]
    rfl
  · rw [hnextRun, htake]
    rfl
  · rw [hmax, htake]
    rfl

theorem flagged_opSeqStart {l : Lane} {q : SeqReq} (hok : l.statOk) (hawake : l.awake = true) (hrun : l.cv.run = none)
    (hidle : l.allIdle = true) (hnext : nextReq l.cv.reqs = some q) :
    (0 < l.now - q.tn → (opSeqStart l).flagged Reg.CV_STATUS Bit.CV_JITTER = true) ∧
      (40 < l.now - q.tn → (opSeqStart l).flagged Reg.CV_STATUS Bit.CV_OVERRUN = true) := by
  rw [opSeqStart_next hawake hrun hidle hnext]
  have hstatus : ((l.takeReq q).controlHold (l.startRun q)).status = (l.takeReq q).status :=
    congrArg (·.status) (controlHold_effect (l.takeReq q) (l.startRun q)).1
  rw [flagged_of_eq hstatus, flagged_of_eq hstatus, Lane.takeReq]
  exact flagged_noteJit (statOk_of_eq (Lane.modCv_status _ _) hok) _ _

/-- The first entry holds on every converter that is not FAILED, in the slice of its first occupied position (04 R94, R97). -/
theorem opSeqStart_flight {l : Lane} {q : SeqReq} {c s : Nat} (hawake : l.awake = true) (hrun : l.cv.run = none)
    (hidle : l.allIdle = true) (hnext : nextReq l.cv.reqs = some q) (hc : c < 4) (hfailed : (l.conv c).failed = false)
    (hcode : chReserved c (l.chOf c (l.fld (Reg.CV_SEQ q.k) 22 5)) = false)
    (hslice : vget (l.conv c).pos ((l.conv c).occ.getD 0 0) none = some s) :
    ∃ f ∈ (opSeqStart l).cv.flights, f.m = c ∧ f.slice = s ∧ f.entry = some (l.fld (Reg.CV_SEQ q.k) 22 5) ∧ f.cyc = l.now ∧
      f.seq = some q.k ∧ f.jit = l.now - q.tn := by
  rw [opSeqStart_next hawake hrun hidle hnext]
  obtain ⟨jitSeq, overrun, status, hr, htake⟩ := noteJit_eq (l.modCv fun c => { c with reqs := c.reqs.erase q }) q.k (l.now - q.tn)
  replace htake : l.takeReq q = _ := htake
  obtain ⟨rest, hheld⟩ := held_eq_cons hslice
  have hocc : vget (l.startRun q).occ c [] = ((l.conv c).occ.getD 0 0, s) :: rest := by
    rw [← hheld]
    simp [Lane.startRun, vget, hc]
  have hfound := controlHold_flight (l := l.takeReq q) hc rfl hocc
  rw [htake] at hfound ⊢
  exact hfound hfailed hcode

/-! The monitor round -/

/-- A monitor entry `e` holds in converter `m`, on the next of its occupied positions (04 R96). -/
def Lane.monitorEntry (e : Nat) (l : Lane) (m : Nat) : Lane :=
  match vget (l.conv m).pos (l.conv m).nextPos none with
  | some s => (l.holdOn m e s none 0).modConv m fun c => { c with lastPos := (l.conv m).nextPos }
  | none => l

theorem holdStep_monitorEntry (e : Nat) (l : Lane) (m : Nat) : l.HoldStep (l.monitorEntry e m) := by
  unfold Lane.monitorEntry
  split
  · exact (Lane.HoldStep.holdOn ..).trans (.modConv _ _ _ fun _ => rfl)
  · exact .refl l

/-- The lane after the holds of a monitor entry in all four converters. -/
def Lane.monitorEntries (l : Lane) (e : Nat) : Lane := l.each (List.range 4) (Lane.monitorEntry e)

theorem holdStep_monitorEntries (l : Lane) (e : Nat) : l.HoldStep (l.monitorEntries e) := .each (holdStep_monitorEntry e) _ l

/-- A monitor hold is its entry's holds and the step of the round, dated (04 R96). -/
theorem opMonitorHold_entry {l : Lane} {d i : Nat} (hready : l.monReady = true) (hnext : l.monNext = some (d, i)) :
    opMonitorHold l false = ((l.monitorEntries (l.fld (Reg.CV_SEQ d) 22 5 + i)).monAdvance d i).modCv fun c =>
      { c with monAt := some (l.monitorEntries (l.fld (Reg.CV_SEQ d) 22 5 + i)).now } := by
  have hgo : ¬(!l.monReady) = true := by simp [hready]
  unfold opMonitorHold
  rw [if_neg hgo, if_neg Bool.false_ne_true, hnext]
  rfl

/-- The round's place alone changes as it advances. -/
theorem monAdvance_eq (l : Lane) (d i : Nat) : ∃ monDesc monEntry rounds, l.monAdvance d i =
    { l with cv := { l.cv with monDesc := monDesc, monEntry := monEntry, rounds := rounds } } := by
  unfold Lane.monAdvance
  split
  · exact ⟨_, _, _, rfl⟩
  · split <;> exact ⟨_, _, _, rfl⟩

theorem monAdvance_within {l : Lane} {d i : Nat} (hmore : i + 1 < l.seqLen d) :
    l.monAdvance d i = l.modCv fun c => { c with monDesc := d, monEntry := i + 1 } := if_pos hmore

/-- After the last entry of the last descriptor the round ends and is counted (04 R96). -/
theorem monAdvance_end {l : Lane} {d i : Nat} (hend : l.seqLen d ≤ i + 1) (hlast : ∀ k ∈ l.monitors, k ≤ d) :
    l.monAdvance d i = l.modCv fun c =>
      { c with monDesc := (l.monitors.head?).getD 0, monEntry := 0, rounds := (c.rounds + 1) % 65536 } := by
  have hnone : l.monitors.find? (fun k => decide (d < k)) = none := by
    simpa [List.find?_eq_none] using hlast
  unfold Lane.monAdvance
  rw [if_neg (Nat.not_lt.mpr hend), hnone]

/-- What a monitor hold leaves as it was, and the entry that comes next (04 R96). -/
theorem opMonitorHold_effect {l : Lane} {d i : Nat} (hready : l.monReady = true) (hnext : l.monNext = some (d, i)) :
    opMonitorHold l false = { l with cv := (opMonitorHold l false).cv } ∧ (opMonitorHold l false).cv.monAt = some l.now ∧
      (opMonitorHold l false).cv.reqs = l.cv.reqs ∧ (opMonitorHold l false).cv.run = l.cv.run ∧
      (i + 1 < l.seqLen d → (opMonitorHold l false).cv.monDesc = d ∧ (opMonitorHold l false).cv.monEntry = i + 1 ∧
        (opMonitorHold l false).cv.rounds = l.cv.rounds) ∧
      (l.seqLen d ≤ i + 1 → (∀ k ∈ l.monitors, k ≤ d) →
        (opMonitorHold l false).cv.monEntry = 0 ∧ (opMonitorHold l false).cv.rounds = (l.cv.rounds + 1) % 65536) := by
  rw [opMonitorHold_entry hready hnext]
  have hblock := (holdStep_monitorEntries l (l.fld (Reg.CV_SEQ d) 22 5 + i)).block
  generalize l.monitorEntries (l.fld (Reg.CV_SEQ d) 22 5 + i) = k at hblock
  have hlen : k.seqLen d = l.seqLen d := by
    rw [hblock]
    rfl
  have hmonitors : k.monitors = l.monitors := by
    rw [hblock]
    rfl
  obtain ⟨monDesc, monEntry, rounds, hplace⟩ := monAdvance_eq k d i
  refine ⟨?_, ?_, ?_, ?_, fun hmore => ?_, fun hend hlast => ?_⟩
  · rw [hplace, hblock]
    rfl
  · rw [hblock]
    rfl
  · rw [hplace, hblock]
    rfl
  · rw [hplace, hblock]
    rfl
  · rw [monAdvance_within (hlen.symm ▸ hmore)]
    exact ⟨rfl, rfl, congrArg (·.cv.rounds) hblock⟩
  · rw [monAdvance_end (hlen.symm ▸ hend) (hmonitors.symm ▸ hlast)]
    exact ⟨rfl, congrArg (fun k => (k.cv.rounds + 1) % 65536) hblock⟩

/-! The in-service check -/

/-- An in-service check changes nothing, or notes itself in its converter and begins one conversion (04 R110). -/
theorem checkHold_cases (l : Lane) (m : Nat) : l.checkHold m = l ∨ ∃ (f : Converter → Converter) (x : Flight),
    (∀ c, (f c).failed = c.failed) ∧ l.checkHold m = (l.modConv m f).modCv fun v => { v with flights := v.flights ++ [x] } := by
  unfold Lane.checkHold
  extract_lets c fresh done p
  split
  · exact .inl rfl
  · split
    · exact .inl rfl
    · split
      · exact .inl rfl
      · refine .inr ⟨_, _, ?_, rfl⟩
        exact fun _ => rfl

theorem holdStep_checkHold (l : Lane) (m : Nat) : l.HoldStep (l.checkHold m) := by
  obtain hsame | ⟨f, x, hf, hheld⟩ := checkHold_cases l m
  · rw [hsame]
    exact .refl l
  · rw [hheld]
    exact (Lane.HoldStep.modConv l m f hf).trans (.addFlight _ x)

theorem checkHold_res (l : Lane) (m : Nat) : (l.checkHold m).cv.res = l.cv.res := by
  obtain hsame | ⟨f, x, -, hheld⟩ := checkHold_cases l m
  · rw [hsame]
  · rw [hheld]
    rfl

/-- An inserted in-service check holds without touching the round or a result (04 R110). -/
theorem opMonitorHold_check {l : Lane} (hready : l.monReady = true) :
    opMonitorHold l true = { l with cv := (opMonitorHold l true).cv } ∧ (opMonitorHold l true).cv.monAt = some l.now ∧
      (opMonitorHold l true).cv.monDesc = l.cv.monDesc ∧ (opMonitorHold l true).cv.monEntry = l.cv.monEntry ∧
      (opMonitorHold l true).cv.rounds = l.cv.rounds ∧ (opMonitorHold l true).cv.res = l.cv.res := by
  have hblock := (Lane.HoldStep.each holdStep_checkHold (List.range 4) l).block
  have hres := Lane.each_keeps (·.cv.res) Lane.checkHold checkHold_res (List.range 4) l
  have hgo : ¬(!l.monReady) = true := by simp [hready]
  have heq : opMonitorHold l true = (l.each (List.range 4) Lane.checkHold).modCv fun c =>
      { c with monAt := some l.now } := by
    unfold opMonitorHold
    rw [if_neg hgo, if_pos rfl]
  rw [heq]
  generalize l.each (List.range 4) Lane.checkHold = k at hblock hres
  refine ⟨?_, ?_, ?_, ?_, ?_, hres⟩ <;>
    · rw [hblock]
      rfl

end Sys2Proof.Machine
end

section
/-! PROOFS. The commands of the converters that hold and complete conversions (04 R91, R94 to R102, R110). -/

namespace Sys2Proof.Machine

/-! What each command does in an awake lane -/

section
variable {s : State} {h : Hdr} (hawake : (s.arrive h).awake = true)
include hawake

theorem onLane_whenAwake (f : Lane → Lane) : s.onLane h (·.whenAwake f) = .next (s.after h (f (s.arrive h))) :=
  congrArg (fun m => Host.Outcome.next (s.after h m)) (if_pos hawake)

theorem onLane_guarded {b : Bool} (hb : b = true) (f : Lane → Lane) :
    s.onLane h (fun l => if b then l.whenAwake f else l) = .next (s.after h (f (s.arrive h))) := by
  simpa only [hb, if_true] using onLane_whenAwake hawake f

theorem exec_nominalInstant {k : Nat} (hk : k < 16) :
    exec (.nominalInstant h k) s = .next (s.after h (opNominal (s.arrive h) k)) :=
  onLane_guarded hawake (decide_eq_true hk) (opNominal · k)

theorem exec_conversionComplete {c sl raw : Nat} (hc : c < 4) (hsl : sl < 5) (hraw : raw < 16384) :
    exec (.conversionComplete h c sl raw) s = .next (s.after h (opConversion (s.arrive h) c sl raw)) :=
  have hwf : (isConv c && decide (sl < 5) && decide (raw < 16384)) = true := by simp [isConv, hc, hsl, hraw]
  onLane_guarded hawake hwf (opConversion · c sl raw)

end

/-! NOMINAL_INSTANT, CONTROL_HOLD, MONITOR_HOLD and MONITOR_RESUME, where they act and where they do not -/

theorem opNominal_due {l : Lane} {k : Nat} (hawake : l.awake = true)
    (hdue : ∃ r ∈ l.cv.reqs, r.k = k ∧ r.arrived = false ∧ r.tn ≤ l.now) :
    opNominal l k = l.modCv fun c =>
      { c with suspended := true, reqs := c.reqs.map fun r => if r.k = k then { r with arrived := true } else r } := by
  refine if_neg ?_
  simpa [hawake, and_assoc] using hdue

theorem opNominal_idle {l : Lane} {k : Nat} (hnone : ∀ r ∈ l.cv.reqs, ¬(r.k = k ∧ r.arrived = false ∧ r.tn ≤ l.now)) :
    opNominal l k = l := by
  refine if_pos (.inr ?_)
  simpa using hnone

theorem opControlHold_due {l : Lane} {r : SeqRun} (hawake : l.awake = true) (hrun : l.cv.run = some r)
    (hdue : r.t0 + grid r.j r.s ≤ l.now) : opControlHold l = l.controlHold r := by
  unfold opControlHold
  rw [hrun]
  exact if_pos (by simp [hawake, hdue])

theorem opControlHold_early {l : Lane} {r : SeqRun} (hrun : l.cv.run = some r) (hearly : l.now < r.t0 + grid r.j r.s) :
    opControlHold l = l := by
  unfold opControlHold
  rw [hrun]
  exact if_neg (by simp [hearly])

theorem opMonitorHold_blocked {l : Lane} (hblocked : l.monReady = false) (check : Bool) : opMonitorHold l check = l :=
  if_pos (by simp [hblocked])

theorem opMonitorResume_ready {l : Lane} (hawake : l.awake = true) (hsuspended : l.cv.suspended = true) (hrun : l.cv.run = none)
    (hreqs : ∀ r ∈ l.cv.reqs, r.arrived = false) (hresume : l.cv.resumeAt ≤ l.now) :
    opMonitorResume l = l.modCv fun c => { c with suspended := false, monAt := none } :=
  if_pos (by simpa [hawake, hsuspended, hrun, hresume] using hreqs)

/-- Settles O20: each clause is what its command's operation does, by the laws of holds, of the round and of results above. -/
theorem conversionsHoldAndComplete : Obligations.ConversionsHoldAndComplete := by
  rintro s h l rfl hsound hawake
  have hrow := @onLane_whenAwake s h hawake
  refine ⟨fun k hk hdue => ?_, fun k hk hnone => ?_, fun q hrun hidle hnext => ?_, fun r hrun hdue => ?_, fun r hrun hearly => ?_,
    fun d i hready hnext => ?_, fun hready => ?_, fun check hblocked => ?_, fun hsuspended hrun hreqs hresume => ?_,
    fun c sl raw f hc hsl hraw hres hfind hready => ?_⟩
  · rw [exec_nominalInstant hawake hk, opNominal_due hawake hdue]
    rfl
  · rw [exec_nominalInstant hawake hk, opNominal_idle hnone]
  · obtain ⟨hframe, hreqs, hnextRun, hmax⟩ := opSeqStart_effect hawake hrun hidle hnext
    obtain ⟨hjitter, hoverrun⟩ := flagged_opSeqStart hsound.statOk hawake hrun hidle hnext
    exact ⟨_, hrow opSeqStart, hframe, hreqs, hnextRun, hmax, hjitter, hoverrun, fun c sl hc hfailed hcode hslice =>
      opSeqStart_flight hawake hrun hidle hnext hc hfailed hcode hslice⟩
  · obtain ⟨hframe, hreqs, -, hnextRun⟩ := controlHold_effect (s.arrive h) r
    exact ⟨_, (hrow opControlHold).trans (by rw [opControlHold_due hawake hrun hdue]), hframe, hreqs, hnextRun⟩
  · exact (hrow opControlHold).trans (by rw [opControlHold_early hrun hearly])
  · exact ⟨_, hrow (opMonitorHold · false), opMonitorHold_effect hready hnext⟩
  · exact ⟨_, hrow (opMonitorHold · true), opMonitorHold_check hready⟩
  · exact (hrow (opMonitorHold · check)).trans (by rw [opMonitorHold_blocked hblocked])
  · exact (hrow opMonitorResume).trans (by rw [opMonitorResume_ready hawake hsuspended hrun hreqs hresume]; rfl)
  · rw [exec_conversionComplete hawake hc hsl hraw]
    have hcode : raw % 16384 = raw := Nat.mod_eq_of_lt hraw
    refine ⟨fun e hentry => ?_, fun hentry hin => ?_, fun hentry hout => ?_⟩
    · obtain ⟨hcv, hig, hdie⟩ := opConversion_entry_effect (raw := raw) hfind hawake hready hentry
      refine ⟨_, rfl, ?_, hig, hdie, ?_, fun j hj => ?_⟩
      · rw [hcv]
        rfl
      · rw [hcv, hcode]
        exact fget_fset_self _ _ 0 _ _ hres
      · rw [hcv]
        exact fget_fset_ne _ _ 0 _ _ _ hres hj
    · rw [opConversion_inWindow hfind hawake hready hentry (by rw [hcode]; exact hin)]
      rfl
    · exact ⟨_, rfl, opConversion_outOfWindow hfind hawake hready hsound.statOk hc hsl hentry (by rw [hcode]; exact hout)⟩

end Sys2Proof.Machine
end

section
/-! PROOFS. A write of CV_ROT.INT that names the value the field holds (04 R104, 16 R377): the present turns keep their EFF, which the
ageing level may have left behind (11 R265). -/

namespace Sys2Proof.Machine

/-- A lane in SETUP, withdrawn in a module that limps, whose ageing level rose to 1 after its present turns began: they still have
EFF 1,000 µs, that of level 0, where a turn that began now would have 500 (11 R265). Its Sprue ports are unusable. -/
def agedLane : Lane :=
  { initLane .a with
    ln := { initLaneCtl with role := .withdrawn, cond := 2, holder := 1 }
    ts := { initTemper with level := 1, unusable := 3 }
    sf := { initSafety with prof := 3, limp := true } }

/-- The block after reset with lane A aged. -/
def agedState : State := State.reset.setLane .a agedLane agedLane

/-- The aged lane with other keys, registers and conversion block: what a write of CV_ROT can make of it. -/
def agedWith (sys : Sys) (regs : Table Word) (cv : Conversion) : Lane := { agedLane with sys := sys, regs := regs, cv := cv }

theorem arrive_agedState : agedState.arrive ⟨.a, 0⟩ = agedLane := by
  unfold State.arrive
  rfl

theorem sound_agedLane : agedLane.Sound .a := by
  refine ⟨rfl, rfl, rfl, rfl, ?_, ?_, ?_⟩ <;> decide

/-! What follows a command in the aged lane: nothing, whatever its registers and its conversion block hold -/

section
variable (sys : Sys) (regs : Table Word) (cv : Conversion)

theorem sprueAlive_agedWith {b : Nat} (hunusable : (3 : Nat).testBit b = true) : (agedWith sys regs cv).sprueAlive b = false := by
  have hts : (agedWith sys regs cv).ts.unusable.testBit b = true := hunusable
  simp only [Lane.sprueAlive, hts, Bool.not_true, Bool.and_false, Bool.false_and]

/-- No command path is alive, and none was (08 R209). -/
theorem pathEdges_agedWith : (agedWith sys regs cv).pathEdges = agedWith sys regs cv := by
  have hhost : (agedWith sys regs cv).hostAlive = false := rfl
  have hsame : (agedWith sys regs cv).pathsAlive = (agedWith sys regs cv).ln.alive := by
    rw [Lane.pathsAlive, sprueAlive_agedWith sys regs cv rfl, sprueAlive_agedWith sys regs cv rfl, hhost]
    rfl
  exact if_pos hsame

/-- No connection is faulted, so no axis is without commands (13 R316). -/
theorem without_agedWith (n : Nat) : (agedWith sys regs cv).without n = false := by
  have hconn : ∀ k, ((agedWith sys regs cv).conn k).fault = false := by
    intro k
    simp [Lane.conn, vget, agedWith, agedLane, initLane, initEnvelopes, initConn]
  unfold Lane.without
  cases (agedWith sys regs cv).covering n <;> simp [hconn]

theorem withoutSync_agedWith : (agedWith sys regs cv).withoutSync false = agedWith sys regs cv := by
  have hnone : maskOf 6 (fun n => (agedWith sys regs cv).enabled n && (agedWith sys regs cv).without n) = 0 := by
    simp [maskOf, without_agedWith, List.range, List.range.loop]
  exact if_pos ⟨hnone, rfl⟩

/-- A port of a lane in SETUP waits for no mastership and ends none (12 R295). -/
theorem spWatch_agedWith (b : Nat) : (agedWith sys regs cv).spWatch b = agedWith sys regs cv := by
  have hport : (agedWith sys regs cv).busOf b = initBus := by
    simp [Lane.busOf, vget, agedWith, agedLane, initLane, initSprue]
  have hmay : (agedWith sys regs cv).mayMaster b = false := by
    have hrole : ((agedWith sys regs cv).ln.role != .withdrawn) = false := rfl
    rw [Lane.mayMaster, hrole, Bool.and_false, Bool.false_and]
  have hend : (agedWith sys regs cv).endWithSlot b false = agedWith sys regs cv := by
    simp [Lane.endWithSlot, hport, initBus]
  simp [Lane.spWatch, hmay, hend, hport, initBus]

theorem settleRest_agedWith : (agedWith sys regs cv).settleRest false = agedWith sys regs cv := by
  have hviews : (agedWith sys regs cv).viewWatch = agedWith sys regs cv := rfl
  have hinactive : ((agedWith sys regs cv).isActive && !false) = false := rfl
  have hclock : (agedWith sys regs cv).clockStep = agedWith sys regs cv := rfl
  have himpaired : (agedWith sys regs cv).ln.impaired.getLsbD 2 = false := BitVec.getLsbD_zero
  have hsensors : (agedWith sys regs cv).sensorsClear = agedWith sys regs cv := by
    rw [Lane.sensorsClear, himpaired]
    rfl
  have hcause : (agedWith sys regs cv).settleCause = agedWith sys regs cv := rfl
  have htests : (agedWith sys regs cv).nextTest = agedWith sys regs cv := rfl
  have hend : (agedWith sys regs cv).entryHeld.entryDone.profileSync = agedWith sys regs cv := rfl
  simp only [Lane.settleRest, pathEdges_agedWith, hviews, hinactive, withoutSync_agedWith, hclock, hsensors, hcause, htests,
    spWatch_agedWith, hend]

theorem settle_agedWith : (agedWith sys regs cv).settle false = agedWith sys regs cv := by
  have halive : (agedWith sys regs cv).alive = true := rfl
  have hroles : (agedWith sys regs cv).settleRoles = agedWith sys regs cv := rfl
  have hreset : (agedWith sys regs cv).resetDue = agedWith sys regs cv := rfl
  rw [Lane.settle, if_pos halive, hroles, settleRest_agedWith, hreset]

end

/-- The block after a command that made the aged lane what a write of CV_ROT can make of it. -/
theorem lane_after_agedWith (sys : Sys) (regs : Table Word) (cv : Conversion) :
    (agedState.after ⟨.a, 0⟩ (agedWith sys regs cv)).lane .a = agedWith sys regs cv := by
  rw [State.after, State.put, arrive_agedState, State.lane_setLane_same]
  exact settle_agedWith sys regs cv

/-- INT holds 1,000: a write of 1,000 changes no field (16 R377), and only consumes the writer's key (16 R384). -/
theorem landWrite_rot_agedLane :
    agedLane.landWrite Reg.CV_ROT ⟨.internal, 0x3E8, 0xF⟩ =
      agedWith { agedLane.sys with keyInt := false } agedLane.regs agedLane.cv := rfl

/-- Refutes O21, in its clause of CV_ROT: a write of INT with the value it holds is skipped (16 R377), so the turns of `agedState` keep
EFF 1,000, where the clause asks for the 500 of the present ageing level. -/
theorem not_slicesTurnAndSwap : ¬ Obligations.SlicesTurnAndSwap := by
  intro hall
  obtain ⟨-, -, -, -, hrot⟩ := hall agedState ⟨.a, 0⟩ agedLane arrive_agedState.symm sound_agedLane
  obtain ⟨m, hexec, hm, -, -, heff, -⟩ := hrot .internal 0x3E8 rfl
  have hm' : m = agedWith m.sys m.regs { agedLane.cv with eff := m.cv.eff, cv := m.cv.cv } := hm
  have hwritten : exec (.cvRotWrite ⟨.a, 0⟩ ⟨.internal, 0x3E8, 0xF⟩) agedState =
      .next (agedState.after ⟨.a, 0⟩ (agedLane.landWrite Reg.CV_ROT ⟨.internal, 0x3E8, 0xF⟩)) := by
    rw [← arrive_agedState]
    rfl
  have hsame := congrArg (State.lane · .a) (Host.Outcome.next.inj (hexec.symm.trans hwritten))
  rw [hm', landWrite_rot_agedLane] at hsame
  simp only [lane_after_agedWith] at hsame
  have hkept : m.cv.eff = 1000 := congrArg (·.cv.eff) hsame
  have hnew : m.cv.eff = 500 := heff
  omega

end Sys2Proof.Machine
end
